-- ==== Sys2Proof/Word.lean ====
section
/-! DEFINITION. Word.lean: the word types the manual's layouts use (bytes, 16-bit digests and ticks, the 32-bit ordinal),
the index lists of the station's numbered parts, and the one way the model updates a table of fixed size. -/

namespace Sys2Proof

/-- One byte of a layout (frame payload, configuration image, notice). -/
abbrev Byte := BitVec 8

/-- A tick number, a digest, or the low half of an ordinal. -/
abbrev Word16 := BitVec 16

/-- An ordinal (R16: counted modulo 2^32). -/
abbrev Word32 := BitVec 32

/-- A station number 0 to 15. -/
abbrev Station := Fin 16

/-- A global lock slot 0 to 7. -/
abbrev Slot := Fin 8

/-- A mode id 0 to 7. -/
abbrev ModeId := Fin 8

/-- A player, held as the index of its record: player n of the manual (1 to 4) is index n - 1. -/
abbrev PlayerIx := Fin 4

/-- A local switch 0 to 31. -/
abbrev Switch := Fin 32

/-- A switch expander 0 to 2. -/
abbrev Expander := Fin 3

/-- A sensor channel 0 to 3. -/
abbrev Channel := Fin 4

/-- A driver output 0 to 7. -/
abbrev Output := Fin 8

/-- A lamp 0 to 15. -/
abbrev Lamp := Fin 16

/-- The indices 0 to n - 1 in ascending order. -/
abbrev indices (n : Nat) : List (Fin n) := List.finRange n

/-- A table of fixed size with every entry replaced by a function of its index and its old content. -/
def vmap {α β : Type} {n : Nat} (f : Fin n → α → β) (v : Vector α n) : Vector β n :=
  ⟨⟨(v.toList.zip (indices n)).map (fun p => f p.2 p.1)⟩, by simp⟩

/-- A table of fixed size given entry by entry. -/
def vtab {α : Type} {n : Nat} (f : Fin n → α) : Vector α n :=
  ⟨⟨(indices n).map f⟩, by simp⟩

end Sys2Proof
end

