-- ==== Sys2Proof/Machine/Bits.lean ====
section
/-! DEFINITION. Machine/Bits.lean: bits, bytes and the two CRCs, as every layout of the manual uses them (R106, R108, R13,
R178, R183): the most significant bit and the most significant byte first. -/

namespace Sys2Proof.Machine

/-- The low `n` bits of `v`, most significant first. -/
def toBits : Nat → Nat → List Bool
  | 0, _ => []
  | n + 1, v => v.testBit n :: toBits n v

/-- The number the bits of `l` spell, most significant first. -/
def bitsValue (l : List Bool) : Nat := l.foldl (fun a b => 2 * a + b.toNat) 0

/-- The bits `off` to `off + n - 1` of a sampled frame; a bit that was not sampled reads recessive (log entry 4). -/
def bitField (bits : List Bool) (off n : Nat) : Nat :=
  bitsValue (((bits.drop off) ++ List.replicate n true).take n)

/-- R107: the number of payload bytes a receiver counts: the length field, or 8 where that is 9 to 15. -/
def countedBytes (bits : List Bool) : Nat :=
  if bitField bits 10 4 ≤ 8 then bitField bits 10 4 else 8

/-- R107: header, counted payload and check, in bits. -/
def countedBits (bits : List Bool) : Nat := 14 + 8 * countedBytes bits + 8

/-- The `n` bytes of `v`, most significant first (R106, R178). -/
def toBytes : Nat → Nat → List Byte
  | 0, _ => []
  | n + 1, v => BitVec.ofNat 8 (v >>> (8 * n)) :: toBytes n v

/-- The number the bytes of `l` spell, most significant first. -/
def bytesValue (l : List Byte) : Nat := l.foldl (fun a b => 256 * a + b.toNat) 0

/-- The bits of a run of bytes, each byte most significant bit first. -/
def bytesToBits (l : List Byte) : List Bool := l.flatMap (fun b => toBits 8 b.toNat)

/-- A register shifted through a run of bits, one step a bit. (The register is evaluated before each bit, so that the
kernel carries a number and not a growing expression.) -/
def crcRun (step : Nat → Bool → Nat) : Nat → List Bool → Nat
  | r, [] => r
  | 0, b :: bs => crcRun step (step 0 b) bs
  | r + 1, b :: bs => crcRun step (step (r + 1) b) bs

/-- R13: one bit of the CRC-16, x^16 + x^12 + x^5 + 1. -/
def crc16Step (r : Nat) (b : Bool) : Nat :=
  ((2 * r) % 65536) ^^^ (if r.testBit 15 != b then 0x1021 else 0)

/-- R13: the CRC-16 of a run of bytes, from FFFFh. -/
def crc16 (l : List Byte) : Word16 := BitVec.ofNat 16 (crcRun crc16Step 0xFFFF (bytesToBits l))

/-- R108: one bit of the CRC-8, x^8 + x^2 + x + 1. -/
def crc8Step (r : Nat) (b : Bool) : Nat :=
  ((2 * r) % 256) ^^^ (if r.testBit 7 != b then 0x07 else 0)

/-- R108: the CRC-8 of a run of bits, from FFh. -/
def crc8 (l : List Bool) : Byte := BitVec.ofNat 8 (crcRun crc8Step 0xFF l)

/-- A set of numbered items as a mask in which bit n stands for item n (R21, R106). -/
def maskOf {n : Nat} (w : Nat) (p : Fin n → Bool) : BitVec w :=
  BitVec.ofNat w (((indices n).map (fun i => if p i then 2 ^ i.val else 0)).sum)

/-- A flag as the number a layout carries. -/
def flag (b : Bool) : Nat := b.toNat

end Sys2Proof.Machine
end

