-- ==== Sys2Proof/Config.lean ====
section
/-! DEFINITION. Config.lean: what every CK-2410 fixes: the capacities of its queues and the lengths of its local timers.
Local time is held in microseconds (log entry 2). The one value that nothing the station is told gives is a free value
(log entry 31). -/

namespace Sys2Proof.Config

/-- R120: the inbound queue holds up to 4 frames. -/
abbrev inboundCapacity : Nat := 4
/-- R128: the claim queue holds up to 8 claims. -/
abbrev claimCapacity : Nat := 8
/-- R152: the switch event queue holds up to 16 events. -/
abbrev eventCapacity : Nat := 16
/-- R182: the notice FIFO holds up to 32 notices. -/
abbrev noticeCapacity : Nat := 32
/-- R22: the history ring holds up to 16 entries. -/
abbrev historyCapacity : Nat := 16
/-- R11: the mode table holds up to 8 entries. -/
abbrev modeTableCapacity : Nat := 8
/-- R75, check 7: at most 4 active modes. -/
abbrev activeModeLimit : Nat := 4
/-- R49: serve_pending stays at 8 when raised there. -/
abbrev servePendingMax : Nat := 8
/-- R7, R99: locks lit is at most 4. -/
abbrev locksLitMax : Nat := 4
/-- R102: the highest score, in units. -/
abbrev scoreMax : Nat := 99999999999
/-- R101: the highest jackpot value, in units. -/
abbrev jackpotMax : Nat := 16777215
/-- R91: the playfield multiplier is capped at 5. -/
abbrev multiplierMax : Nat := 5
/-- R34: a roll call lasts 10 ticks. -/
abbrev rollcallTicks : Nat := 10
/-- R43: a ball end is given 100 ticks. -/
abbrev ballEndTicks : Nat := 100
/-- R37: a member 30 ticks behind is silent. -/
abbrev silenceTicks : Nat := 30
/-- R78: a hold expires 50 ticks after it is set. -/
abbrev holdTicks : Nat := 50
/-- R135: the presence count runs to 10. -/
abbrev presenceMax : Nat := 10
/-- R136: a claim is dropped at its fourth veto. -/
abbrev attemptLimit : Nat := 4
/-- R121: the reception fault score saturates at 255. -/
abbrev faultScoreMax : Nat := 255
/-- R121: a failed reception raises the score by 4. -/
abbrev faultScoreRaise : Nat := 4
/-- R121: at 32 the station enters QUIET. -/
abbrev quietThreshold : Nat := 32
/-- R123: 128 clean frames end QUIET. -/
abbrev cleanRunGoal : Nat := 128

/-- One millisecond of local time, in the model's microseconds. -/
abbrev ms : Nat := 1000
/-- R2: the sync silence timer runs 3,000 ms. -/
abbrev syncSilence : Nat := 3000 * ms
/-- R4: a sync start needs 1,000 ms counted. -/
abbrev syncStartMinimum : Nat := 1000 * ms
/-- R110: 2 bit times of 2.5 µs. -/
abbrev freeAfterFrame : Nat := 5
/-- R110, R111: 16 bit times of 2.5 µs. -/
abbrev sixteenBitTimes : Nat := 40
/-- R105, R106: the least time from the first falling edge of SBC to the rising edge of the sixth header bit, the last of
the sender field: five bit times and a half, 13.75 µs, rounded up. -/
abbrev senderFieldTime : Nat := 14
/-- R105, R109: by how many microseconds the sender field of this station's `n`-th contention takes longer than that: the
other transmitters of the frame stretch SBC, and a start mark precedes it. A FREE VALUE: nothing constrains it (log entry
31). -/
opaque senderStretch (n : Nat) : Nat
/-- R134: the tick timer's period, 100 ms and 1 ms more for each station number. -/
abbrev tickPeriod (station : Station) : Nat := (100 + station.val) * ms
/-- R144: the direct pins are sampled every 1 ms. -/
abbrev samplePeriod : Nat := 1 * ms
/-- R148: the refresh timer's period. -/
abbrev refreshPeriod : Nat := 50 * ms
/-- R154: the unit of a counting window. -/
abbrev windowUnit : Nat := 256
/-- R167, R168, R170: the retry timers run 5,000 ms. -/
abbrev retryTime : Nat := 5000 * ms
/-- R173: half of the 1,000 ms attract cycle. -/
abbrev attractHalf : Nat := 500 * ms
/-- R183: `n` bytes of 10 bits at 115,200 bit/s, rounded up to a microsecond. -/
abbrev uartTime (n : Nat) : Nat := (n * 10 * 1000000 + 115199) / 115200

end Sys2Proof.Config
end

