-- ==== Sys2Proof/Syntax.lean ====
section
/-! DEFINITION. Syntax.lean: the commands of the station, one constructor for each row of spec/opcode_table.json, in the
table's order. The part has no register window and no instruction words: a row is an event (a bus mark, a timer's end,
a sample, the application of an accepted frame), and its operands are what the outside brings to that event. A frame's
application takes its sender and payload from the inbound queue (R14), so those rows have no operands (log entry 3). -/

namespace Sys2Proof

/-- The commands. Bits sampled from the bus are written `true` for recessive (1) and `false` for dominant (0). -/
inductive Instr
  /-- DEVICE_RESET (R175): `straps` is STN3..STN0 and `listenLow` is LISTEN# read low, both as sampled on release. -/
  | deviceReset (straps : BitVec 4) (listenLow : Bool)
  /-- CONFIGURATION_READ (R176): `image` is the run of bytes clocked in on CMISO. -/
  | configurationRead (image : List Byte)
  /-- BUS_FREE (R110). -/
  | busFree
  /-- YIELD_TIMEOUT (R111). -/
  | yieldTimeout
  /-- CONTENTION (R112). -/
  | contention
  /-- START_MARK (R112). -/
  | startMark
  /-- ARBITRATION_LOST (R113). -/
  | arbitrationLost
  /-- LATE_LOSS (R114). -/
  | lateLoss
  /-- STRAY_MARK (R117). -/
  | strayMark
  /-- END_MARK (R116): `bits` are the header, payload and check bits sampled since the start mark, in wire order;
  `vetoedByOther` says that some other station holds the veto slot dominant. -/
  | endMark (bits : List Bool) (vetoedByOther : Bool)
  /-- MISSING_END_MARK (R118): `bits` as for END_MARK. -/
  | missingEndMark (bits : List Bool)
  /-- CUT (R119). -/
  | cut
  /-- QUIET_EXIT (R123). -/
  | quietExit
  /-- STUCK (R124). -/
  | stuck
  /-- STUCK_CLEAR (R124). -/
  | stuckClear
  /-- SYNC_SILENCE_EXPIRY (R2). -/
  | syncSilenceExpiry
  /-- LOSS_OF_VALIDITY (R3). -/
  | lossOfValidity
  /-- TILT (R40). -/
  | tilt
  /-- NUDGE (R41). -/
  | nudge
  /-- LOCK (R56). -/
  | lock
  /-- LOST (R59). -/
  | lost
  /-- RELEASED (R60). -/
  | released
  /-- JAMMED (R61). -/
  | jammed
  /-- DRAIN (R62). -/
  | drain
  /-- LAUNCHED (R63). -/
  | launched
  /-- START (R29). -/
  | start
  /-- HIT (R95). -/
  | hit
  /-- MODE (R75). -/
  | mode
  /-- HOLD_SET (R78). -/
  | holdSet
  /-- HOLD_CLEAR (R79). -/
  | holdClear
  /-- TICK (R28). -/
  | tick
  /-- HOLD_EXPIRY (R80). -/
  | holdExpiry
  /-- ROLLCALL_END (R34). -/
  | rollcallEnd
  /-- SAVE_WINDOW_CLOSE (R70). -/
  | saveWindowClose
  /-- MODE_EXPIRY (R82). -/
  | modeExpiry
  /-- BALL_END_LIMIT (R45). -/
  | ballEndLimit
  /-- SILENCE (R37). -/
  | silence
  /-- PRESENCE (R36). -/
  | presence
  /-- JOIN (R31). -/
  | join
  /-- TICK_TIMER_EXPIRY (R134). -/
  | tickTimerExpiry
  /-- TICK_CLAIM_BUILD (R134). -/
  | tickClaimBuild
  /-- PRESENCE_CLAIM_BUILD (R135). -/
  | presenceClaimBuild
  /-- SWITCH_EVENT_TAKE (R131). -/
  | switchEventTake
  /-- SWITCH_SAMPLE (R144): bit n of `pins` is the level read at SWn, 0 for low. -/
  | switchSample (pins : Byte)
  /-- ATTN_TAKE (R147). -/
  | attnTake
  /-- REFRESH_TIMER (R148). -/
  | refreshTimer
  /-- PENDING_CHANGE_DUE (R149): the pending change of input `input` of `expander`. -/
  | pendingChangeDue (expander : Expander) (input : Fin 8)
  /-- SCANNER_WORK (R149): `attn` says that ATTN is asserted at this moment (read when a pass of no reads ends). -/
  | scannerWork (attn : Bool)
  /-- EXPANDER_READ (R146): the byte of the first attempt, or none where it failed (R145); the byte of the retry
  (R150), or none where it failed too or was not made; `attn` says that ATTN is asserted when the read has ended. -/
  | expanderRead (first : Option Byte) (retry : Option Byte) (attn : Bool)
  /-- SWEEP_DUE (R156). -/
  | sweepDue
  /-- MEASUREMENT_END (R157): `edges` is the number of rising edges in the window. -/
  | measurementEnd (edges : Nat)
  /-- PULSE_END (R163). -/
  | pulseEnd (output : Output)
  /-- VERIFY_TIMEOUT (R167). -/
  | verifyTimeout (output : Output)
  /-- RECYCLE_END (R163). -/
  | recycleEnd (output : Output)
  /-- EJECT_RETRY_TIMER (R168): of the eject duty of `slot`. -/
  | ejectRetryTimer (slot : Slot)
  /-- SERVE_RETRY_TIMER (R170). -/
  | serveRetryTimer
  /-- SCOOP_DWELL_END (R171): of the SCOOP_KICK duty of `switch`. -/
  | scoopDwellEnd (switch : Switch)
  /-- ATTRACT_HALF_CYCLE (R173). -/
  | attractHalfCycle
  /-- NOTICE_SEND (R183). -/
  | noticeSend
  /-- ATTN_RELEASE (R147). -/
  | attnRelease
  deriving DecidableEq, Repr

end Sys2Proof
end

