-- ==== Sys2Proof/WellFormed.lean ====
section
/-! DEFINITION. WellFormed.lean: which operands the outside can bring. Numbers of fixed range are of finite types
already; what is left to check is the length of a sampled frame (R107), the length of the configuration read (R176) and
that a retry is made only after a failed attempt (R150). The meanings are total on ill-formed operands as well: a byte
beyond the end of a read is FFh (R176) and a bit beyond the end of a sample is recessive (log entry 4). -/

namespace Sys2Proof

/-- R176: the bytes clocked in by the one configuration read. -/
abbrev imageLength : Nat := 526

/-- A command the outside can bring. -/
def Instr.wellFormed : Instr → Bool
  | .endMark bits _ => bits.length == Machine.countedBits bits
  | .missingEndMark bits => bits.length == Machine.countedBits bits
  | .configurationRead image => image.length == imageLength
  | .expanderRead first retry _ => first.isNone || retry.isNone
  | .deviceReset _ _ | .busFree | .yieldTimeout | .contention | .startMark | .arbitrationLost | .lateLoss
  | .strayMark | .cut | .quietExit | .stuck | .stuckClear | .syncSilenceExpiry | .lossOfValidity | .tilt | .nudge
  | .lock | .lost | .released | .jammed | .drain | .launched | .start | .hit | .mode | .holdSet | .holdClear | .tick
  | .holdExpiry | .rollcallEnd | .saveWindowClose | .modeExpiry | .ballEndLimit | .silence | .presence | .join
  | .tickTimerExpiry | .tickClaimBuild | .presenceClaimBuild | .switchEventTake | .switchSample _ | .attnTake
  | .refreshTimer | .pendingChangeDue _ _ | .scannerWork _ | .sweepDue | .measurementEnd _ | .pulseEnd _
  | .verifyTimeout _ | .recycleEnd _ | .ejectRetryTimer _ | .serveRetryTimer | .scoopDwellEnd _ | .attractHalfCycle
  | .noticeSend | .attnRelease => true

end Sys2Proof
end

