-- ==== Sys2Proof/Decode.lean ====
section
/-! DEFINITION. Decode.lean: the commands that words spell by spec/opcode_table.json. No row of the table gives bits (its
rows are events, not words), so no word spells a command. -/

namespace Sys2Proof

/-- The command the word `w` of `nbits` bits spells by the table: none, since no row gives bits. -/
def decodeTableWord (_nbits _w : Nat) : Option Instr := none

end Sys2Proof
end

