-- ==== Sys2Proof/Machine/State.lean ====
section
/-! DEFINITION. Machine/State.lean: everything the manual says one station holds, as plain data, and its value right after
device reset. INVENTORY.md lists each field with its rule and reset value. -/

namespace Sys2Proof.Machine

/-! ### Why a step can stop -/

/-- The faults of the machine: none. Every command of the table takes a next state (an event whose condition does not
hold leaves the state as it is, log entry 5), so no step ends in a fault. -/
inductive Fault
  deriving DecidableEq, Repr

/-- The refusals of the machine. -/
inductive Refusal
  /-- A command without a meaning: raised by no arm of exec, since every command has one. Safe: the machine stops. -/
  | notModelled (mnemonic : String)
  deriving DecidableEq, Repr

/-! ### The game table (chapter 1) -/

/-- The phases of a game (R5, R25). -/
inductive Phase
  | attract | rollcall | play | ballEnd
  deriving DecidableEq, Repr

/-- The 15 frame kinds, in the order of their values (R106). -/
inductive FrameKind
  | tilt | nudge | lock | lost | released | jammed | drain | launched | start | hit | mode | hold | tick | presence | join
  deriving DecidableEq, Repr

/-- The priority classes, in the order in which they win the bus (R106). -/
inductive FrameClass
  | urgent | ball | play | time
  deriving DecidableEq, Repr

/-- A frame's kind with the fields of its payload (R106). -/
inductive Payload
  | tilt
  | nudge
  | lock (slot : Slot)
  | lost (slot : Slot)
  | released (slot : Slot)
  | jammed (slot : Slot)
  | drain
  | launched
  | start
  | hit (switch : Switch) (base : BitVec 24) (tag : Byte) (flags : Byte)
  | mode (m : ModeId)
  | hold (value : Byte)
  | tick (number : Word16)
  | presence (basis : Word16) (digest : Word16) (faults : Byte)
  | join (digest : Word16) (declared : Byte) (occupied : Byte) (roles : Byte)
  deriving DecidableEq, Repr

/-- An accepted frame as the inbound queue holds it (R116). -/
structure Frame where
  sender  : Station
  payload : Payload
  deriving DecidableEq, Repr

/-- The refusal reasons (R20). -/
inductive Reason
  | notPlaying | tilted | notMember | slotState | noLockLit | stray | already | full | group | notQualified | tableFull
  | done | tooLate | playersFull | lateJoin | notHeld | rollcallFailed
  deriving DecidableEq, Repr

/-- The sub-reasons of ROLLCALL_FAILED (R20). -/
inductive SubReason
  | noTrough | twoTroughs | mismatch
  deriving DecidableEq, Repr

/-- The refusal record (R20). -/
structure RefusalRecord where
  kind     : FrameKind
  sender   : Station
  reason   : Reason
  sub      : Option SubReason
  ordinal  : Word32
  argument : Option (Fin 8)
  deriving DecidableEq, Repr

/-- A player record (R7); the completed-mode set is held as its mask (bit n for mode n). -/
structure Player where
  score          : Nat
  locksLit       : Nat
  completed      : Byte
  sweepQualified : Bool
  deriving DecidableEq, Repr

/-- The states of a membership entry (R8). -/
inductive MemberState
  | absent | member | mismatched | silent
  deriving DecidableEq, Repr

/-- A membership entry (R8); the declared slots are held as their mask. -/
structure Member where
  state     : MemberState
  lastHeard : Word16
  declared  : Byte
  trough    : Bool
  start     : Bool
  digest    : Option Word16
  deriving DecidableEq, Repr

/-- The release causes (R10). -/
inductive Cause
  | multiball | ballEnd | clear
  deriving DecidableEq, Repr

/-- A slot record: its state with the fields that are present in it (R10). OPEN is written `opened`, and STRANDED in its
two forms, entered from HELD or from RELEASING or JAMMED. -/
inductive SlotRecord
  | absent
  | dark (owner : Station)
  | opened (owner : Station)
  | held (owner : Station) (holder : PlayerIx)
  | releasing (owner : Station) (cause : Cause)
  | jammed (owner : Station) (cause : Cause)
  | strandedHeld (owner : Station) (holder : PlayerIx)
  | strandedReleasing (owner : Station) (cause : Cause)
  deriving DecidableEq, Repr

/-- The states of a mode in the mode table (R11). -/
inductive ModeState
  | running | paused | suspended
  deriving DecidableEq, Repr

/-- An entry of the mode table (R11). -/
structure ModeEntry where
  mode      : ModeId
  player    : PlayerIx
  state     : ModeState
  remaining : Nat
  progress  : Nat
  deriving DecidableEq, Repr

/-- A mode definition of the profile (R73). -/
structure ModeDef where
  defined     : Bool
  duration    : Nat
  goalTag     : Nat
  goalCount   : Nat
  perHit      : Nat
  completion  : Nat
  group       : Nat
  multiply    : Bool
  noPause     : Bool
  carry       : Bool
  sweepCounts : Bool
  sweepFinal  : Bool
  repeats     : Bool
  deriving DecidableEq, Repr

/-- The profile (R12). -/
structure Profile where
  ballsInstalled : Nat
  ballsPerGame   : Nat
  lockGoal       : Nat
  saveTicks      : Nat
  jackpotBase    : Nat
  jackpotStep    : Nat
  nudgeWarnings  : Nat
  modes          : Vector ModeDef 8
  deriving DecidableEq, Repr

/-- The game table: the game record (R5), the player records (R7), the membership table (R8), the lock table (R10), the
mode table (R11), and beside them the profile (R12). The hold set is held as each station's optional expiry tick (R6). -/
structure GameTable where
  phase             : Phase
  ordinal           : Word32
  tick              : Word16
  rollcallRemaining : Nat
  playerCount       : Nat
  currentPlayer     : PlayerIx
  ballNumber        : Nat
  inPlay            : Nat
  returning         : Nat
  servePending      : Nat
  saveWindow        : Nat
  multiball         : Bool
  launchSeen        : Bool
  jackpot           : Nat
  tilted            : Bool
  nudgeCount        : Nat
  ballEndRemaining  : Nat
  holds             : Vector (Option Word16) 16
  referenceDigest   : Option Word16
  refusal           : Option RefusalRecord
  players           : Vector Player 4
  members           : Vector Member 16
  slots             : Vector SlotRecord 8
  modes             : List ModeEntry
  profile           : Profile
  deriving DecidableEq, Repr

/-! ### Notices (R182, R184) -/

/-- What a MODE notice says of its entry: a state it is in, or the outcome it was removed with (R90). -/
inductive ModeReport
  | running | paused | suspended | completed | expired | aborted | ended
  deriving DecidableEq, Repr

/-- What built a claim (R126). -/
inductive Origin
  | switch (n : Switch)
  | slot (n : Slot)
  | driver (n : Slot)
  | timer
  | rollcall
  deriving DecidableEq, Repr

/-- Why a claim was lost (R129, R136). -/
inductive LostCause
  | displaced | discarded | vetoed
  deriving DecidableEq, Repr

/-- A switch level (R142). -/
inductive Level
  | opened | closed
  deriving DecidableEq, Repr

/-- The content of a notice, by kind (R184). -/
inductive NoticeBody
  | start (sender : Station)
  | phase (phase : Phase) (playerCount : Nat) (currentPlayer : PlayerIx) (ballNumber : Nat) (tilted : Bool)
      (nudgeCount : Nat)
  | score (player : PlayerIx) (score : Nat) (total : Nat) (multiplier : Nat) (jackpotAward : Nat) (jackpot : Nat)
      (sender : Station) (switch : Switch) (tag : Byte)
  | balls (inPlay returning servePending occupied : Nat) (multiball : Bool) (saveWindow : Nat)
  | lock (slot : Slot) (record : SlotRecord)
  | mode (mode : ModeId) (player : PlayerIx) (report : ModeReport) (remaining progress : Nat) (sweepQualified : Bool)
  | refused (kind : FrameKind) (sender : Station) (reason : Reason) (sub : Option SubReason) (argument : Option (Fin 8))
  | member (station : Station) (state : MemberState) (declared : Byte) (trough start : Bool) (digest : Option Word16)
  | fault (station : Station) (summary : Byte)
  | claimLost (kind : FrameKind) (argument : Option (Fin 8)) (origin : Origin) (cause : LostCause)
  | switchLost (switch : Switch) (level : Level)
  deriving DecidableEq, Repr

/-- A created notice: its number, the low half of the ordinal, and its content (R182). -/
structure Notice where
  number  : Byte
  ordinal : Word16
  body    : NoticeBody
  deriving DecidableEq, Repr

/-- The Report Port (R182, R183). `line` is the run of bytes of the notice last begun on RPT, and `busyUntil` the local
time at which its last byte has been sent (log entry 2). -/
structure ReportPort where
  enabled   : Bool
  fifo      : List Notice
  number    : Byte
  line      : List Byte
  busyUntil : Nat
  deriving DecidableEq, Repr

/-! ### Station Control (chapter 11) -/

/-- The station states (section 11.4). -/
inductive StationState
  | loading | unconfigured | syncing | ready | member | bystander | quiet
  deriving DecidableEq, Repr

/-- The port of the configuration memory (R176): whether CCS# is driven low, and, since it last was, the bytes sent on
CMOSI and the number of bytes clocked in on CMISO. -/
structure MemoryPort where
  selected : Bool
  sent     : List Byte
  clocked  : Nat
  deriving DecidableEq, Repr

/-- Station Control: the sampled straps and the station number in use (R175, R176), the listener role, the station
state, the fault set and fault mask as fault-summary bytes (R180, R181), the profile digest (R12) and the port of the
configuration memory (R176). -/
structure Control where
  straps        : BitVec 4
  station       : Station
  listener      : Bool
  state         : StationState
  faults        : Byte
  mask          : Byte
  profileDigest : Word16
  memory        : MemoryPort
  deriving DecidableEq, Repr

/-- The kinds of switch rule (R131). -/
inductive RuleKind
  | none | score | start | tilt | nudge | drain | launchConfirm | scoop
  deriving DecidableEq, Repr

/-- The debounce classes (R144). -/
inductive Debounce
  | fast | normal | slow
  deriving DecidableEq, Repr

/-- A switch rule (R131); the dwell is in ms. -/
structure SwitchRule where
  kind      : RuleKind
  edge      : Level
  base      : BitVec 24
  tag       : Byte
  lightLock : Bool
  jackpot   : Bool
  mode      : Option ModeId
  driver    : Output
  dwell     : Nat
  debounce  : Debounce
  deriving DecidableEq, Repr

/-- The driver roles (R162). -/
inductive DriverRole
  | general | eject | serve | scoop
  deriving DecidableEq, Repr

/-- A driver configuration (R162), times in ms; `disabled` as R177 gives. -/
structure OutputConfig where
  role     : DriverRole
  pulse    : Nat
  recycle  : Nat
  verify   : Nat
  disabled : Bool
  deriving DecidableEq, Repr

/-- A channel's settings after the checks of R154: `inUse` when it is named in the scan list and not disabled, and the
slot binding that takes effect. -/
structure ChannelConfig where
  window  : Nat
  lower   : Nat
  upper   : Nat
  inUse   : Bool
  binding : Option (Slot × Output)
  deriving DecidableEq, Repr

/-- What a lamp shows (R172). -/
inductive LampSource
  | slot (n : Slot)
  | mode (m : ModeId)
  | locksLit (n : Nat)
  | multiball
  | jackpot
  | playerUp (p : PlayerIx)
  | save
  | sweep
  | fault
  | none
  deriving DecidableEq, Repr

/-- A lamp binding (R172). -/
structure LampBinding where
  source : LampSource
  invert : Bool
  deriving DecidableEq, Repr

/-- The station section of the configuration image as R177 leaves it (R178). -/
structure StationConfig where
  trough          : Bool
  start           : Bool
  rules           : Vector SwitchRule 32
  outputs         : Vector OutputConfig 8
  concurrency     : Nat
  pairing         : Bool
  expanders       : Vector Bool 3
  addresses       : Vector (BitVec 7) 3
  channels        : Vector ChannelConfig 4
  scanList        : List Channel
  sweepPeriod     : Nat
  lamps           : Vector LampBinding 16
  deriving DecidableEq, Repr

/-! ### Around the table (chapter 1) -/

/-- Replica validity (R1). -/
inductive Replica
  | valid | unknown
  deriving DecidableEq, Repr

/-- The sync silence timer (R2): stopped, counting since a local time, or held by the STUCK condition at a count. -/
inductive SyncTimer
  | stopped
  | running (since : Nat)
  | held (counted : Nat)
  deriving DecidableEq, Repr

/-- The causes of a loss of validity that can meet an application in flight (R3). -/
inductive LossCause
  | quiet | overrun
  deriving DecidableEq, Repr

/-- The Table Engine's state around the table: validity, the sync silence timer, the history ring (oldest first), the
divergence tally, the application in flight, and a loss of validity waiting for it to complete (R3). -/
structure Engine where
  replica  : Replica
  sync     : SyncTimer
  history  : List (Word32 × Word16)
  tally    : Nat
  inFlight : Option Frame
  loss     : Option LossCause
  deriving DecidableEq, Repr

/-! ### The Bus Controller (chapter 6) -/

/-- The link states (R109). -/
inductive Link
  | disabled | idle | receiving | contending | sending
  deriving DecidableEq, Repr

/-- The Bus Controller. `freeDue` is the earliest local time at which the bus can be free (R110), `freeAt` the time it
became free, `awaitEnd` the wait for an end mark or cut after a missing end mark (R118), `stray` a stray mark seen in the
frame (R117), `senderPassDue` the time at which the last sender bit of its own frame is read back (R109), `vetoDriven`
whether this station drove the veto slot of the last frame dominant (R115), and `contentions`, the model's own, the
number of contentions begun here, which numbers the free values of R109's time (log entry 31). -/
structure Bus where
  link          : Link
  busFree       : Bool
  freeDue       : Nat
  freeAt        : Nat
  awaitEnd      : Bool
  stray         : Bool
  yielding      : Bool
  muted         : Bool
  stuck         : Bool
  score         : Nat
  cleanRun      : Nat
  senderPassDue : Nat
  contentions   : Nat
  vetoDriven    : Bool
  inbound       : List Frame
  deriving DecidableEq, Repr

/-! ### The Claim Unit (chapter 7) -/

/-- A claim's state (R126). IN_FLIGHT says whether a flush has reached it (R141), ACCEPTED its place in the order of
acceptance (R137, step 1). -/
inductive ClaimState
  | waiting
  | inFlight (flushed : Bool)
  | accepted (order : Nat)
  deriving DecidableEq, Repr

/-- A claim (R126); its class, tick number, basis and digest are those of its payload. `created` is its place in the
order of creation (R128). -/
structure Claim where
  payload  : Payload
  state    : ClaimState
  attempts : Nat
  origin   : Origin
  created  : Nat
  deriving DecidableEq, Repr

/-- The tick timer (R134); RUNNING with the local time of its end. -/
inductive TickTimer
  | stopped
  | running (due : Nat)
  | expired
  deriving DecidableEq, Repr

/-- The Claim Unit: the claim queue in its order (R128), the tick timer, the presence count, the reject latches, and
the count of creations and acceptances that orders claims. -/
structure ClaimUnit where
  queue     : List Claim
  tickTimer : TickTimer
  presence  : Nat
  reject    : Vector Bool 8
  serial    : Nat
  deriving DecidableEq, Repr

/-! ### The Switch Unit (chapter 8) -/

/-- Expander status (R146). -/
inductive ExpanderStatus
  | ok | failed
  deriving DecidableEq, Repr

/-- An expander's record (R146); `changes` holds each input's pending change as its due time. -/
structure ExpanderRecord where
  status  : ExpanderStatus
  primed  : Bool
  reread  : Bool
  changes : Vector (Option Nat) 8
  deriving DecidableEq, Repr

/-- The scanner's work (R145, R148, R149); a pass holds the expanders it has still to read, the first of them now. -/
inductive Scan
  | idle
  | reread (expander : Expander)
  | pass (left : List Expander)
  deriving DecidableEq, Repr

/-- What the scanner sends first in a read of an expander (R145): the expander's seven-bit address and the direction,
set for a read. -/
structure ScanCall where
  address : BitVec 7
  read    : Bool
  deriving DecidableEq, Repr

/-- A switch event (R152). -/
structure SwitchEvent where
  switch : Switch
  level  : Level
  deriving DecidableEq, Repr

/-- The Switch Unit (R142, R143). `pinsSampled` is clear until the pins' first sample, and `call` is what the scanner has
sent for the read in flight (R145), none while it makes no read. -/
structure SwitchUnit where
  levels      : Vector Level 32
  pinsSampled : Bool
  counts      : Vector Nat 8
  sampleDue   : Nat
  expanders   : Vector ExpanderRecord 3
  scan        : Scan
  call        : Option ScanCall
  attention   : Bool
  attnTaken   : Bool
  refresh     : Bool
  refreshDue  : Nat
  events      : List SwitchEvent
  deriving DecidableEq, Repr

/-! ### The Sensor Unit (chapter 9) -/

/-- Channel states (R155). -/
inductive ChannelState
  | unknown | present | absent | fault
  deriving DecidableEq, Repr

/-- A channel record (R155). -/
structure ChannelRecord where
  state      : ChannelState
  count      : Nat
  overrange  : Bool
  lowRun     : Nat
  highRun    : Nat
  invalidRun : Nat
  validRun   : Nat
  deriving DecidableEq, Repr

/-- The Sensor Unit: the channel records, the channels still to measure in the sweep in progress (the first of them
now), the end of the running window and the next due sweep (R156). -/
structure SensorUnit where
  channels  : Vector ChannelRecord 4
  sweep     : List Channel
  windowDue : Nat
  sweepDue  : Nat
  deriving DecidableEq, Repr

/-! ### The Driver Unit (chapter 10) -/

/-- The states of an output (R162). -/
inductive OutputState
  | idle | queued | pulse | verify | recycle
  deriving DecidableEq, Repr

/-- The duty a pulse or request serves: the eject duty of a slot, the SERVE duty, or the SCOOP_KICK of a switch. -/
inductive DutyId
  | eject (slot : Slot)
  | serve
  | scoop (switch : Switch)
  deriving DecidableEq, Repr

/-- An output's record (R162): its state, the duty its pulse serves, whether the attempt that pulse opened is still
open (R163), and the end of the running pulse, verify or recycle time. -/
structure OutputRecord where
  state       : OutputState
  duty        : Option DutyId
  attemptOpen : Bool
  due         : Nat
  deriving DecidableEq, Repr

/-- A driver request (R164). -/
structure Request where
  output : Output
  duty   : DutyId
  deriving DecidableEq, Repr

/-- The eject duties (R166). -/
inductive EjectKind
  | release | bounce | clear
  deriving DecidableEq, Repr

/-- The phases of an eject duty (R167). -/
inductive EjectPhase
  | attempting | retrying
  deriving DecidableEq, Repr

/-- Whether a duty waits for its output to recycle before it asks again, and after what (R167, R170, R171). -/
inductive Await
  | no | afterFailure | afterUnverified
  deriving DecidableEq, Repr

/-- An eject duty (R167, R168): its count of failed ejects, its phase, its retry timer, whether a retry is wanted and
not yet requested, and whether it waits for its output to recycle. -/
structure EjectDuty where
  kind     : EjectKind
  count    : Nat
  phase    : EjectPhase
  retryDue : Option Nat
  want     : Bool
  await    : Await
  deriving DecidableEq, Repr

/-- The serve record (R170): whether the SERVE duty holds, the failed serves, the retry timer, whether it has just
ended, the wait for the output's recycle and the launches unapplied. -/
structure ServeRecord where
  holds      : Bool
  failed     : Nat
  retryDue   : Option Nat
  retryReady : Bool
  await      : Bool
  launches   : Nat
  deriving DecidableEq, Repr

/-- A SCOOP_KICK duty (R171): its driver, its dwell timer while that runs, whether a pulse is wanted and not yet
requested, the wait for the output's recycle and the pulses granted. -/
structure ScoopDuty where
  driver   : Output
  dwellDue : Option Nat
  want     : Bool
  await    : Bool
  pulses   : Nat
  deriving DecidableEq, Repr

/-- The Driver Unit: the output records, the request queue (oldest first), the eject duty of each slot, the slots whose
BOUNCE the Claim Unit has requested (R140), the serve record and the SCOOP_KICK duty of each switch. -/
structure DriverUnit where
  outputs  : Vector OutputRecord 8
  requests : List Request
  ejects   : Vector (Option EjectDuty) 8
  bounce   : Vector Bool 8
  serve    : ServeRecord
  scoops   : Vector (Option ScoopDuty) 32
  deriving DecidableEq, Repr

/-! ### The Lamp Unit (chapter 10) -/

/-- The manners of R173. -/
inductive LampManner
  | allOff | binding | attract
  deriving DecidableEq, Repr

/-- The Lamp Unit: the levels of LMP0 to LMP15, the manner, and the half of the attract cycle with its end (R173). -/
structure LampUnit where
  levels     : Vector Bool 16
  manner     : LampManner
  secondHalf : Bool
  halfDue    : Nat
  deriving DecidableEq, Repr

/-! ### The station -/

/-- The whole state of one station, and the queue of the commands that wait for it. `now` is the station's local time in
microseconds (log entry 2). -/
structure State where
  pending : List Instr
  now     : Nat
  ctl     : Control
  cfg     : StationConfig
  table   : GameTable
  eng     : Engine
  bus     : Bus
  claim   : ClaimUnit
  sw      : SwitchUnit
  sen     : SensorUnit
  drv     : DriverUnit
  lamp    : LampUnit
  rpt     : ReportPort
  deriving DecidableEq, Repr

/-! ### Reset values -/

/-- A player record's START value (R7). -/
def Player.initial : Player := { score := 0, locksLit := 0, completed := 0#8, sweepQualified := false }

/-- A membership entry's START value (R8). -/
def Member.initial : Member :=
  { state := .absent, lastHeard := 0#16, declared := 0#8, trough := false, start := false, digest := none }

/-- A mode definition before an image is loaded (log entry 6). -/
def ModeDef.blank : ModeDef :=
  { defined := false, duration := 0, goalTag := 0, goalCount := 0, perHit := 0, completion := 0, group := 0,
    multiply := false, noPause := false, carry := false, sweepCounts := false, sweepFinal := false, repeats := false }

/-- The profile before an image is loaded (log entry 6). -/
def Profile.blank : Profile :=
  { ballsInstalled := 0, ballsPerGame := 0, lockGoal := 0, saveTicks := 0, jackpotBase := 0, jackpotStep := 0,
    nudgeWarnings := 0, modes := Vector.replicate 8 ModeDef.blank }

/-- The ATTRACT defaults (R5, R7, R8, R10, R11), beside the profile `p` (R12). -/
def GameTable.attractDefaults (p : Profile) : GameTable :=
  { phase := .attract, ordinal := 0#32, tick := 0#16, rollcallRemaining := 0, playerCount := 1, currentPlayer := 0,
    ballNumber := 1, inPlay := 0, returning := 0, servePending := 0, saveWindow := 0, multiball := false,
    launchSeen := false, jackpot := 0, tilted := false, nudgeCount := 0, ballEndRemaining := 0,
    holds := Vector.replicate 16 none, referenceDigest := none, refusal := none,
    players := Vector.replicate 4 Player.initial, members := Vector.replicate 16 Member.initial,
    slots := Vector.replicate 8 .absent, modes := [], profile := p }

/-- A switch rule before an image is loaded (log entry 6). -/
def SwitchRule.blank : SwitchRule :=
  { kind := .none, edge := .closed, base := 0#24, tag := 0#8, lightLock := false, jackpot := false, mode := none,
    driver := 0, dwell := 0, debounce := .normal }

/-- A driver configuration before an image is loaded (log entry 6). -/
def OutputConfig.blank : OutputConfig := { role := .general, pulse := 0, recycle := 0, verify := 0, disabled := true }

/-- A channel's settings before an image is loaded (log entry 6). -/
def ChannelConfig.blank : ChannelConfig := { window := 0, lower := 0, upper := 0, inUse := false, binding := none }

/-- The station section before an image is loaded (log entry 6). -/
def StationConfig.blank : StationConfig :=
  { trough := false, start := false, rules := Vector.replicate 32 SwitchRule.blank,
    outputs := Vector.replicate 8 OutputConfig.blank, concurrency := 1, pairing := false,
    expanders := Vector.replicate 3 false, addresses := Vector.replicate 3 0#7,
    channels := Vector.replicate 4 ChannelConfig.blank, scanList := [], sweepPeriod := 8,
    lamps := Vector.replicate 16 { source := .none, invert := false } }

/-- The port of the configuration memory before the read: CCS# high and nothing sent (log entry 6). -/
def MemoryPort.idle : MemoryPort := { selected := false, sent := [], clocked := 0 }

/-- Station Control after reset (R175). -/
def Control.reset : Control :=
  { straps := 0#4, station := 0, listener := false, state := .loading, faults := 0#8, mask := 0#8,
    profileDigest := 0#16, memory := MemoryPort.idle }

/-- The Table Engine after reset (R1, R3, R22, R23). -/
def Engine.reset : Engine :=
  { replica := .unknown, sync := .stopped, history := [], tally := 0, inFlight := none, loss := none }

/-- The Bus Controller after reset (R109, R111, R114, R120, R121). -/
def Bus.reset : Bus :=
  { link := .disabled, busFree := false, freeDue := 0, freeAt := 0, awaitEnd := false, stray := false,
    yielding := false, muted := false, stuck := false, score := 0, cleanRun := 0, senderPassDue := 0, contentions := 0,
    vetoDriven := false, inbound := [] }

/-- The Claim Unit after reset (chapter 7, opening). -/
def ClaimUnit.reset : ClaimUnit :=
  { queue := [], tickTimer := .stopped, presence := 0, reject := Vector.replicate 8 false, serial := 0 }

/-- An expander's record at the Switch Unit's start (R143; that no reread is wanted is log entry 38). -/
def ExpanderRecord.initial : ExpanderRecord :=
  { status := .ok, primed := false, reread := false, changes := Vector.replicate 8 none }

/-- The Switch Unit at its start at local time `t` (R143; a direct pin is held OPEN until its first sample, log entry
37; that ATTN has not been taken, log entry 42). -/
def SwitchUnit.started (t : Nat) : SwitchUnit :=
  { levels := Vector.replicate 32 .opened, pinsSampled := false, counts := Vector.replicate 8 0, sampleDue := t,
    expanders := Vector.replicate 3 ExpanderRecord.initial, scan := .idle, call := none, attention := false, attnTaken := false,
    refresh := true, refreshDue := t + Config.refreshPeriod, events := [] }

/-- A channel record after device reset (R155). -/
def ChannelRecord.initial : ChannelRecord :=
  { state := .unknown, count := 0, overrange := false, lowRun := 0, highRun := 0, invalidRun := 0, validRun := 0 }

/-- The Sensor Unit at its start at local time `t` (R155, R156). Neither rule gives the two times: the first sweep is due at
the start (log entry 2), the end of a window that has not begun stands at the start, and both are 0 at reset (log entry
6). -/
def SensorUnit.started (t : Nat) : SensorUnit :=
  { channels := Vector.replicate 4 ChannelRecord.initial, sweep := [], windowDue := t, sweepDue := t }

/-- An output's record after device reset (R162; that the end of its timer, while none runs, is 0 is log entry 6). -/
def OutputRecord.initial : OutputRecord := { state := .idle, duty := none, attemptOpen := false, due := 0 }

/-- The serve record with nothing in it (R170). -/
def ServeRecord.initial : ServeRecord :=
  { holds := false, failed := 0, retryDue := none, retryReady := false, await := false, launches := 0 }

/-- The Driver Unit after reset and at its start (R162). -/
def DriverUnit.reset : DriverUnit :=
  { outputs := Vector.replicate 8 OutputRecord.initial, requests := [], ejects := Vector.replicate 8 none,
    bounce := Vector.replicate 8 false, serve := ServeRecord.initial, scoops := Vector.replicate 32 none }

/-- The Lamp Unit after reset: every lamp off (R173). -/
def LampUnit.reset : LampUnit :=
  { levels := Vector.replicate 16 false, manner := .allOff, secondHalf := false, halfDue := 0 }

/-- The Report Port after reset (R175, R182). -/
def ReportPort.reset : ReportPort := { enabled := false, fifo := [], number := 0#8, line := [], busyUntil := 0 }

/-- The station right after device reset, in LOADING, with the straps read as station 0 and no listener (log entry 6). -/
def State.reset : State :=
  { pending := [], now := 0, ctl := Control.reset, cfg := StationConfig.blank,
    table := GameTable.attractDefaults Profile.blank, eng := Engine.reset, bus := Bus.reset, claim := ClaimUnit.reset,
    sw := SwitchUnit.started 0, sen := SensorUnit.started 0, drv := DriverUnit.reset, lamp := LampUnit.reset,
    rpt := ReportPort.reset }

end Sys2Proof.Machine
end

