-- ==== Sys2Proof/Machine/Operands.lean ====
section
/-! DEFINITION. Machine/Operands.lean: the forms of what a command brings in: the frame on the wire, written and read
(R106, R107, R108), and the codes of kinds and classes. -/

namespace Sys2Proof.Machine

/-! ### Kinds and classes -/

/-- The kind's value on the bus (R106). -/
def FrameKind.code : FrameKind → Nat
  | .tilt => 0 | .nudge => 1 | .lock => 2 | .lost => 3 | .released => 4 | .jammed => 5 | .drain => 6 | .launched => 7
  | .start => 8 | .hit => 9 | .mode => 10 | .hold => 11 | .tick => 12 | .presence => 13 | .join => 14

/-- The kind's class (R106). -/
def FrameKind.cls : FrameKind → FrameClass
  | .tilt | .nudge => .urgent
  | .lock | .lost | .released | .jammed | .drain | .launched => .ball
  | .start | .hit | .mode | .hold => .play
  | .tick | .presence | .join => .time

/-- The class's value on the bus; a lower value wins (R106, R113). -/
def FrameClass.code : FrameClass → Nat
  | .urgent => 0 | .ball => 1 | .play => 2 | .time => 3

/-- The kind of a payload. -/
def Payload.kind : Payload → FrameKind
  | .tilt => .tilt | .nudge => .nudge | .lock _ => .lock | .lost _ => .lost | .released _ => .released
  | .jammed _ => .jammed | .drain => .drain | .launched => .launched | .start => .start | .hit _ _ _ _ => .hit
  | .mode _ => .mode | .hold _ => .hold | .tick _ => .tick | .presence _ _ _ => .presence | .join _ _ _ _ => .join

/-- The class of a payload's kind (R126: "taken from the kind"). -/
def Payload.cls (p : Payload) : FrameClass := p.kind.cls

/-- The slot or mode id a kind's refusal and CLAIM_LOST notice carry (R20, R129): a slot for LOCK, LOST, RELEASED and
JAMMED, a mode id for MODE, nothing for the others. -/
def Payload.argument : Payload → Option (Fin 8)
  | .lock n | .lost n | .released n | .jammed n => some n
  | .mode m => some m
  | .tilt | .nudge | .drain | .launched | .start | .hit _ _ _ _ | .hold _ | .tick _ | .presence _ _ _
  | .join _ _ _ _ => none

/-- The slot of a claim for a slot: LOCK, LOST, RELEASED or JAMMED of it (R139). -/
def Payload.isLockOf (n : Slot) : Payload → Bool
  | .lock k => k == n
  | _ => false

/-- LOST of slot `n`. -/
def Payload.isLostOf (n : Slot) : Payload → Bool
  | .lost k => k == n
  | _ => false

/-- RELEASED of slot `n`. -/
def Payload.isReleasedOf (n : Slot) : Payload → Bool
  | .released k => k == n
  | _ => false

/-- JAMMED of slot `n`. -/
def Payload.isJammedOf (n : Slot) : Payload → Bool
  | .jammed k => k == n
  | _ => false

/-! ### The frame on the wire -/

/-- The payload bytes of a frame, in order (R106). -/
def Payload.bytes : Payload → List Byte
  | .tilt | .nudge | .drain | .launched | .start => []
  | .lock n | .lost n | .released n | .jammed n => [BitVec.ofNat 8 n.val]
  | .hit sw base tag flags => BitVec.ofNat 8 sw.val :: toBytes 3 base.toNat ++ [tag, flags]
  | .mode m => [BitVec.ofNat 8 m.val]
  | .hold v => [v]
  | .tick n => toBytes 2 n.toNat
  | .presence b d f => toBytes 2 b.toNat ++ toBytes 2 d.toNat ++ [f]
  | .join d dec occ roles => toBytes 2 d.toNat ++ [dec, occ, roles]

/-- The 14 header bits and the payload bits (R106). -/
def Frame.bodyBits (f : Frame) : List Bool :=
  toBits 2 f.payload.cls.code ++ toBits 4 f.sender.val ++ toBits 4 f.payload.kind.code
    ++ toBits 4 f.payload.bytes.length ++ bytesToBits f.payload.bytes

/-- The bits a transmitter sends between the start mark and the veto slot (R106, R108). -/
def Frame.wireBits (f : Frame) : List Bool := f.bodyBits ++ toBits 8 (crc8 f.bodyBits).toNat

/-- A byte as an index below `n`, where it is one. -/
def byteIndex (n : Nat) (b : Byte) : Option (Fin n) := if h : b.toNat < n then some ⟨b.toNat, h⟩ else none

/-- The payload that a kind value and its payload bytes spell, where they have the kind's form: R107's FORMAT checks on
the kind, the length, the slot and mode id fields and the HIT's local switch. -/
def readPayload (kind : Nat) (bytes : List Byte) : Option Payload :=
  match kind, bytes with
  | 0, [] => some .tilt
  | 1, [] => some .nudge
  | 2, [n] => (byteIndex 8 n).map .lock
  | 3, [n] => (byteIndex 8 n).map .lost
  | 4, [n] => (byteIndex 8 n).map .released
  | 5, [n] => (byteIndex 8 n).map .jammed
  | 6, [] => some .drain
  | 7, [] => some .launched
  | 8, [] => some .start
  | 9, [sw, b2, b1, b0, tag, flags] =>
    (byteIndex 32 sw).map (fun n => .hit n (BitVec.ofNat 24 (bytesValue [b2, b1, b0])) tag flags)
  | 10, [m] => (byteIndex 8 m).map .mode
  | 11, [v] => some (.hold v)
  | 12, [n1, n0] => some (.tick (BitVec.ofNat 16 (bytesValue [n1, n0])))
  | 13, [b1, b0, d1, d0, f] =>
    some (.presence (BitVec.ofNat 16 (bytesValue [b1, b0])) (BitVec.ofNat 16 (bytesValue [d1, d0])) f)
  | 14, [d1, d0, dec, occ, roles] => some (.join (BitVec.ofNat 16 (bytesValue [d1, d0])) dec occ roles)
  | _, _ => none

/-- The payload bytes a receiver counts off the wire (R107). -/
def rxBytes (bits : List Bool) : List Byte :=
  (List.range (countedBytes bits)).map (fun i => BitVec.ofNat 8 (bitField bits (14 + 8 * i) 8))

/-- The sender field as sampled (R106). -/
def rxSender (bits : List Bool) : Station := Fin.ofNat 16 (bitField bits 2 4)

/-- R108: the check computed over the sampled header and payload equals the sampled check field. -/
def rxCrcOk (bits : List Bool) : Bool :=
  (crc8 (((bits ++ List.replicate (countedBits bits) true).take (14 + 8 * countedBytes bits)))).toNat
    == bitField bits (14 + 8 * countedBytes bits) 8

/-- The frame the sampled bits spell, or none for a FORMAT fault (R107): the kind is defined, the length field is the
kind's, the class field is the kind's class, and the index fields are in range. -/
def rxFrame (bits : List Bool) : Option Frame :=
  match readPayload (bitField bits 6 4) (rxBytes bits) with
  | none => none
  | some p =>
    if bitField bits 0 2 = p.cls.code ∧ bitField bits 10 4 = p.bytes.length then some ⟨rxSender bits, p⟩ else none

end Sys2Proof.Machine
end

