-- ==== Sys2Proof/Machine/Ops.lean ====
section
/-! DEFINITION. Machine/Ops.lean: the one way the state is written, block by block, local time, and the station-wide
conditions the commands check. -/

namespace Sys2Proof.Machine

/-! ### One setter for each block -/

/-- The state with another queue of waiting commands. -/
def State.setPending (s : State) (x : List Instr) : State := { s with pending := x }
/-- The state at another local time. -/
def State.setNow (s : State) (x : Nat) : State := { s with now := x }
/-- The state with another Station Control. -/
def State.setCtl (s : State) (x : Control) : State := { s with ctl := x }
/-- The state with another station section. -/
def State.setCfg (s : State) (x : StationConfig) : State := { s with cfg := x }
/-- The state with another game table. -/
def State.setTable (s : State) (x : GameTable) : State := { s with table := x }
/-- The state with another Table Engine. -/
def State.setEng (s : State) (x : Engine) : State := { s with eng := x }
/-- The state with another Bus Controller. -/
def State.setBus (s : State) (x : Bus) : State := { s with bus := x }
/-- The state with another Claim Unit. -/
def State.setClaim (s : State) (x : ClaimUnit) : State := { s with claim := x }
/-- The state with another Switch Unit. -/
def State.setSw (s : State) (x : SwitchUnit) : State := { s with sw := x }
/-- The state with another Sensor Unit. -/
def State.setSen (s : State) (x : SensorUnit) : State := { s with sen := x }
/-- The state with another Driver Unit. -/
def State.setDrv (s : State) (x : DriverUnit) : State := { s with drv := x }
/-- The state with another Lamp Unit. -/
def State.setLamp (s : State) (x : LampUnit) : State := { s with lamp := x }
/-- The state with another Report Port. -/
def State.setRpt (s : State) (x : ReportPort) : State := { s with rpt := x }

/-! ### Local time -/

/-- R109: a contender whose last sender bit has been read back by local time `t` is SENDING. -/
def Bus.passedAt (b : Bus) (t : Nat) : Bus :=
  { b with link := if b.link = .contending ∧ b.senderPassDue ≤ t then .sending else b.link }

/-- Local time reaches `t`, the one way in which it moves: a contender's sender field passes when its time comes (R109). -/
def State.passTo (s : State) (t : Nat) : State := (s.setNow t).setBus (s.bus.passedAt t)

/-- Local time at the end of a timer that is due at `due`: a timer's end is not taken before it (log entry 2). -/
def State.advanceTo (s : State) (due : Nat) : State := s.passTo (max s.now due)

/-! ### Conditions -/

/-- R143, R155, R162: the Switch, Sensor and Driver Units run in every station state but LOADING and UNCONFIGURED. -/
def State.unitsRun (s : State) : Bool :=
  match s.ctl.state with
  | .loading | .unconfigured => false
  | .syncing | .ready | .member | .bystander | .quiet => true

/-- The replica is VALID (R1). -/
def State.isValid (s : State) : Bool := s.eng.replica == .valid

/-- R115, R121: the station checks frames: it is not a listener and not in QUIET. -/
def State.checksFrames (s : State) : Bool := !s.ctl.listener && s.ctl.state != .quiet

/-- The station is transmitting a frame (R109). -/
def State.transmitting (s : State) : Bool := s.bus.link == .contending || s.bus.link == .sending

/-- A frame is in progress at this station (R109). -/
def State.inFrame (s : State) : Bool := s.transmitting || s.bus.link == .receiving

/-- R2: what the sync silence timer has counted, while it runs or is held. -/
def State.syncCounted (s : State) : Option Nat :=
  match s.eng.sync with
  | .stopped => none
  | .running since => some (s.now - since)
  | .held counted => some counted

/-! ### The channel bound to a slot (R154, R160) -/

/-- The channel in use that binds slot `n`, with its eject driver. -/
def StationConfig.boundTo (c : StationConfig) (n : Slot) : Option (Channel × Output) :=
  (indices 4).findSome? (fun ch =>
    match c.channels[ch].binding with
    | some (k, drv) => if k = n then some (ch, drv) else none
    | none => none)

/-- R133: the slots bound to the station's channels, as a mask. -/
def StationConfig.declaredMask (c : StationConfig) : Byte := maskOf 8 (fun n : Slot => (c.boundTo n).isSome)

/-- The state of the channel bound to slot `n`, if there is one. -/
def State.boundState (s : State) (n : Slot) : Option ChannelState :=
  (s.cfg.boundTo n).map (fun b => s.sen.channels[b.1].state)

/-- R133: the declared slots whose bound channel is PRESENT, as a mask. -/
def State.occupiedMask (s : State) : Byte := maskOf 8 (fun n : Slot => s.boundState n == some .present)

/-- R8, R133: roles as a byte, bit 0 TROUGH and bit 1 START. -/
def rolesByte (trough start : Bool) : Byte := BitVec.ofNat 8 (flag trough + 2 * flag start)

/-! ### Slot records -/

/-- The owner station of a slot record (R10). -/
def SlotRecord.owner : SlotRecord → Option Station
  | .absent => none
  | .dark o | .opened o | .held o _ | .releasing o _ | .jammed o _ | .strandedHeld o _ | .strandedReleasing o _ => some o

/-- The occupied states, each holding exactly one ball (R10). -/
def SlotRecord.occupied : SlotRecord → Bool
  | .held _ _ | .releasing _ _ | .jammed _ _ | .strandedHeld _ _ | .strandedReleasing _ _ => true
  | .absent | .dark _ | .opened _ => false

/-- HELD. -/
def SlotRecord.isHeld : SlotRecord → Bool
  | .held _ _ => true
  | _ => false

/-- RELEASING. -/
def SlotRecord.isReleasing : SlotRecord → Bool
  | .releasing _ _ => true
  | _ => false

/-- RELEASING with cause MULTIBALL. -/
def SlotRecord.isMultiballRelease : SlotRecord → Bool
  | .releasing _ .multiball => true
  | _ => false

/-- OPEN or DARK. -/
def SlotRecord.isLightable : SlotRecord → Bool
  | .dark _ | .opened _ => true
  | _ => false

/-- RELEASING or JAMMED. -/
def SlotRecord.isLeaving : SlotRecord → Bool
  | .releasing _ _ | .jammed _ _ => true
  | _ => false

/-- R55: this replica's trough member: a MEMBER entry with the TROUGH role, while the phase is not ATTRACT. -/
def GameTable.isTrough (t : GameTable) (k : Station) : Bool :=
  t.phase != .attract && t.members[k].state == .member && t.members[k].trough

/-- R50: the number of occupied slots. -/
def GameTable.occupiedSlots (t : GameTable) : Nat := t.slots.toList.countP SlotRecord.occupied

/-- R50: the counted total. -/
def GameTable.countedTotal (t : GameTable) : Nat := t.inPlay + t.returning + t.occupiedSlots

/-- The number of HELD slots (R57). -/
def GameTable.heldSlots (t : GameTable) : Nat := t.slots.toList.countP SlotRecord.isHeld

/-- A slot is RELEASING with cause MULTIBALL (R42, R68). -/
def GameTable.multiballReleasing (t : GameTable) : Bool := t.slots.toList.any SlotRecord.isMultiballRelease

/-- The record of the current player (R7). -/
def GameTable.current (t : GameTable) : Player := t.players[t.currentPlayer]

/-- The hold set is empty (R6). -/
def GameTable.holdsEmpty (t : GameTable) : Bool := t.holds.toList.all Option.isNone

end Sys2Proof.Machine
end

