-- ==== Sys2Proof/Machine/Report.lean ====
section
/-! DEFINITION. Machine/Report.lean: creating a notice (R182), and the bytes it is sent as (R183, R184). -/

namespace Sys2Proof.Machine

/-! ### Codes (R20, R21, R184) -/

/-- R21. -/
def Phase.code : Phase → Nat
  | .attract => 0 | .rollcall => 1 | .play => 2 | .ballEnd => 3

/-- R20. -/
def Reason.code : Reason → Nat
  | .notPlaying => 1 | .tilted => 2 | .notMember => 3 | .slotState => 4 | .noLockLit => 5 | .stray => 6 | .already => 7
  | .full => 8 | .group => 9 | .notQualified => 10 | .tableFull => 11 | .done => 12 | .tooLate => 13
  | .playersFull => 14 | .lateJoin => 15 | .notHeld => 16 | .rollcallFailed => 17

/-- R20. -/
def SubReason.code : SubReason → Nat
  | .noTrough => 1 | .twoTroughs => 2 | .mismatch => 3

/-- R21. -/
def MemberState.code : MemberState → Nat
  | .absent => 0 | .member => 1 | .mismatched => 2 | .silent => 3

/-- R21. -/
def Cause.code : Cause → Nat
  | .multiball => 1 | .ballEnd => 2 | .clear => 3

/-- R21. -/
def SlotRecord.code : SlotRecord → Nat
  | .absent => 0 | .dark _ => 1 | .opened _ => 2 | .held _ _ => 3 | .releasing _ _ => 4 | .jammed _ _ => 5
  | .strandedHeld _ _ | .strandedReleasing _ _ => 6

/-- The holder of a slot record, where present (R10). -/
def SlotRecord.holder : SlotRecord → Option PlayerIx
  | .held _ p | .strandedHeld _ p => some p
  | .absent | .dark _ | .opened _ | .releasing _ _ | .jammed _ _ | .strandedReleasing _ _ => none

/-- The release cause of a slot record, where present (R10). -/
def SlotRecord.cause : SlotRecord → Option Cause
  | .releasing _ c | .jammed _ c | .strandedReleasing _ c => some c
  | .absent | .dark _ | .opened _ | .held _ _ | .strandedHeld _ _ => none

/-- R21. -/
def ModeState.code : ModeState → Nat
  | .running => 0 | .paused => 1 | .suspended => 2

/-- R184. -/
def ModeReport.code : ModeReport → Nat
  | .running => 0 | .paused => 1 | .suspended => 2 | .completed => 4 | .expired => 5 | .aborted => 6 | .ended => 7

/-- A player's number, 1 to 4. -/
def playerNumber (p : PlayerIx) : Nat := p.val + 1

/-- A number in one byte. -/
def byte (n : Nat) : Byte := BitVec.ofNat 8 n

/-- An optional index in one byte, FFh if absent (R21, R184). -/
def indexOrFF {n : Nat} (o : Option (Fin n)) : Byte :=
  match o with
  | some k => byte k.val
  | none => 0xFF#8

/-- The owner, holder and cause bytes of a slot record (R21, R184). -/
def SlotRecord.fieldBytes (r : SlotRecord) : List Byte :=
  [indexOrFF r.owner, (match r.holder with | some p => byte (playerNumber p) | none => 0#8),
    (match r.cause with | some c => byte c.code | none => 0#8)]

/-- The sub-reason byte, 0 if absent. -/
def subByte (o : Option SubReason) : Byte :=
  match o with
  | some c => byte c.code
  | none => 0#8

/-- R184: the code of a claim's origin, and its switch or slot (FFh for TIMER and ROLLCALL). -/
def Origin.bytes : Origin → List Byte
  | .switch n => [0#8, byte n.val]
  | .slot n => [1#8, byte n.val]
  | .driver n => [2#8, byte n.val]
  | .timer => [3#8, 0xFF#8]
  | .rollcall => [4#8, 0xFF#8]

/-- R184. -/
def LostCause.code : LostCause → Nat
  | .displaced => 1 | .discarded => 2 | .vetoed => 3

/-- R184: 0 OPEN, 1 CLOSED. -/
def Level.code : Level → Nat
  | .opened => 0 | .closed => 1

/-- R184: the notice kind's code. -/
def NoticeBody.code : NoticeBody → Nat
  | .start _ => 1 | .phase _ _ _ _ _ _ => 2 | .score _ _ _ _ _ _ _ _ _ => 3 | .balls _ _ _ _ _ _ => 4 | .lock _ _ => 5
  | .mode _ _ _ _ _ _ => 6 | .refused _ _ _ _ _ => 7 | .member _ _ _ _ _ _ => 8 | .fault _ _ => 9
  | .claimLost _ _ _ _ => 10 | .switchLost _ _ => 11

/-- R184: the notice's fields, in order. -/
def NoticeBody.fields : NoticeBody → List Byte
  | .start sender => [byte sender.val]
  | .phase ph count cur ball tilted nudges =>
    [byte ph.code, byte count, byte (playerNumber cur), byte ball, byte (flag tilted), byte nudges]
  | .score p units total m award jack sender sw tag =>
    byte (playerNumber p) :: toBytes 5 units ++ toBytes 4 total ++ byte m :: toBytes 4 award ++ toBytes 3 jack
      ++ [byte sender.val, byte sw.val, tag]
  | .balls inPlay ret serve occ mb save =>
    [byte inPlay, byte ret, byte serve, byte occ, byte (flag mb)] ++ toBytes 2 save
  | .lock n r => byte n.val :: byte r.code :: r.fieldBytes
  | .mode m p report remaining progress sweep =>
    [byte m.val, byte (playerNumber p), byte report.code] ++ toBytes 2 remaining ++ [byte progress, byte (flag sweep)]
  | .refused kind sender reason sub arg =>
    [byte kind.code, byte sender.val, byte reason.code, subByte sub, indexOrFF arg]
  | .member k st dec tr sb digest =>
    [byte k.val, byte st.code, dec, rolesByte tr sb] ++ toBytes 2 ((digest.getD 0#16).toNat)
  | .fault k summary => [byte k.val, summary]
  | .claimLost kind arg origin cause => [byte kind.code, indexOrFF arg] ++ origin.bytes ++ [byte cause.code]
  | .switchLost sw level => [byte sw.val, byte level.code]

/-- R183: bytes 1 to 5 + n of a notice. A number of several bytes, here and in the fields, goes out most significant byte
first (log entry 43). -/
def Notice.middle (n : Notice) : List Byte :=
  [n.number, byte n.body.code] ++ toBytes 2 n.ordinal.toNat ++ [byte n.body.fields.length] ++ n.body.fields

/-- R183: a notice on RPT. -/
def Notice.bytes (n : Notice) : List Byte := 0x7E#8 :: n.middle ++ [crc8 (bytesToBits n.middle)]

/-! ### Creating a notice (R182) -/

/-- R182: with the port enabled, a handed-over notice takes the notice number and the low half of the ordinal, the
number is raised, and the notice is queued unless the FIFO is full. With the port disabled none is created. -/
def ReportPort.create (r : ReportPort) (ordinal : Word32) (body : NoticeBody) : ReportPort :=
  if r.enabled then
    let n : Notice := { number := r.number, ordinal := ordinal.truncate 16, body := body }
    { r with
      number := r.number + 1#8
      fifo := if r.fifo.length < Config.noticeCapacity then r.fifo ++ [n] else r.fifo }
  else r

/-- R182: a notice handed over by any block; the ordinal is the game table's, which the last completed application left,
or an adoption of the ATTRACT defaults since (log entry 40). -/
def State.notify (s : State) (body : NoticeBody) : State := s.setRpt (s.rpt.create s.table.ordinal body)

/-- R182: notices handed over in order. -/
def State.notifyAll (s : State) (bodies : List NoticeBody) : State := bodies.foldl State.notify s

end Sys2Proof.Machine
end

