-- ==== Sys2Proof/Machine/Flags.lean ====
section
/-! DEFINITION. Machine/Flags.lean: the fault set and its mask (R180, R181). -/

namespace Sys2Proof.Machine

/-- The eight faults of the fault set, in the order of their summary bits (R180). -/
inductive StationFault
  | config | duplicate | quiet | diverged | expander | sensor | drive | stuck
  deriving DecidableEq, Repr

/-- R180: the fault's bit of the summary byte. -/
def StationFault.bit : StationFault → Byte
  | .config => 0x01#8 | .duplicate => 0x02#8 | .quiet => 0x04#8 | .diverged => 0x08#8
  | .expander => 0x10#8 | .sensor => 0x20#8 | .drive => 0x40#8 | .stuck => 0x80#8

/-- The fault is in the fault set. -/
def State.hasFault (s : State) (f : StationFault) : Bool := s.ctl.faults &&& f.bit != 0#8

/-- R180: a change of the fault set is handed to the Report Port as one FAULT notice with the new summary; a report that
changes nothing gives none. (FLT# and FAULT lamps are read from the set, R181, R172.) -/
def State.putFaults (s : State) (summary : Byte) : State :=
  if s.ctl.faults = summary then s
  else (s.setCtl { s.ctl with faults := summary }).notify (.fault s.ctl.station summary)

/-- R180: a block reports that a fault holds. -/
def State.setFault (s : State) (f : StationFault) : State := s.putFaults (s.ctl.faults ||| f.bit)

/-- R180: a block reports that a fault has ended. -/
def State.clearFault (s : State) (f : StationFault) : State := s.putFaults (s.ctl.faults &&& ~~~f.bit)

/-- R181: FLT# is driven low while the fault set and the fault mask share a fault. -/
def State.fltLow (s : State) : Bool := s.ctl.faults &&& s.ctl.mask != 0#8

end Sys2Proof.Machine
end

