-- ==== Sys2Proof/Machine/Table.lean ====
section
/-! DEFINITION. Machine/Table.lean: the changes the kinds of frame share: slots, modes, the tilt, the ball end, game over,
the silence check, and derived recomputation (chapters 1 to 4). Each change produces its notices where it is made. -/

namespace Sys2Proof.Machine

/-- An application at work: the table as changed so far, and the notices produced so far, in order (R18). -/
structure Work where
  table   : GameTable
  notices : List NoticeBody
  deriving DecidableEq, Repr

/-- The outcome of an application (R18). -/
inductive AppOutcome
  | applied
  | refused (reason : Reason)
  | noOp
  deriving DecidableEq, Repr

/-- A change of the table. -/
def Work.upd (w : Work) (f : GameTable → GameTable) : Work := { w with table := f w.table }

/-- A notice is produced. -/
def Work.note (w : Work) (n : NoticeBody) : Work := { w with notices := w.notices ++ [n] }

/-- R25: a PHASE notice with the five values as they stand. -/
def Work.notePhase (w : Work) : Work :=
  w.note (.phase w.table.phase w.table.playerCount w.table.currentPlayer w.table.ballNumber w.table.tilted
    w.table.nudgeCount)

/-! ### Refusals (R19, R20) -/

/-- R19, R20: a refusal is recorded whole, and one REFUSED notice is produced. The ordinal is that of the application
that records it, which stage 5 has still to count. -/
def Work.recordRefusal (w : Work) (kind : FrameKind) (sender : Station) (reason : Reason) (sub : Option SubReason)
    (argument : Option (Fin 8)) : Work :=
  (w.upd fun t =>
    { t with
      refusal := some
        { kind := kind, sender := sender, reason := reason, sub := sub, ordinal := t.ordinal + 1#32,
          argument := argument } }).note (.refused kind sender reason sub argument)

/-- R19: the frame is refused. -/
def Work.refuse (w : Work) (f : Frame) (reason : Reason) : Work × AppOutcome :=
  (w.recordRefusal f.payload.kind f.sender reason none f.payload.argument, .refused reason)

/-- The frame's effects have been made. -/
def Work.applied (w : Work) : Work × AppOutcome := (w, .applied)

/-! ### Slots (R10, R54) -/

/-- The LOCK notices of a change of the lock table, in ascending slot number: one for each slot whose state changes. -/
def lockNotices (old new : Vector SlotRecord 8) (among : Slot → Bool) : List NoticeBody :=
  (indices 8).filterMap fun n =>
    if among n && (new[n].code != old[n].code) then some (.lock n new[n]) else none

/-- R54: slots are changed, each by a function of its number and record, with one LOCK notice for each change of a
slot's state, in ascending slot number. -/
def Work.mapSlots (w : Work) (g : Slot → SlotRecord → SlotRecord) : Work :=
  { table := { w.table with slots := vmap g w.table.slots }
    notices := w.notices ++ lockNotices w.table.slots (vmap g w.table.slots) (fun _ => true) }

/-- One slot takes a record. -/
def Work.setSlot (w : Work) (n : Slot) (r : SlotRecord) : Work := w.mapSlots fun k old => if k = n then r else old

/-! ### Modes (R11, R90) -/

/-- What a MODE notice calls a state. -/
def ModeState.report : ModeState → ModeReport
  | .running => .running
  | .paused => .paused
  | .suspended => .suspended

/-- What a change does to one entry of the mode table: the entry as changed, whether it stays in the table, and what its
MODE notice says, if it has one. -/
structure ModeStep where
  entry  : ModeEntry
  stays  : Bool
  report : Option ModeReport
  deriving DecidableEq, Repr

/-- The entry is left as it is. -/
def ModeStep.keep (e : ModeEntry) : ModeStep := { entry := e, stays := true, report := none }

/-- The entry moves to a state, with a MODE notice. -/
def ModeStep.move (e : ModeEntry) (st : ModeState) : ModeStep :=
  { entry := { e with state := st }, stays := true, report := some st.report }

/-- The entry is removed with an outcome, with a MODE notice. -/
def ModeStep.remove (e : ModeEntry) (r : ModeReport) : ModeStep := { entry := e, stays := false, report := some r }

/-- R90: the MODE notice of an entry. -/
def modeNotice (t : GameTable) (e : ModeEntry) (r : ModeReport) : NoticeBody :=
  .mode e.mode e.player r e.remaining e.progress t.players[e.player].sweepQualified

/-- R11, R90: the entries of the mode table are changed or removed in table order, those that stay closing up and keeping
their order, with the MODE notices of the changes. -/
def Work.mapModes (w : Work) (f : ModeEntry → ModeStep) : Work :=
  { table := { w.table with modes := ((w.table.modes.map f).filter ModeStep.stays).map ModeStep.entry }
    notices := w.notices ++ (w.table.modes.map f).filterMap
      fun st => st.report.map (modeNotice w.table st.entry) }

/-- R11, R86: an active entry, RUNNING or PAUSED. -/
def ModeEntry.active (e : ModeEntry) : Bool := e.state != .suspended

/-- An active entry of the current player (R86, R87, R97). -/
def GameTable.activeOfCurrent (t : GameTable) (e : ModeEntry) : Bool := e.player == t.currentPlayer && e.active

/-- The definition of an entry's mode. -/
def GameTable.modeDef (t : GameTable) (m : ModeId) : ModeDef := t.profile.modes[m]

/-- R91: the playfield multiplier that a mode table gives the current player. -/
def GameTable.multiplierOf (t : GameTable) (modes : List ModeEntry) : Nat :=
  min Config.multiplierMax
    (1 + modes.countP (fun e => t.activeOfCurrent e && (t.modeDef e.mode).multiply))

/-! ### Counts -/

/-- R49: serve_pending is raised by 1; at 8 it is left at 8. -/
def Work.raiseServe (w : Work) : Work :=
  w.upd fun t => { t with servePending := if t.servePending < Config.servePendingMax then t.servePending + 1 else t.servePending }

/-- The current player's record is changed. -/
def Work.updPlayer (w : Work) (f : Player → Player) : Work :=
  w.upd fun t => { t with players := vmap (fun k p => if k = t.currentPlayer then f p else p) t.players }

/-- The hold set is emptied (R81). -/
def Work.emptyHolds (w : Work) : Work := w.upd fun t => { t with holds := Vector.replicate 16 none }

/-! ### Game over (R47) and the ball end (R42 to R46) -/

/-- R47: the game-over changes, in order. -/
def Work.gameOver (w : Work) : Work :=
  let w1 := w.upd fun t => { t with phase := .attract }
  let w2 := w1.mapModes fun e => .remove e .ended
  let w3 := w2.mapSlots fun _ _ => .absent
  let w4 := w3.upd fun t =>
    { t with
      inPlay := 0, returning := 0, servePending := 0,
      saveWindow := 0, ballEndRemaining := 0, rollcallRemaining := 0,
      multiball := false, launchSeen := false, tilted := false, nudgeCount := 0,
      jackpot := 0, holds := Vector.replicate 16 none }
  w4.notePhase

/-- R46, step 4, and R88: the next ball begins. -/
def Work.nextBall (w : Work) : Work :=
  let w1 := (w.upd fun t => { t with phase := .play }).notePhase
  let w2 := w1.upd fun t => { t with servePending := 1, launchSeen := false }
  w2.mapModes fun e =>
    if e.player = w2.table.currentPlayer ∧ e.state = .suspended then .move e .running else .keep e

/-- R46: the ball end completes. -/
def Work.completeBallEnd (w : Work) : Work :=
  let w1 := w.upd fun t => { t with tilted := false, nudgeCount := 0 }
  let w2 := w1.upd fun t =>
    { t with
      ballEndRemaining := 0
      currentPlayer := if playerNumber t.currentPlayer < t.playerCount then t.currentPlayer + 1 else 0
      ballNumber := if playerNumber t.currentPlayer < t.playerCount then t.ballNumber else t.ballNumber + 1 }
  if w2.table.profile.ballsPerGame < w2.table.ballNumber then w2.gameOver else w2.nextBall

/-- R44: what the completion check looks at. -/
def GameTable.ballEndDone (t : GameTable) : Bool :=
  t.slots.toList.all (fun r => !r.isHeld && !r.isReleasing) && t.returning == 0

/-- R44: the completion check, at the end of a kind stage that finds the phase BALL_END. -/
def Work.completionCheck (w : Work) : Work :=
  if w.table.phase = .ballEnd ∧ w.table.ballEndDone then w.completeBallEnd else w

/-- R87: what entry to BALL_END does to an entry of the mode table. -/
def ballEndModeStep (t : GameTable) (e : ModeEntry) : ModeStep :=
  if t.activeOfCurrent e then
    if (t.modeDef e.mode).carry then .move e .suspended else .remove e .ended
  else .keep e

/-- R43, step 2: a HELD slot is released for the ball end. -/
def ballEndSlot : SlotRecord → SlotRecord
  | .held o _ => .releasing o .ballEnd
  | r => r

/-- R43: entry to BALL_END. (The completion check that follows it, R44, is made at the end of the kind stage.) -/
def Work.enterBallEnd (w : Work) : Work :=
  let w1 := (w.upd fun t => { t with phase := .ballEnd }).notePhase
  let w2 := w1.mapSlots fun _ r => ballEndSlot r
  let w3 := w2.mapModes (ballEndModeStep w2.table)
  (w3.upd fun t =>
    { t with
      holds := Vector.replicate 16 none, saveWindow := 0, multiball := false,
      ballEndRemaining := Config.ballEndTicks })

/-- R42: what the entry check looks at. -/
def GameTable.ballOver (t : GameTable) : Bool := t.inPlay == 0 && t.servePending == 0 && !t.multiballReleasing

/-- R42: the ball-end entry check, in PLAY. -/
def Work.ballEndEntryCheck (w : Work) : Work :=
  if w.table.phase = .play ∧ w.table.ballOver then w.enterBallEnd else w

/-! ### Tilt (R40) -/

/-- An OPEN slot made DARK; other records are kept. -/
def darken : SlotRecord → SlotRecord
  | .opened o => .dark o
  | r => r

/-- R40, R86: the tilt takes effect. -/
def Work.tiltEffects (w : Work) : Work :=
  let w1 := w.upd fun t => { t with tilted := true }
  let w2 := w1.mapModes fun e => if w1.table.activeOfCurrent e then .remove e .aborted else .keep e
  let w3 := w2.emptyHolds
  let w4 := w3.mapSlots fun _ r => darken r
  w4.notePhase

/-! ### Silence (R37 to R39) -/

/-- R37: the entry is MEMBER and 30 ticks or more behind. -/
def GameTable.findsSilent (t : GameTable) (k : Station) : Bool :=
  t.members[k].state == .member && Config.silenceTicks ≤ (t.tick - t.members[k].lastHeard).toNat

/-- R38: what the silence of its owner does to a slot. -/
def strand : SlotRecord → SlotRecord
  | .held o p => .strandedHeld o p
  | .releasing o c => .strandedReleasing o c
  | .jammed o c => .strandedReleasing o c
  | .dark _ | .opened _ => .absent
  | r => r

/-- R38: the slots after the silence of the stations `lost`. -/
def strandOf (lost : Station → Bool) (r : SlotRecord) : SlotRecord :=
  match r.owner with
  | some k => if lost k then strand r else r
  | none => r

/-- The MEMBER notice of an entry as it stands (R31, R37). -/
def memberNotice (t : GameTable) (k : Station) : NoticeBody :=
  .member k t.members[k].state t.members[k].declared t.members[k].trough t.members[k].start t.members[k].digest

/-- R37, R38: the entries found silent become SILENT, in ascending station number, each with its slots stranded: the LOCK
notices of its slots, then its MEMBER notice (log entry 33). -/
def Work.silenceEntries (w : Work) : Work :=
  let lost : Station → Bool := w.table.findsSilent
  let t : GameTable :=
    { w.table with
      members := vmap (fun k m => if lost k then { m with state := .silent } else m) w.table.members
      slots := vmap (fun _ r => strandOf lost r) w.table.slots }
  { table := t
    notices := w.notices ++ (indices 16).flatMap fun k =>
      if lost k then lockNotices w.table.slots t.slots (fun n => w.table.slots[n].owner == some k) ++ [memberNotice t k]
      else [] }

/-- R39: the trough-loss abort. -/
def Work.troughLossAbort (w : Work) : Work := (w.mapModes fun e => .remove e .aborted).gameOver

/-- R37, R39: the silence check. -/
def Work.silenceCheck (w : Work) : Work :=
  if (indices 16).any (fun k => w.table.findsSilent k && w.table.members[k].trough) then w.silenceEntries.troughLossAbort
  else w.silenceEntries

/-! ### Derived recomputation (R17) -/

/-- R68: the multiball end condition. -/
def GameTable.multiballOver (t : GameTable) : Bool :=
  t.multiball && decide (t.inPlay ≤ 1) && t.servePending == 0 && !t.multiballReleasing

/-- R17, step 1. -/
def Work.endMultiball (w : Work) : Work :=
  if w.table.multiballOver then w.upd fun t => { t with multiball := false } else w

/-- R52: the four lighting conditions. -/
def GameTable.lit (t : GameTable) : Bool :=
  t.phase == .play && !t.tilted && !t.multiball && decide (0 < t.current.locksLit)

/-- R52: a DARK or OPEN slot lit or darkened; other records are kept. -/
def light (lit : Bool) : SlotRecord → SlotRecord
  | .dark o | .opened o => if lit then .opened o else .dark o
  | r => r

/-- R17, step 2. -/
def Work.lightSlots (w : Work) : Work := w.mapSlots fun _ r => light w.table.lit r

/-- R77: the pause condition. -/
def GameTable.pauseCondition (t : GameTable) : Bool := !t.holdsEmpty || (t.phase == .play && t.inPlay == 0)

/-- R77: what the pause condition does to an entry. -/
def pauseStep (t : GameTable) (e : ModeEntry) : ModeStep :=
  let target : ModeState := if t.pauseCondition then .paused else .running
  if e.active && !(t.modeDef e.mode).noPause && e.state != target then .move e target else .keep e

/-- R17, step 3. -/
def Work.pauseModes (w : Work) : Work := w.mapModes (pauseStep w.table)

/-- R17: derived recomputation, in its order. -/
def Work.recompute (w : Work) : Work := w.endMultiball.lightSlots.pauseModes

/-- R51: what a BALLS notice reports of a table. -/
def GameTable.ballsKey (t : GameTable) : Nat × Nat × Nat × Nat × Bool × Bool :=
  (t.inPlay, t.returning, t.servePending, t.occupiedSlots, t.multiball, decide (0 < t.saveWindow))

/-- R78, R70: between `start` and `t` a HOLD set, which alone adds to the hold set, has stopped an open save window from
counting (log entry 34). -/
def GameTable.stopsSaveWindow (start t : GameTable) : Bool :=
  start.holdsEmpty && !t.holdsEmpty && decide (0 < t.saveWindow)

/-- R51, R78: the BALLS notice, behind every other notice, if the application that began with `start` has changed what it
reports or has stopped the save window from counting. -/
def Work.noteBalls (w : Work) (start : GameTable) : Work :=
  if w.table.ballsKey = start.ballsKey ∧ start.stopsSaveWindow w.table = false then w
  else w.note (.balls w.table.inPlay w.table.returning w.table.servePending w.table.occupiedSlots w.table.multiball
    w.table.saveWindow)

end Sys2Proof.Machine
end

