-- ==== Sys2Proof/Machine/Kinds.lean ====
section
/-! DEFINITION. Machine/Kinds.lean: the kind stage of every frame kind (R15, stage 3): its checks in their order and its
effects (chapters 2 to 5). Each stage takes the work begun by stages 1 and 2 and answers the work and the outcome. -/

namespace Sys2Proof.Machine

/-! ### Tilt and nudge -/

/-- R40. -/
def tiltStage (f : Frame) (w : Work) : Work × AppOutcome :=
  if w.table.phase ≠ .play then w.refuse f .notPlaying
  else if w.table.tilted then w.applied
  else w.tiltEffects.applied

/-- R41: the nudge count is raised, with its PHASE notice. -/
def Work.countNudge (w : Work) : Work := (w.upd fun t => { t with nudgeCount := t.nudgeCount + 1 }).notePhase

/-- R41. -/
def nudgeStage (f : Frame) (w : Work) : Work × AppOutcome :=
  if w.table.phase ≠ .play then w.refuse f .notPlaying
  else if w.table.tilted then w.applied
  else if w.table.profile.nudgeWarnings < w.table.nudgeCount + 1 then w.countNudge.tiltEffects.applied
  else w.countNudge.applied

/-! ### Lock slots -/

/-- R58, step 1: a HELD slot is released for the multiball. -/
def multiballSlot : SlotRecord → SlotRecord
  | .held o _ => .releasing o .multiball
  | r => r

/-- R58: multiball starts. -/
def Work.startMultiball (w : Work) : Work :=
  (w.mapSlots fun _ r => multiballSlot r).upd fun t =>
    { t with multiball := true, jackpot := t.profile.jackpotBase, saveWindow := t.profile.saveTicks }

/-- R57, steps 1 to 3: the ball goes from in_play into the slot. -/
def Work.takeLock (w : Work) (n : Slot) (owner : Station) : Work :=
  ((w.upd fun t => { t with inPlay := t.inPlay - 1 }).setSlot n (.held owner w.table.currentPlayer)).updPlayer
    fun p => { p with locksLit := p.locksLit - 1 }

/-- R57: a LOCK's effects. -/
def Work.lockEffects (w : Work) (n : Slot) (owner : Station) : Work :=
  let w1 := w.takeLock n owner
  if w1.table.profile.lockGoal ≤ w1.table.heldSlots then w1.startMultiball
  else if w1.table.inPlay = 0 then w1.raiseServe
  else w1

/-- R56: why a LOCK of a slot in a state other than OPEN is refused. -/
def lockRefusal (multiball : Bool) : SlotRecord → Reason
  | .dark _ => if multiball then .slotState else .noLockLit
  | _ => .slotState

/-- R56, R57. -/
def lockStage (f : Frame) (n : Slot) (w : Work) : Work × AppOutcome :=
  if w.table.phase ≠ .play then w.refuse f .notPlaying
  else if w.table.tilted then w.refuse f .tilted
  else if w.table.slots[n].owner ≠ some f.sender then w.refuse f .slotState
  else if w.table.slots[n] ≠ .opened f.sender then w.refuse f (lockRefusal w.table.multiball w.table.slots[n])
  else if w.table.inPlay = 0 then w.refuse f .stray
  else (w.lockEffects n f.sender).applied

/-- R59: a LOST's effects. -/
def Work.lostEffects (w : Work) (n : Slot) (owner : Station) : Work :=
  ((w.setSlot n (.dark owner)).upd fun t => { t with inPlay := t.inPlay + 1 }).updPlayer
    fun p => { p with locksLit := min Config.locksLitMax (p.locksLit + 1) }

/-- R59. -/
def lostStage (f : Frame) (n : Slot) (w : Work) : Work × AppOutcome :=
  if w.table.slots[n].isHeld ∧ w.table.slots[n].owner = some f.sender then (w.lostEffects n f.sender).applied
  else w.refuse f .slotState

/-- R60: where the ball of a release is counted. -/
def GameTable.countRelease (t : GameTable) (c : Option Cause) : GameTable :=
  if c = some .multiball ∧ t.phase = .play then { t with inPlay := t.inPlay + 1 }
  else { t with returning := t.returning + 1 }

/-- R60. -/
def releasedStage (f : Frame) (n : Slot) (w : Work) : Work × AppOutcome :=
  if w.table.slots[n].isLeaving ∧ w.table.slots[n].owner = some f.sender then
    ((w.setSlot n (.dark f.sender)).upd fun t => t.countRelease w.table.slots[n].cause).applied
  else w.refuse f .slotState

/-- R61: the conditions of the forced serve, once the slot is JAMMED. -/
def GameTable.forcesServe (t : GameTable) (c : Cause) : Bool :=
  t.phase == .play && c == .multiball && t.inPlay == 0 && t.servePending == 0 && !t.multiballReleasing

/-- R61. -/
def jammedStage (f : Frame) (n : Slot) (w : Work) : Work × AppOutcome :=
  match w.table.slots[n] with
  | .releasing o c =>
    if o = f.sender then
      let w1 := w.setSlot n (.jammed o c)
      let w2 := if w1.table.forcesServe c then w1.raiseServe else w1
      w2.ballEndEntryCheck.applied
    else w.refuse f .slotState
  | _ => w.refuse f .slotState

/-! ### The trough -/

/-- R62, after the checks of R55. -/
def drainStage (f : Frame) (w : Work) : Work × AppOutcome :=
  if !w.table.isTrough f.sender then w.refuse f .notMember
  else if 0 < w.table.returning then (w.upd fun t => { t with returning := t.returning - 1 }).applied
  else if 0 < w.table.inPlay then
    let w1 := w.upd fun t => { t with inPlay := t.inPlay - 1 }
    if w1.table.phase = .play ∧ 0 < w1.table.saveWindow ∧ w1.table.tilted = false then w1.raiseServe.applied
    else w1.ballEndEntryCheck.applied
  else w.refuse f .stray

/-- R63: a LAUNCHED's effects in PLAY. -/
def GameTable.launchInPlay (t : GameTable) : GameTable :=
  { t with
    servePending := t.servePending - 1
    inPlay := t.inPlay + 1
    launchSeen := true
    saveWindow := if t.launchSeen then t.saveWindow else t.profile.saveTicks }

/-- R63, R64, after the checks of R55. -/
def launchedStage (f : Frame) (w : Work) : Work × AppOutcome :=
  if !w.table.isTrough f.sender then w.refuse f .notMember
  else if w.table.profile.ballsInstalled ≤ w.table.countedTotal then w.refuse f .stray
  else if w.table.phase = .play then (w.upd GameTable.launchInPlay).applied
  else (w.upd fun t => { t with returning := t.returning + 1 }).applied

/-! ### Starting a game, adding players, joining -/

/-- R29: the table after a START's kind stage. -/
def GameTable.newGame (t : GameTable) : GameTable :=
  { GameTable.attractDefaults t.profile with phase := .rollcall, rollcallRemaining := Config.rollcallTicks }

/-- R29: a new game. Its notices are the START and PHASE notices that R29 names; a sync start (R4) over a table whose
slots or mode entries the UNKNOWN replica kept gives no LOCK and no MODE notice of their vanishing (log entry 32). -/
def Work.newGame (w : Work) (sender : Station) : Work := ((w.note (.start sender)).upd GameTable.newGame).notePhase

/-- R30: a player is added. -/
def addPlayerStage (f : Frame) (w : Work) : Work × AppOutcome :=
  if w.table.phase = .ballEnd then w.refuse f .tooLate
  else if w.table.ballNumber ≠ 1 ∨ w.table.currentPlayer ≠ 0 then w.refuse f .tooLate
  else if w.table.members[f.sender].state ≠ .member then w.refuse f .notMember
  else if w.table.playerCount = 4 then w.refuse f .playersFull
  else ((w.upd fun t => { t with playerCount := t.playerCount + 1 }).notePhase).applied

/-- R29, R30; `sync` says that it is applied as a sync start (R4). -/
def startStage (sync : Bool) (f : Frame) (w : Work) : Work × AppOutcome :=
  if sync ∨ w.table.phase = .attract then (w.newGame f.sender).applied else addPlayerStage f w

/-- One membership entry is changed. -/
def Work.updMember (w : Work) (k : Station) (g : Member → Member) : Work :=
  w.upd fun t => { t with members := vmap (fun j m => if j = k then g m else m) t.members }

/-- R31: the entry takes a state, with a MEMBER notice. -/
def Work.memberBecomes (w : Work) (k : Station) (st : MemberState) : Work :=
  let w1 := w.updMember k fun m => { m with state := st }
  w1.note (memberNotice w1.table k)

/-- R33: an occupied slot of an admitted JOIN. -/
def Work.clearOccupied (sender : Station) (w : Work) (n : Slot) : Work :=
  if w.table.countedTotal < w.table.profile.ballsInstalled then w.setSlot n (.releasing sender .clear)
  else w.recordRefusal .join sender .stray none (some n)

/-- R32, step 5, and R33: the sender is admitted with its declared slots, and its occupied ones are dealt with. -/
def Work.admission (w : Work) (sender : Station) (declared occupied : Byte) : Work :=
  let w1 := w.memberBecomes sender .member
  let w2 := w1.mapSlots fun n r => if declared.getLsbD n.val then .dark sender else r
  ((indices 8).filter fun n => (declared &&& occupied).getLsbD n.val).foldl (Work.clearOccupied sender) w2

/-- R32: the judgement of a JOIN from a sender whose entry is ABSENT. -/
def Work.judgeJoin (w : Work) (sender : Station) (digest : Word16) (declared occupied roles : Byte) : Work :=
  let w1 := w.updMember sender fun m =>
    { m with declared := declared, trough := roles.getLsbD 0, start := roles.getLsbD 1, digest := some digest }
  let w2 := w1.upd fun t => { t with referenceDigest := some (t.referenceDigest.getD digest) }
  if w2.table.referenceDigest ≠ some digest then w2.memberBecomes sender .mismatched
  else if (indices 8).any fun n => declared.getLsbD n.val && w2.table.slots[n] != .absent then
    w2.memberBecomes sender .mismatched
  else w2.admission sender declared occupied

/-- R31. -/
def joinStage (f : Frame) (digest : Word16) (declared occupied roles : Byte) (w : Work) : Work × AppOutcome :=
  if w.table.phase ≠ .rollcall then w.refuse f .lateJoin
  else
    match w.table.members[f.sender].state with
    | .absent => (w.judgeJoin f.sender digest declared occupied roles).applied
    | .member => (w.memberBecomes f.sender .mismatched).applied
    | .mismatched | .silent => w.applied

/-- R36; `own` is this station's number. -/
def presenceStage (own : Station) (f : Frame) (summary : Byte) (w : Work) : Work × AppOutcome :=
  if summary ≠ 0#8 ∧ f.sender ≠ own then (w.note (.fault f.sender summary)).applied else w.applied

/-! ### Hits (chapter 5) -/

/-- R102: an award to the current player. -/
def Player.award (units : Nat) (p : Player) : Player := { p with score := min Config.scoreMax (p.score + units) }

/-- R102: an award is added at once. -/
def Work.award (w : Work) (units : Nat) : Work := w.updPlayer (Player.award units)

/-- R74: the modes read as SWEEP_COUNTS, as a mask. -/
def Profile.sweepCounts (p : Profile) : Byte :=
  maskOf 8 fun m : ModeId => p.modes[m].defined && p.modes[m].sweepCounts && !p.modes[m].sweepFinal

/-- R83 (steps 3 to 5), R84, R85: the record of the player who completes mode `m`. -/
def Player.complete (profile : Profile) (m : ModeId) (p : Player) : Player :=
  let counts := profile.sweepCounts
  let after := p.completed ||| BitVec.ofNat 8 (2 ^ m.val)
  { p with
    completed := if profile.modes[m].sweepFinal then after &&& ~~~counts else after
    sweepQualified :=
      p.sweepQualified
        || (counts.getLsbD m.val && (p.completed &&& counts != counts) && (after &&& counts == counts)) }

/-- R97: an instance that stage 3 visits. -/
def GameTable.visits (t : GameTable) (tag : Byte) (e : ModeEntry) : Bool :=
  t.activeOfCurrent e && (t.modeDef e.mode).goalTag == tag.toNat && decide (1 ≤ tag.toNat) && decide (tag.toNat ≤ 15)

/-- R97, R98, R83: stage 3 of a HIT over the entries still to visit, `kept` being those already passed that stay. -/
def goalHits (m : Nat) (tag : Byte) : List ModeEntry → List ModeEntry → Work → Work
  | kept, [], w => w.upd fun t => { t with modes := kept }
  | kept, e :: rest, w =>
    if w.table.visits tag e then
      let d := w.table.modeDef e.mode
      let e' := { e with progress := e.progress + 1 }
      let w1 := w.award (d.perHit * m)
      if e'.progress = d.goalCount then
        let w2 := w1.award (d.completion * w1.table.multiplierOf (kept ++ e' :: rest))
        let w3 := w2.updPlayer (Player.complete w2.table.profile e.mode)
        goalHits m tag kept rest (w3.note (modeNotice w3.table e' .completed))
      else goalHits m tag (kept ++ [e']) rest (w1.note (modeNotice w1.table e' e'.state.report))
    else goalHits m tag (kept ++ [e]) rest w

/-- R99: stage 4. -/
def Work.lightLock (w : Work) (flags : Byte) : Work :=
  if flags.getLsbD 0 then w.updPlayer fun p => { p with locksLit := min Config.locksLitMax (p.locksLit + 1) } else w

/-- R100: stage 5 takes place. -/
def GameTable.collectsJackpot (t : GameTable) (flags : Byte) : Bool := flags.getLsbD 1 && t.multiball

/-- R100: stage 5. -/
def Work.jackpotStage (w : Work) (m : Nat) (flags : Byte) : Work :=
  if w.table.collectsJackpot flags then
    (w.award (w.table.jackpot * m)).upd fun t =>
      { t with jackpot := min Config.jackpotMax (t.jackpot + t.profile.jackpotStep) }
  else w

/-- R95: the five stages of an applied HIT, and its SCORE notice (R103). -/
def Work.hitEffects (w : Work) (sender : Station) (sw : Switch) (base : BitVec 24) (tag flags : Byte) : Work :=
  let m := w.table.multiplierOf w.table.modes
  let w1 := w.award (base.toNat * m)
  let w2 := goalHits m tag [] w1.table.modes w1
  let w3 := w2.lightLock flags
  let w4 := w3.jackpotStage m flags
  if w4.table.current.score = w.table.current.score then w4
  else
    w4.note (.score w4.table.currentPlayer w4.table.current.score (w4.table.current.score - w.table.current.score) m
      (if w3.table.collectsJackpot flags then w3.table.jackpot * m else 0) w4.table.jackpot sender sw tag)

/-- R94, R95. -/
def hitStage (f : Frame) (sw : Switch) (base : BitVec 24) (tag flags : Byte) (w : Work) : Work × AppOutcome :=
  if w.table.phase ≠ .play then w.refuse f .notPlaying
  else if w.table.tilted then w.refuse f .tilted
  else (w.hitEffects f.sender sw base tag flags).applied

/-! ### Modes and holds (chapter 4) -/

/-- R75, checks 3 to 9: why a MODE is refused, if it is. -/
def GameTable.modeRefusal (t : GameTable) (m : ModeId) : Option Reason :=
  let d := t.modeDef m
  if !d.defined then some .done
  else if t.modes.any fun e => e.player == t.currentPlayer && e.mode == m then some .already
  else if t.current.completed.getLsbD m.val && !d.repeats then some .done
  else if d.sweepFinal && !t.current.sweepQualified then some .notQualified
  else if Config.activeModeLimit ≤ t.modes.countP ModeEntry.active then some .full
  else if d.group ≠ 0 ∧ (t.modes.any fun e => e.active && (t.modeDef e.mode).group == d.group) then some .group
  else if Config.modeTableCapacity ≤ t.modes.length then some .tableFull
  else none

/-- R76, step 1: the new entry. -/
def GameTable.newMode (t : GameTable) (m : ModeId) : ModeEntry :=
  { mode := m, player := t.currentPlayer,
    state := if !(t.modeDef m).noPause && t.pauseCondition then .paused else .running,
    remaining := (t.modeDef m).duration, progress := 0 }

/-- R76. -/
def Work.modeEffects (w : Work) (m : ModeId) : Work :=
  let e := w.table.newMode m
  let w1 := w.upd fun t => { t with modes := t.modes ++ [e] }
  let w2 :=
    if (w.table.modeDef m).sweepFinal then w1.updPlayer fun p => { p with sweepQualified := false } else w1
  w2.note (modeNotice w2.table e e.state.report)

/-- R75, R76. The phase and the tilt are those of the table that this application finds: a MODE that follows the DRAIN
whose ball end is complete at once finds the PLAY of the next player (R92, log entry 35). -/
def modeStage (f : Frame) (m : ModeId) (w : Work) : Work × AppOutcome :=
  if w.table.phase ≠ .play then w.refuse f .notPlaying
  else if w.table.tilted then w.refuse f .tilted
  else
    match w.table.modeRefusal m with
    | some reason => w.refuse f reason
    | none => (w.modeEffects m).applied

/-- One station's entry of the hold set. -/
def Work.setHold (w : Work) (k : Station) (expiry : Option Word16) : Work :=
  w.upd fun t => { t with holds := vmap (fun j x => if j = k then expiry else x) t.holds }

/-- R78: HOLD set. -/
def holdSetStage (f : Frame) (w : Work) : Work × AppOutcome :=
  if w.table.phase = .play ∧ w.table.tilted = false then
    (w.setHold f.sender (some (w.table.tick + BitVec.ofNat 16 Config.holdTicks))).applied
  else (w, .noOp)

/-- R79: HOLD clear. -/
def holdClearStage (f : Frame) (w : Work) : Work × AppOutcome :=
  if w.table.holds[f.sender].isSome then (w.setHold f.sender none).applied else w.refuse f .notHeld

/-! ### Ticks (R27, R28) -/

/-- R27: the TICK would be APPLIED by its phase and number. -/
def GameTable.tickAdvances (t : GameTable) (number : Word16) : Bool :=
  t.phase != .attract && number == t.tick + 1#16

/-- R28, stage 1. -/
def Work.advanceTick (w : Work) : Work := w.upd fun t => { t with tick := t.tick + 1#16 }

/-- R28, stage 2, and R80. -/
def Work.expireHolds (w : Work) : Work :=
  w.upd fun t => { t with holds := vmap (fun _ x => if x = some t.tick then none else x) t.holds }

/-- R34: the number of MEMBER entries that hold the TROUGH role. -/
def GameTable.troughMembers (t : GameTable) : Nat :=
  t.members.toList.countP fun m => m.state == .member && m.trough

/-- R35: the sub-reason of a roll call that fails, none for one that succeeds (R34). -/
def GameTable.rollcallFailure (t : GameTable) : Option SubReason :=
  if t.members.toList.any (fun m => m.state == .mismatched) then some .mismatch
  else if t.troughMembers = 0 then some .noTrough
  else if 2 ≤ t.troughMembers then some .twoTroughs
  else none

/-- R34: the roll call has succeeded and the game enters PLAY. -/
def Work.enterPlay (w : Work) : Work :=
  ((w.upd fun t => { t with phase := .play }).notePhase).upd fun t =>
    { t with servePending := 1, launchSeen := false }

/-- R34, R35: the roll call ends. -/
def Work.endRollcall (w : Work) (sender : Station) : Work :=
  match w.table.rollcallFailure with
  | none => w.enterPlay
  | some sub => (w.recordRefusal .tick sender .rollcallFailed (some sub) none).gameOver

/-- R82: what the countdown does to an entry. -/
def countdownStep (e : ModeEntry) : ModeStep :=
  if e.state = .running ∧ 0 < e.remaining then
    let e' := { e with remaining := e.remaining - 1 }
    if e'.remaining = 0 then .remove e' .expired
    else { entry := e', stays := true, report := if e'.remaining % 10 = 0 then some .running else none }
  else .keep e

/-- R28, stage 3, in ROLLCALL. -/
def Work.rollcallCountdown (w : Work) (sender : Station) : Work :=
  let w1 := w.upd fun t => { t with rollcallRemaining := t.rollcallRemaining - 1 }
  if w1.table.rollcallRemaining = 0 then w1.endRollcall sender else w1

/-- R28, stage 3, in PLAY. -/
def Work.playCountdown (w : Work) : Work :=
  (w.upd fun t =>
    { t with saveWindow := if t.holdsEmpty then t.saveWindow - 1 else t.saveWindow }).mapModes countdownStep

/-- R28, stage 3, in BALL_END, and R45. -/
def Work.ballEndCountdown (w : Work) : Work :=
  let w1 := w.upd fun t => { t with ballEndRemaining := t.ballEndRemaining - 1 }
  if w1.table.ballEndRemaining = 0 then (w1.upd fun t => { t with returning := 0 }).completeBallEnd else w1

/-- R28, stage 3. -/
def Work.countdown (w : Work) (sender : Station) : Work :=
  match w.table.phase with
  | .attract => w
  | .rollcall => w.rollcallCountdown sender
  | .play => w.playCountdown
  | .ballEnd => w.ballEndCountdown

/-- R28, stage 4. -/
def Work.silenceStage (w : Work) : Work := if w.table.phase = .attract then w else w.silenceCheck

/-- R28: the stages of an applied TICK. (Stage 6 is the check of R44, made at the end of every kind stage.) -/
def Work.tickEffects (w : Work) (sender : Station) : Work :=
  ((w.advanceTick.expireHolds.countdown sender).silenceStage).ballEndEntryCheck

/-- R27, R28. -/
def tickStage (f : Frame) (number : Word16) (w : Work) : Work × AppOutcome :=
  if w.table.tickAdvances number then (w.tickEffects f.sender).applied else (w, .noOp)

/-! ### The kind stage -/

/-- R26: the kinds that the membership gate does not judge. -/
def FrameKind.ungated : FrameKind → Bool
  | .start | .join => true
  | _ => false

/-- R26: the membership gate refuses the frame. -/
def GameTable.gateRefuses (t : GameTable) (f : Frame) : Bool :=
  t.phase != .attract && !f.payload.kind.ungated && t.members[f.sender].state != .member

/-- R15, stage 3, behind the membership gate. -/
def kindChecks (own : Station) (sync : Bool) (f : Frame) (w : Work) : Work × AppOutcome :=
  match f.payload with
  | .tilt => tiltStage f w
  | .nudge => nudgeStage f w
  | .lock n => lockStage f n w
  | .lost n => lostStage f n w
  | .released n => releasedStage f n w
  | .jammed n => jammedStage f n w
  | .drain => drainStage f w
  | .launched => launchedStage f w
  | .start => startStage sync f w
  | .hit sw base tag flags => hitStage f sw base tag flags w
  | .mode m => modeStage f m w
  | .hold v => if v = 0#8 then holdClearStage f w else holdSetStage f w
  | .tick number => tickStage f number w
  | .presence _ _ summary => presenceStage own f summary w
  | .join digest declared occupied roles => joinStage f digest declared occupied roles w

/-- R26 and R15, stage 3. -/
def gatedStage (own : Station) (sync : Bool) (f : Frame) (w : Work) : Work × AppOutcome :=
  if w.table.gateRefuses f then w.refuse f .notMember else kindChecks own sync f w

/-- R15, stage 3, with the completion check that ends every kind stage in BALL_END (R44). -/
def kindStage (own : Station) (sync : Bool) (f : Frame) (w : Work) : Work × AppOutcome :=
  ((gatedStage own sync f w).1.completionCheck, (gatedStage own sync f w).2)

end Sys2Proof.Machine
end

