-- ==== Sys2Proof/Machine/Digest.lean ====
section
/-! DEFINITION. Machine/Digest.lean: the canonical content of the game table and its digest (R21), and the history ring
(R22). -/

namespace Sys2Proof.Machine

/-- R21: the hold set's bytes: the station mask, then each entry's expiry tick in ascending station order. -/
def holdBytes (holds : Vector (Option Word16) 16) : List Byte :=
  toBytes 2 (maskOf 16 (fun k : Station => holds[k].isSome)).toNat
    ++ holds.toList.flatMap fun x => match x with
      | some expiry => toBytes 2 expiry.toNat
      | none => []

/-- R21: the roll-call reference digest's bytes. -/
def referenceBytes : Option Word16 → List Byte
  | none => [0#8]
  | some d => 1#8 :: toBytes 2 d.toNat

/-- R21: the refusal record's bytes. -/
def refusalBytes : Option RefusalRecord → List Byte
  | none => [0#8]
  | some r =>
    [1#8, byte r.kind.code, byte r.sender.val, byte r.reason.code, subByte r.sub] ++ toBytes 4 r.ordinal.toNat
      ++ [indexOrFF r.argument]

/-- R21: a player record's bytes. -/
def Player.bytes (p : Player) : List Byte :=
  toBytes 5 p.score ++ [byte p.locksLit, p.completed, byte (flag p.sweepQualified)]

/-- R21: a membership entry's bytes. -/
def Member.bytes (m : Member) : List Byte :=
  byte m.state.code :: toBytes 2 m.lastHeard.toNat ++ [m.declared, rolesByte m.trough m.start]
    ++ toBytes 2 (m.digest.getD 0#16).toNat

/-- R21: an instance's bytes. -/
def ModeEntry.bytes (e : ModeEntry) : List Byte :=
  [byte e.mode.val, byte (playerNumber e.player), byte e.state.code] ++ toBytes 2 e.remaining ++ [byte e.progress]

/-- R21: the canonical content of the game table, in its order. -/
def GameTable.canonical (t : GameTable) : List Byte :=
  byte t.phase.code :: toBytes 4 t.ordinal.toNat ++ toBytes 2 t.tick.toNat
    ++ [byte t.rollcallRemaining, byte t.playerCount, byte (playerNumber t.currentPlayer), byte t.ballNumber]
    ++ [byte t.inPlay, byte t.returning, byte t.servePending]
    ++ toBytes 2 t.saveWindow
    ++ [byte (flag t.multiball + 2 * flag t.launchSeen + 4 * flag t.tilted), byte t.nudgeCount]
    ++ toBytes 3 t.jackpot ++ [byte t.ballEndRemaining]
    ++ holdBytes t.holds ++ referenceBytes t.referenceDigest ++ refusalBytes t.refusal
    ++ t.players.toList.flatMap Player.bytes
    ++ t.members.toList.flatMap Member.bytes
    ++ t.slots.toList.flatMap (fun r => byte r.code :: r.fieldBytes)
    ++ byte t.modes.length :: t.modes.flatMap ModeEntry.bytes

/-- R21: the digest. -/
def GameTable.digest (t : GameTable) : Word16 := crc16 t.canonical

/-- R22: the ring gains an entry, losing its oldest where it is full. -/
def pushHistory (ring : List (Word32 × Word16)) (e : Word32 × Word16) : List (Word32 × Word16) :=
  if ring.length < Config.historyCapacity then ring ++ [e] else ring.drop 1 ++ [e]

/-- R22: the lookup by a 16-bit basis. -/
def lookupBasis (ring : List (Word32 × Word16)) (basis : Word16) : Option Word16 :=
  (ring.find? fun e => e.1.truncate 16 == basis).map Prod.snd

end Sys2Proof.Machine
end

