-- ==== Sys2Proof/Machine/Lamps.lean ====
section
/-! DEFINITION. Machine/Lamps.lean: the lamps' patterns and manners (R172, R173). -/

namespace Sys2Proof.Machine

/-- The patterns of R172. -/
inductive Pattern
  | on | off | slow | fast
  deriving DecidableEq, Repr

/-- R172: the level a pattern gives at a tick. -/
def Pattern.level (tick : Word16) : Pattern → Bool
  | .on => true
  | .off => false
  | .slow => tick.toNat % 8 ≤ 3
  | .fast => tick.toNat % 2 == 0

/-- ON while a condition holds. -/
def onWhile (b : Bool) : Pattern := if b then .on else .off

/-- R172: the pattern of a SLOT lamp. -/
def slotPattern : SlotRecord → Pattern
  | .opened _ => .slow
  | .held _ _ => .on
  | .releasing _ _ | .jammed _ _ | .strandedHeld _ _ | .strandedReleasing _ _ => .fast
  | .dark _ | .absent => .off

/-- R172: the pattern of a MODE lamp. -/
def modePattern (t : GameTable) (m : ModeId) : Pattern :=
  match t.modes.find? (fun e => e.mode == m && e.player == t.currentPlayer && e.state != .suspended) with
  | some e =>
    match e.state with
    | .running => if 1 ≤ e.remaining ∧ e.remaining ≤ 49 then .fast else .slow
    | .paused | .suspended => .on
  | none => onWhile (t.current.completed.getLsbD m.val)

/-- R172: the pattern of a lamp's source. -/
def LampSource.pattern (t : GameTable) (faults : Byte) : LampSource → Pattern
  | .slot n => slotPattern t.slots[n]
  | .mode m => modePattern t m
  | .locksLit n => onWhile (n ≤ t.current.locksLit)
  | .multiball => onWhile t.multiball
  | .jackpot => if t.multiball then .fast else .off
  | .playerUp p => onWhile (t.phase == .play && t.currentPlayer == p)
  | .save => if 0 < t.saveWindow then .slow else .off
  | .sweep => if t.current.sweepQualified then .slow else .off
  | .fault => onWhile (faults != 0#8)
  | .none => .off

/-- R172: a lamp's level by its binding. -/
def LampBinding.level (t : GameTable) (faults : Byte) (b : LampBinding) : Bool :=
  (b.source.pattern t faults).level t.tick != b.invert

/-- R173: the manner, chosen by the station state and the replica. -/
def State.lampManner (s : State) : LampManner :=
  match s.ctl.state with
  | .loading | .unconfigured => .allOff
  | .syncing | .ready | .member | .bystander | .quiet =>
    if s.isValid && s.table.phase != .attract then .binding else .attract

/-- R173: the attract pattern's level of a lamp: the even lamps in the first half, the odd ones in the second. -/
def attractLevel (secondHalf : Bool) (n : Lamp) : Bool := (n.val % 2 == 1) == secondHalf

/-- R173: a lamp's level in a manner; a lamp bound to FAULT follows its binding in the attract pattern too. -/
def State.lampLevel (s : State) (manner : LampManner) (secondHalf : Bool) (n : Lamp) : Bool :=
  match manner with
  | .allOff => false
  | .binding => s.cfg.lamps[n].level s.table s.ctl.faults
  | .attract =>
    if s.cfg.lamps[n].source = .fault then s.cfg.lamps[n].level s.table s.ctl.faults else attractLevel secondHalf n

/-- R173: the recomputation of the lamps. The attract cycle starts at its first half whenever the attract pattern
begins. -/
def State.refreshLamps (s : State) : State :=
  let manner := s.lampManner
  let begins := manner == .attract && s.lamp.manner != .attract
  let second := if begins then false else s.lamp.secondHalf
  s.setLamp
    { levels := vtab (s.lampLevel manner second)
      manner := manner
      secondHalf := second
      halfDue := if begins then s.now + Config.attractHalf else s.lamp.halfDue }

end Sys2Proof.Machine
end

