-- ==== Sys2Proof/Machine/Claims.lean ====
section
/-! DEFINITION. Machine/Claims.lean: the Claim Unit's operations (chapter 7): the claim queue, who may build, what the Bus
Controller's reports do, the timers, slot reconciliation and the eight steps of a hand-off. -/

namespace Sys2Proof.Machine

/-! ### The queue (R126 to R129) -/

/-- The class of a claim (R126). -/
def Claim.cls (c : Claim) : FrameClass := c.payload.cls

/-- WAITING. -/
def Claim.isWaiting (c : Claim) : Bool := c.state == .waiting

/-- IN_FLIGHT. -/
def Claim.isInFlight (c : Claim) : Bool :=
  match c.state with
  | .inFlight _ => true
  | .waiting | .accepted _ => false

/-- ACCEPTED. -/
def Claim.isAccepted (c : Claim) : Bool :=
  match c.state with
  | .accepted _ => true
  | .waiting | .inFlight _ => false

/-- The number of LAUNCHED claims (R170). -/
def launchedClaims (q : List Claim) : Nat := q.countP fun c => c.payload == .launched

/-- The queue is changed; each LAUNCHED claim that leaves it lowers the launches unapplied by 1, not below 0 (R170). -/
def State.setQueue (s : State) (q : List Claim) : State :=
  (s.setClaim { s.claim with queue := q }).setDrv
    { s.drv with
      serve :=
        { s.drv.serve with
          launches := s.drv.serve.launches - (launchedClaims s.claim.queue - launchedClaims q) } }

/-- R128: a claim takes its place in the order: by class, and behind every claim of its class, being the newest. -/
def insertClaim (c : Claim) : List Claim → List Claim
  | [] => [c]
  | d :: ds => if d.cls.code ≤ c.cls.code then d :: insertClaim c ds else c :: d :: ds

/-- R129: the newest WAITING claim whose class comes after `cls`. -/
def newestDisplaceable (cls : FrameClass) (q : List Claim) : Option Claim :=
  q.foldl
    (fun best c =>
      if c.isWaiting ∧ cls.code < c.cls.code then
        match best with
        | none => some c
        | some b => if b.created < c.created then some c else some b
      else best)
    none

/-- The queue without one claim. -/
def removeClaim (c : Claim) (q : List Claim) : List Claim := q.filter fun d => d.created != c.created

/-- R129, R136: a CLAIM_LOST notice. -/
def State.claimLost (s : State) (payload : Payload) (origin : Origin) (cause : LostCause) : State :=
  s.notify (.claimLost payload.kind payload.argument origin cause)

/-- R127: a claim newly built. -/
def State.newClaim (s : State) (payload : Payload) (origin : Origin) : Claim :=
  { payload := payload, state := .waiting, attempts := 0, origin := origin, created := s.claim.serial }

/-- A claim joins the queue. -/
def State.addClaim (s : State) (payload : Payload) (origin : Origin) : State :=
  let s1 := s.setQueue (insertClaim (s.newClaim payload origin) s.claim.queue)
  s1.setClaim { s1.claim with serial := s1.claim.serial + 1 }

/-- R129: the claim would be entered and not discarded. -/
def State.hasPlaceFor (s : State) (payload : Payload) : Bool :=
  decide (s.claim.queue.length < Config.claimCapacity) || (newestDisplaceable payload.cls s.claim.queue).isSome

/-- R129: a claim is entered: at once while the queue has room, else in place of the newest less important WAITING
claim, else it is discarded. -/
def State.enterClaim (s : State) (payload : Payload) (origin : Origin) : State :=
  if s.claim.queue.length < Config.claimCapacity then s.addClaim payload origin
  else
    match newestDisplaceable payload.cls s.claim.queue with
    | some c =>
      ((s.setQueue (removeClaim c s.claim.queue)).claimLost c.payload c.origin .displaced).addClaim payload origin
    | none => s.claimLost payload origin .discarded

/-- R130: the station may build a claim of the kind. -/
def State.mayBuild (s : State) (k : FrameKind) : Bool :=
  !s.ctl.listener && !s.bus.muted && s.isValid &&
    match s.ctl.state with
    | .member => k != .join
    | .ready => k == .start || k == .join
    | .loading | .unconfigured | .syncing | .bystander | .quiet => false

/-- R130: a claim is built, as the station may build it, and entered. -/
def State.build (s : State) (payload : Payload) (origin : Origin) : State :=
  if s.mayBuild payload.kind then s.enterClaim payload origin else s

/-- The queue holds a claim whose payload has a property. -/
def State.hasClaim (s : State) (p : Payload → Bool) : Bool := s.claim.queue.any fun c => p c.payload

/-- R112, R128: the head of the queue, the first WAITING claim. -/
def State.headClaim (s : State) : Option Claim := s.claim.queue.find? Claim.isWaiting

/-- One claim takes another state. -/
def setClaimState (c : Claim) (st : ClaimState) (q : List Claim) : List Claim :=
  q.map fun d => if d.created = c.created then { d with state := st } else d

/-- The claim IN_FLIGHT. -/
def State.inFlightClaim (s : State) : Option Claim := s.claim.queue.find? Claim.isInFlight

/-! ### The Bus Controller's reports (R127, R136, R141) -/

/-- R112: the head becomes IN_FLIGHT. -/
def State.launchHead (s : State) : State :=
  match s.headClaim with
  | some c => s.setQueue (setClaimState c (.inFlight false) s.claim.queue)
  | none => s

/-- R127, R141: what a report does to the claim IN_FLIGHT: one that a flush has reached is removed whatever the report. -/
def State.reported (s : State) (f : Claim → State) : State :=
  match s.inFlightClaim with
  | none => s
  | some c => if c.state = .inFlight true then s.setQueue (removeClaim c s.claim.queue) else f c

/-- R127: ARBITRATION_LOST, LATE_LOSS or CUT: the claim is WAITING again. -/
def State.reportReturned (s : State) : State :=
  s.reported fun c => s.setQueue (setClaimState c .waiting s.claim.queue)

/-- R116, R127: ACCEPTED. -/
def State.reportAccepted (s : State) : State :=
  s.reported fun c =>
    let s1 := s.setQueue (setClaimState c (.accepted s.claim.serial) s.claim.queue)
    s1.setClaim { s1.claim with serial := s1.claim.serial + 1 }

/-- R136: VETOED. -/
def State.reportVetoed (s : State) : State :=
  s.reported fun c =>
    if c.attempts + 1 < Config.attemptLimit then
      s.setQueue (s.claim.queue.map fun d =>
        if d.created = c.created then { d with state := .waiting, attempts := d.attempts + 1 } else d)
    else (s.setQueue (removeClaim c s.claim.queue)).claimLost c.payload c.origin .vetoed

/-- R130: every WAITING claim is discarded, with no notice. -/
def State.discardWaiting (s : State) : State := s.setQueue (s.claim.queue.filter fun c => !c.isWaiting)

/-- R141: a flush: the WAITING claims go, and the claim IN_FLIGHT is marked to go at its frame's end. -/
def State.flushClaims (s : State) : State :=
  s.setQueue ((s.claim.queue.filter fun c => !c.isWaiting).map fun c =>
    if c.isInFlight then { c with state := .inFlight true } else c)

/-- R141: at a loss of validity every ACCEPTED claim is removed. -/
def State.removeAccepted (s : State) : State := s.setQueue (s.claim.queue.filter fun c => !c.isAccepted)

/-! ### Timers (R134, R135) -/

/-- R134: the tick timer's running condition. -/
def State.tickTimerRuns (s : State) : Bool :=
  (s.ctl.state == .ready || s.ctl.state == .member) && !s.ctl.listener && !s.bus.muted && s.isValid
    && s.table.phase != .attract

/-- The tick timer takes a value. -/
def State.setTickTimer (s : State) (t : TickTimer) : State := s.setClaim { s.claim with tickTimer := t }

/-- R134: the timer with a full period from now. -/
def State.fullTickTimer (s : State) : TickTimer := .running (s.now + Config.tickPeriod s.ctl.station)

/-- R134: the running condition is judged. -/
def State.judgeTickTimer (s : State) : State :=
  if s.tickTimerRuns then if s.claim.tickTimer = .stopped then s.setTickTimer s.fullTickTimer else s
  else s.setTickTimer .stopped

/-- R134: the timer restarts at the hand-off of an applied TICK, while its condition holds. -/
def State.restartTickTimer (s : State) : State :=
  if s.tickTimerRuns then s.setTickTimer s.fullTickTimer else s.setTickTimer .stopped

/-- The presence count takes a value. -/
def State.setPresence (s : State) (n : Nat) : State := s.setClaim { s.claim with presence := n }

/-- A TICK payload. -/
def Payload.isTick : Payload → Bool
  | .tick _ => true
  | _ => false

/-- A PRESENCE payload. -/
def Payload.isPresence : Payload → Bool
  | .presence _ _ _ => true
  | _ => false

/-- R134: an EXPIRED timer's TICK can be built. -/
def State.tickClaimReady (s : State) : Bool :=
  s.claim.tickTimer == .expired && s.ctl.state == .member && !s.hasClaim Payload.isTick
    && decide (s.claim.queue.length < Config.claimCapacity)

/-- R134: an EXPIRED timer builds its TICK, at a moment that allows it. -/
def State.buildTick (s : State) : State :=
  if s.tickClaimReady then s.build (.tick (s.table.tick + 1#16)) .timer else s

/-- R135: a presence count at 10 can build its PRESENCE. -/
def State.presenceClaimReady (s : State) : Bool :=
  s.claim.presence == Config.presenceMax && s.ctl.state == .member && !s.hasClaim Payload.isPresence
    && decide (s.claim.queue.length < Config.claimCapacity)

/-- R135: a presence count at 10 builds its PRESENCE, at a moment that allows it. -/
def State.buildPresence (s : State) : State :=
  match s.eng.history.getLast? with
  | some e =>
    if s.presenceClaimReady then s.build (.presence (e.1.truncate 16) e.2 s.ctl.faults) .timer else s
  | none => s

/-! ### Reconciliation (R139, R140) -/

/-- A reject latch takes a value. -/
def State.setLatch (s : State) (n : Slot) (b : Bool) : State :=
  s.setClaim { s.claim with reject := vmap (fun k x => if k = n then b else x) s.claim.reject }

/-- R140: a BOUNCE of the slot is requested from the Driver Unit. -/
def State.requestBounce (s : State) (n : Slot) : State :=
  s.setDrv { s.drv with bounce := vmap (fun k x => if k = n then true else x) s.drv.bounce }

/-- R138: a WAITING LOCK of the slot is withdrawn. -/
def State.withdrawLock (s : State) (n : Slot) : State :=
  s.setQueue (s.claim.queue.filter fun c => !(c.isWaiting && c.payload.isLockOf n))

/-- R139: the row for a PRESENT channel. -/
def State.reconcilePresent (s : State) (n : Slot) : State :=
  if s.table.slots[n].isLightable then
    if s.claim.reject[n] then s.requestBounce n
    else if s.hasClaim (Payload.isLockOf n) then s
    else s.build (.lock n) (.slot n)
  else s

/-- R139: the rows for an ABSENT channel. Each clears the latch. -/
def State.reconcileAbsent (s : State) (n : Slot) : State :=
  let s1 :=
    if s.table.slots[n].isLightable then s.withdrawLock n
    else if s.table.slots[n].isHeld ∧ s.hasClaim (Payload.isLostOf n) = false then s.build (.lost n) (.slot n)
    else if s.table.slots[n].isLeaving ∧ s.hasClaim (Payload.isReleasedOf n) = false then
      s.build (.released n) (.slot n)
    else s
  s1.setLatch n false

/-- R139: the slot is owned by this station in a VALID replica, and the station is MEMBER. -/
def State.reconciles (s : State) (n : Slot) : Bool :=
  s.ctl.state == .member && s.isValid && s.table.slots[n].owner == some s.ctl.station

/-- R139: reconciliation of one slot. -/
def State.reconcile (s : State) (n : Slot) : State :=
  if s.reconciles n then
    match s.boundState n with
    | some .present => s.reconcilePresent n
    | some .absent => s.reconcileAbsent n
    | some .unknown | some .fault | none => s
  else s

/-- R160: the Claim Unit's part of a delivery for a bound slot. -/
def State.claimDelivery (s : State) (n : Slot) (st : ChannelState) : State :=
  (if st = .absent then s.setLatch n false else s).reconcile n

/-- R140, R168: the Driver Unit's request for a JAMMED claim. -/
def State.requestJammed (s : State) (n : Slot) : State :=
  if s.hasClaim (Payload.isJammedOf n) then s else s.build (.jammed n) (.driver n)

/-! ### The hand-off (R137) -/

/-- The ACCEPTED claim that was accepted first. -/
def oldestAccepted (q : List Claim) : Option Claim :=
  q.foldl
    (fun best c =>
      match c.state with
      | .accepted n =>
        match best with
        | none => some c
        | some b =>
          match b.state with
          | .accepted m => if n < m then some c else some b
          | .waiting | .inFlight _ => some c
      | .waiting | .inFlight _ => best)
    none

/-- R140: a LOCK claim's refusal sets the latch of its slot. -/
def State.latchRefused (s : State) (payload : Payload) (outcome : AppOutcome) : State :=
  match payload, outcome with
  | .lock n, .refused _ => s.setLatch n true
  | _, _ => s

/-- R137, steps 1 and 2. -/
def State.takeOwnClaim (s : State) (f : Frame) (outcome : AppOutcome) : State :=
  if f.sender = s.ctl.station then
    match oldestAccepted s.claim.queue with
    | some c => (s.setQueue (removeClaim c s.claim.queue)).latchRefused c.payload outcome
    | none => s
  else s

/-- R137, step 3: a TICK claim that the applied number makes stale. -/
def staleTick (applied : Word16) (c : Claim) : Bool :=
  match c.payload with
  | .tick number => c.isWaiting && decide ((applied - number).toNat < 32768)
  | _ => false

/-- R137, steps 3 and 4. -/
def State.ticksAfter (s : State) (f : Frame) (outcome : AppOutcome) : State :=
  match f.payload, outcome with
  | .tick number, .applied =>
    (s.setQueue (s.claim.queue.filter fun c => !staleTick number c)).restartTickTimer
  | _, _ => s.judgeTickTimer

/-- R135: the presence count at a hand-off. -/
def State.presenceAfter (s : State) (f : Frame) (outcome : AppOutcome) : State :=
  if s.ctl.state = .member then
    if f.sender = s.ctl.station then s.setPresence 0
    else if f.payload.isTick ∧ outcome = .applied then s.setPresence (min Config.presenceMax (s.claim.presence + 1))
    else s
  else s

/-- R133: the JOIN of this station. -/
def State.joinPayload (s : State) : Payload :=
  .join s.ctl.profileDigest s.cfg.declaredMask s.occupiedMask (rolesByte s.cfg.trough s.cfg.start)

/-- R137: the Claim Unit at a hand-off, its steps in order; `began` says that the frame was a START that began a game. -/
def State.claimHandOff (s : State) (f : Frame) (outcome : AppOutcome) (began : Bool) : State :=
  let s4 := (s.takeOwnClaim f outcome).ticksAfter f outcome
  let s5 := s4.presenceAfter f outcome
  let s6 := (indices 8).foldl State.reconcile s5
  let s7 := if began then s6.build s6.joinPayload .rollcall else s6
  s7.buildTick.buildPresence

end Sys2Proof.Machine
end

