-- ==== Sys2Proof/Machine/Drivers.lean ====
section
/-! DEFINITION. Machine/Drivers.lean: the Driver Unit's operations (chapter 10): outputs, requests, the arbiter, the
duties and their derivation. -/

namespace Sys2Proof.Machine

/-! ### Records -/

/-- One output's record is changed. -/
def DriverUnit.updOutput (d : DriverUnit) (o : Output) (f : OutputRecord → OutputRecord) : DriverUnit :=
  { d with outputs := vmap (fun k r => if k = o then f r else r) d.outputs }

/-- The eject duty of a slot takes a value. -/
def DriverUnit.setEject (d : DriverUnit) (n : Slot) (x : Option EjectDuty) : DriverUnit :=
  { d with ejects := vmap (fun k y => if k = n then x else y) d.ejects }

/-- The eject duty of a slot is changed, if there is one. -/
def DriverUnit.updEject (d : DriverUnit) (n : Slot) (f : EjectDuty → EjectDuty) : DriverUnit :=
  { d with ejects := vmap (fun k y => if k = n then y.map f else y) d.ejects }

/-- The SCOOP_KICK duty of a switch takes a value. -/
def DriverUnit.setScoop (d : DriverUnit) (n : Switch) (x : Option ScoopDuty) : DriverUnit :=
  { d with scoops := vmap (fun k y => if k = n then x else y) d.scoops }

/-- The SCOOP_KICK duty of a switch is changed, if there is one. -/
def DriverUnit.updScoop (d : DriverUnit) (n : Switch) (f : ScoopDuty → ScoopDuty) : DriverUnit :=
  { d with scoops := vmap (fun k y => if k = n then y.map f else y) d.scoops }

/-- The serve record is changed. -/
def DriverUnit.updServe (d : DriverUnit) (f : ServeRecord → ServeRecord) : DriverUnit := { d with serve := f d.serve }

/-- The Driver Unit is changed. -/
def State.updDrv (s : State) (f : DriverUnit → DriverUnit) : State := s.setDrv (f s.drv)

/-- R162: DRVn is on while output n is in PULSE and off in every other state. -/
def DriverUnit.drvPin (d : DriverUnit) (o : Output) : Bool := d.outputs[o].state == .pulse

/-- A request for the output waits (R164). -/
def DriverUnit.requested (d : DriverUnit) (o : Output) : Bool := d.requests.any fun r => r.output == o

/-- A request of the duty waits (R164). -/
def DriverUnit.hasRequest (d : DriverUnit) (id : DutyId) : Bool := d.requests.any fun r => r.duty == id

/-- An attempt of the duty is open (R167, R170). -/
def DriverUnit.hasOpenAttempt (d : DriverUnit) (id : DutyId) : Bool :=
  d.outputs.toList.any fun r => r.attemptOpen && r.duty == some id

/-- R162: a pulse of the output for the duty is verified. -/
def StationConfig.verifies (c : StationConfig) (o : Output) : DutyId → Bool
  | .eject _ => c.outputs[o].role == .eject
  | .serve => c.outputs[o].role == .serve
  | .scoop _ => false

/-- R166: the lowest-numbered output whose role is SERVE and which is not disabled. -/
def StationConfig.serveOutput (c : StationConfig) : Option Output :=
  (indices 8).find? fun o => c.outputs[o].role == .serve && !c.outputs[o].disabled

/-- The eject driver of a slot. -/
def StationConfig.ejectOutput (c : StationConfig) (n : Slot) : Option Output := (c.boundTo n).map Prod.snd

/-! ### The request queue and the pulse budget (R164, R165) -/

/-- R164, R177: a request for the output can be entered. -/
def DriverUnit.canRequest (d : DriverUnit) (c : StationConfig) (o : Output) : Bool :=
  !c.outputs[o].disabled && !d.requested o && d.outputs[o].state != .pulse && d.outputs[o].state != .verify

/-- R163, R164: a request is entered; an IDLE output becomes QUEUED. -/
def DriverUnit.enterRequest (d : DriverUnit) (o : Output) (id : DutyId) : DriverUnit :=
  { (d.updOutput o fun r => if r.state = .idle then { r with state := .queued } else r) with
    requests := d.requests ++ [{ output := o, duty := id }] }

/-- R169: the duty's request leaves the queue, and its output returns to IDLE. -/
def DriverUnit.dropRequest (d : DriverUnit) (id : DutyId) : DriverUnit :=
  { d with
    requests := d.requests.filter fun r => r.duty != id
    outputs := vmap
      (fun o r =>
        if r.state = .queued ∧ (d.requests.any fun q => q.output == o && q.duty == id) then
          { r with state := .idle }
        else r)
      d.outputs }

/-- The other output of a pair (R165). -/
def pairOf (o : Output) : Output := if o.val % 2 = 0 then o + 1 else o - 1

/-- The number of outputs in PULSE (R165). -/
def DriverUnit.pulsing (d : DriverUnit) : Nat := d.outputs.toList.countP fun r => r.state == .pulse

/-- R165: the three conditions of a grant. -/
def DriverUnit.grantable (d : DriverUnit) (c : StationConfig) (o : Output) : Bool :=
  d.outputs[o].state == .queued && decide (d.pulsing < c.concurrency)
    && (!c.pairing || d.outputs[pairOf o].state != .pulse)

/-- R163, R167: a grant: the pulse and its attempt begin. -/
def DriverUnit.grant (d : DriverUnit) (c : StationConfig) (now : Nat) (r : Request) : DriverUnit :=
  let d1 := d.updOutput r.output fun _ =>
    { state := .pulse, duty := some r.duty, attemptOpen := true, due := now + c.outputs[r.output].pulse * Config.ms }
  match r.duty with
  | .scoop sw => d1.updScoop sw fun x => { x with pulses := x.pulses + 1 }
  | .eject _ | .serve => d1

/-- R165: the arbiter's walk, from the oldest request to the newest, over the requests still to reach; `kept` are those
it has passed over. -/
def DriverUnit.walk (c : StationConfig) (now : Nat) : List Request → List Request → DriverUnit → DriverUnit
  | kept, [], d => { d with requests := kept }
  | kept, r :: rest, d =>
    if d.grantable c r.output then DriverUnit.walk c now kept rest (d.grant c now r)
    else DriverUnit.walk c now (kept ++ [r]) rest d

/-- R165: the arbiter. -/
def State.arbiter (s : State) : State := s.setDrv (DriverUnit.walk s.cfg s.now [] s.drv.requests s.drv)

/-! ### Recycling (R163) -/

/-- R171: what the end of its output's recycle makes of a SCOOP_KICK that waited for it. -/
def scoopAfterRecycle (level : Level) (x : ScoopDuty) : Option ScoopDuty :=
  if level = .closed ∧ x.pulses < 3 then some { x with await := false, want := true } else none

/-- R167: what the end of its output's recycle makes of an eject duty that waited for it. -/
def ejectAfterRecycle (x : EjectDuty) : EjectDuty :=
  { x with
    await := .no
    want := x.want || (x.await == .afterUnverified && x.phase == .retrying) }

/-- R163: the output leaves RECYCLE: QUEUED if a request for it waits, IDLE otherwise. The duties that waited for it go
on. -/
def State.leaveRecycle (s : State) (o : Output) : State :=
  s.updDrv fun d =>
    let d1 := d.updOutput o fun _ =>
      { state := if d.requested o then .queued else .idle, duty := none, attemptOpen := false, due := s.now }
    { d1 with
      ejects := vmap
        (fun n x => if s.cfg.ejectOutput n = some o then x.map ejectAfterRecycle else x) d1.ejects
      scoops := vmap
        (fun n x =>
          match x with
          | some y => if y.driver = o ∧ y.await then scoopAfterRecycle s.sw.levels[n] y else some y
          | none => none)
        d1.scoops
      serve :=
        if s.cfg.serveOutput = some o then { d1.serve with await := false } else d1.serve }

/-- R163: the output enters RECYCLE; a recycle of 0 passes straight on. -/
def State.enterRecycle (s : State) (o : Output) : State :=
  if s.cfg.outputs[o].recycle = 0 then s.leaveRecycle o
  else
    s.updDrv fun d => d.updOutput o fun _ =>
      { state := .recycle, duty := none, attemptOpen := false, due := s.now + s.cfg.outputs[o].recycle * Config.ms }

/-- R163: the attempt of the output's pulse closes: in VERIFY the output enters RECYCLE, in PULSE the pulse runs on. -/
def State.closeAttempt (s : State) (o : Output) : State :=
  if s.drv.outputs[o].state = .verify then s.enterRecycle o
  else s.updDrv fun d => d.updOutput o fun r => { r with attemptOpen := false }

/-- R169: the duty has ended: its request, its pulse's attempt and its verification end with it. -/
def State.endDuty (s : State) (id : DutyId) : State :=
  (indices 8).foldl
    (fun s o =>
      if s.drv.outputs[o].attemptOpen ∧ s.drv.outputs[o].duty = some id then s.closeAttempt o else s)
    (s.updDrv fun d => d.dropRequest id)

/-! ### Results of ejects and serves (R167, R168, R170) -/

/-- R168: a failure that leaves the count of a RELEASE duty at 3 asks for a JAMMED, while the slot is RELEASING. -/
def State.jammedAfter (s : State) (n : Slot) : State :=
  match s.drv.ejects[n] with
  | some x =>
    if x.kind = .release ∧ x.count = 3 ∧ s.table.slots[n].isReleasing then s.requestJammed n else s
  | none => s

/-- R167, R168: one failed eject; `await` is what the duty then waits for while its count is below 3. -/
def EjectDuty.failed (x : EjectDuty) (now : Nat) (await : Await) (retry : Option Nat) : EjectDuty :=
  if x.count + 1 < 3 then { x with count := x.count + 1, await := await, retryDue := retry }
  else { x with count := 3, phase := .retrying, await := .no, want := false, retryDue := some (now + Config.retryTime) }

/-- R167, R168: an attempt of the slot's eject duty has failed. -/
def State.failEject (s : State) (n : Slot) : State :=
  (s.updDrv fun d => d.updEject n fun x => x.failed s.now .afterFailure none).jammedAfter n

/-- R167, R168: an attempt of the slot's eject duty has succeeded. -/
def State.succeedEject (s : State) (n : Slot) : State :=
  s.updDrv fun d => d.updEject n fun x =>
    { x with count := 0, phase := .attempting, retryDue := none, want := false, await := .no }

/-- R170: a serve has failed. -/
def State.failServe (s : State) : State :=
  if s.drv.serve.failed + 1 < 3 then
    s.updDrv fun d => d.updServe fun v => { v with failed := v.failed + 1, await := true }
  else
    (s.updDrv fun d => d.updServe fun v =>
      { v with failed := 3, retryDue := some (s.now + Config.retryTime) }).setFault .drive

/-! ### Derivation (R166) -/

/-- R166: the eject duty that holds for a slot, if one does. -/
def State.ejectHolds (s : State) (n : Slot) : Option EjectKind :=
  match s.boundState n with
  | none => none
  | some st =>
    if s.isValid ∧ s.table.slots[n].owner = some s.ctl.station ∧ s.table.slots[n].isLeaving then some .release
    else if s.isValid ∧ s.drv.bounce[n] ∧ s.claim.reject[n] ∧ st = .present ∧ s.table.slots[n].isLightable then
      some .bounce
    else if s.isValid ∧ s.table.phase = .attract ∧ st = .present then some .clear
    else none

/-- R167: an eject duty newly created. -/
def EjectDuty.fresh (k : EjectKind) : EjectDuty :=
  { kind := k, count := 0, phase := .attempting, retryDue := none, want := false, await := .no }

/-- R166: a BOUNCE request that stands no longer is forgotten, and stands again only when the Claim Unit makes it anew (log
entry 45). -/
def State.settleBounce (s : State) (n : Slot) : State :=
  if s.ejectHolds n = some .bounce then s
  else s.updDrv fun d => { d with bounce := vmap (fun k x => if k = n then false else x) d.bounce }

/-- R166, R169: the eject duty of a slot is created or ended as its condition has come or ceased to hold. -/
def State.settleEject (s : State) (n : Slot) : State :=
  let s0 := s.settleBounce n
  if (s.drv.ejects[n].map EjectDuty.kind) = s.ejectHolds n then s0
  else
    let s1 := if s.drv.ejects[n].isSome then s0.endDuty (.eject n) else s0
    s1.updDrv fun d => d.setEject n ((s.ejectHolds n).map EjectDuty.fresh)

/-- R167: the retry timer of a RELEASE duty that can neither be fired nor verified runs. -/
def State.cannotEject (s : State) (n : Slot) (x : EjectDuty) (o : Output) : Bool :=
  x.kind == .release && !s.drv.hasRequest (.eject n) && !s.drv.hasOpenAttempt (.eject n)
    && (s.boundState n == some .unknown || s.boundState n == some .fault || s.cfg.outputs[o].disabled)

/-- R167, R168: a duty whose channel is not PRESENT takes back its request, and its timers are kept as R167 gives. A pulse
that a duty in RETRYING wants and has not been able to ask for is given up like a waiting request, and the retry timer
restarts (log entry 47). -/
def State.tendEject (s : State) (n : Slot) : State :=
  match s.drv.ejects[n], s.cfg.ejectOutput n with
  | some x, some o =>
    let lost := s.boundState n != some .present && (s.drv.hasRequest (.eject n) || x.want)
    let s1 := if s.boundState n = some .present then s else s.updDrv fun d => d.dropRequest (.eject n)
    match x.phase with
    | .attempting =>
      s1.updDrv fun d => d.updEject n fun y =>
        { y with
          retryDue := if s1.cannotEject n x o then some (y.retryDue.getD (s.now + Config.retryTime)) else none }
    | .retrying =>
      if lost then
        s1.updDrv fun d => d.updEject n fun y =>
          { y with want := false, retryDue := some (s.now + Config.retryTime) }
      else s1
  | _, _ => s

/-- R167, R168: an eject duty asks for its output while it wants a pulse. -/
def State.askEject (s : State) (n : Slot) : State :=
  match s.drv.ejects[n], s.cfg.ejectOutput n with
  | some x, some o =>
    let wants : Bool :=
      match x.phase with
      | .attempting => decide (x.count < 3) && x.await == .no
      | .retrying => x.want
    if wants ∧ s.boundState n = some .present ∧ s.drv.hasRequest (.eject n) = false
        ∧ s.drv.hasOpenAttempt (.eject n) = false ∧ s.drv.canRequest s.cfg o then
      s.updDrv fun d => (d.enterRequest o (.eject n)).updEject n fun y => { y with want := false }
    else s
  | _, _ => s

/-- R166: the SERVE duty holds. -/
def State.serveHolds (s : State) : Bool :=
  s.isValid && s.table.isTrough s.ctl.station && decide (0 < s.table.servePending)

/-- R166, R169, R170: the SERVE duty is created or ended; the launches unapplied are 0 while the station is not the
trough member of a VALID replica; DRIVE holds for as long as the duty holds without a usable output. -/
def State.settleServe (s : State) : State :=
  let s1 :=
    if s.isValid && s.table.isTrough s.ctl.station then s
    else s.updDrv fun d => d.updServe fun v => { v with launches := 0 }
  if s.serveHolds then
    let s2 := s1.updDrv fun d => d.updServe fun v => { v with holds := true }
    if s.cfg.serveOutput = none then s2.setFault .drive else s2
  else if s.drv.serve.holds then
    let s2 := (s1.endDuty .serve).updDrv fun d => d.updServe fun v =>
      { v with holds := false, failed := 0, retryDue := none, retryReady := false, await := false }
    if s.cfg.serveOutput = none then s2.clearFault .drive else s2
  else s1

/-- R170: the SERVE duty asks for its output while it wants a pulse. -/
def State.askServe (s : State) : State :=
  match s.cfg.serveOutput with
  | none => s
  | some o =>
    let v := s.drv.serve
    if v.holds ∧ v.launches < s.table.servePending ∧ v.await = false ∧ (v.failed < 3 ∨ v.retryReady)
        ∧ s.drv.hasRequest .serve = false ∧ s.drv.hasOpenAttempt .serve = false ∧ s.drv.canRequest s.cfg o then
      s.updDrv fun d => (d.enterRequest o .serve).updServe fun v => { v with retryReady := false }
    else s

/-- R171: a SCOOP_KICK whose dwell has ended, or whose output has recycled, asks for its driver. -/
def State.askScoop (s : State) (n : Switch) : State :=
  match s.drv.scoops[n] with
  | some x =>
    if x.want ∧ s.drv.canRequest s.cfg x.driver then
      s.updDrv fun d => (d.enterRequest x.driver (.scoop n)).updScoop n fun y => { y with want := false }
    else s
  | none => s

/-- R166: one derivation: duties are created and ended, then requests are entered, the eject duties by ascending slot,
then SERVE, then the scoops (log entries 10 and 46), by ascending switch; then the arbiter runs (R165). -/
def State.deriveDuties (s : State) : State :=
  let s1 := ((indices 8).foldl State.settleEject s).settleServe
  let s2 := (indices 8).foldl State.tendEject s1
  let s3 := ((indices 8).foldl State.askEject s2).askServe
  ((indices 32).foldl State.askScoop s3).arbiter

/-! ### Hand-ons and deliveries -/

/-- R171: a SCOOP_KICK duty as a hand-on creates it. -/
def ScoopDuty.dwelling (driver : Output) (due : Nat) : ScoopDuty :=
  { driver := driver, dwellDue := some due, want := false, await := false, pulses := 0 }

/-- R171: a scoop hand-on on the rule's edge. -/
def State.scoopHandOn (s : State) (n : Switch) (driver : Output) (dwell : Nat) : State :=
  ((s.endDuty (.scoop n)).updDrv fun d =>
    d.setScoop n (some (ScoopDuty.dwelling driver (s.now + dwell * Config.ms)))).deriveDuties

/-- R171: the scoop has emptied. -/
def State.scoopEmptied (s : State) (n : Switch) : State :=
  ((s.endDuty (.scoop n)).updDrv fun d => d.setScoop n none).deriveDuties

/-- R171: a SCOOP_KICK that a tilt or a game over cancels: its dwell runs, or its request waits or has still to be
entered. -/
def State.scoopCancels (s : State) (n : Switch) : Bool :=
  match s.drv.scoops[n] with
  | some x => x.dwellDue.isSome || x.want || s.drv.hasRequest (.scoop n)
  | none => false

/-- R171: one SCOOP_KICK is cancelled, and created anew with no dwell if its switch is CLOSED. -/
def State.cancelScoop (s : State) (n : Switch) : State :=
  match s.drv.scoops[n] with
  | some x =>
    if s.scoopCancels n then
      (s.endDuty (.scoop n)).updDrv fun d =>
        d.setScoop n
          (if s.sw.levels[n] = .closed then
            some { driver := x.driver, dwellDue := none, want := true, await := false, pulses := 0 }
          else none)
    else s
  | none => s

/-- R171: the SCOOP_KICKs are cancelled by a tilt or a game over. -/
def State.cancelScoops (s : State) : State := (indices 32).foldl State.cancelScoop s

/-- R170: an open serve attempt closes with success at a launch-confirm hand-on. -/
def State.confirmServe (s : State) : State :=
  (indices 8).foldl
    (fun s o =>
      if s.drv.outputs[o].attemptOpen ∧ s.drv.outputs[o].duty = some .serve then s.closeAttempt o else s)
    s

/-- R170: a launch-confirm hand-on; `entered` says that the Claim Unit has entered a LAUNCHED for it. -/
def State.launchHandOn (s : State) (entered : Bool) : State :=
  let s1 := (s.updDrv fun d => d.updServe fun v =>
    { v with
      launches := if entered then min 8 (v.launches + 1) else v.launches
      failed := 0, retryDue := none, retryReady := false }).confirmServe
  let s2 := if s.serveHolds ∧ s.cfg.serveOutput = none then s1 else s1.clearFault .drive
  s2.deriveDuties

/-- R167: a delivery for a bound slot closes the verified attempts of its eject duty. -/
def State.ejectDelivery (s : State) (n : Slot) (st : ChannelState) : State :=
  (indices 8).foldl
    (fun s o =>
      if s.drv.outputs[o].attemptOpen ∧ s.drv.outputs[o].duty = some (.eject n) ∧ s.cfg.verifies o (.eject n) then
        match st with
        | .absent => (s.succeedEject n).closeAttempt o
        | .fault => (s.failEject n).closeAttempt o
        | .unknown | .present => s
      else s)
    s

/-- R160: the Driver Unit's part of a delivery: the verification of the bound slot, then the duties. -/
def State.driverDelivery (s : State) (n : Slot) (st : ChannelState) : State := (s.ejectDelivery n st).deriveDuties

end Sys2Proof.Machine
end

