-- ==== Sys2Proof/Machine/Control.lean ====
section
/-! DEFINITION. Machine/Control.lean: Station Control's moves among the station states (section 11.4, R179), the sync silence
timer that goes with SYNCING (R2), and the loss of validity (R3). -/

namespace Sys2Proof.Machine

/-! ### The sync silence timer (R2) -/

/-- The Table Engine is changed. -/
def State.updEng (s : State) (f : Engine → Engine) : State := s.setEng (f s.eng)

/-- R2: the timer started or restarted: held at 0 while the STUCK condition is set (log entry 29). -/
def State.freshSync (s : State) : SyncTimer := if s.bus.stuck then .held 0 else .running s.now

/-- R2: the timer starts or restarts at 3,000 ms. -/
def State.startSync (s : State) : State := s.updEng fun e => { e with sync := s.freshSync }

/-- R2: the timer stops. -/
def State.stopSync (s : State) : State := s.updEng fun e => { e with sync := .stopped }

/-- R2: a TICK placed in the inbound queue restarts the timer while it runs. -/
def State.restartSync (s : State) : State := if s.eng.sync = .stopped then s else s.startSync

/-! ### Station states -/

/-- R134, R135, R141, R2: what goes with a move of the station state: leaving MEMBER flushes the claims, the presence
count is 0 on entering and leaving MEMBER, the sync silence timer runs in SYNCING alone, and the tick timer's running
condition is judged. -/
def State.moveStation (s : State) (st : StationState) : State :=
  if s.ctl.state = st then s
  else
    let s1 := if s.ctl.state = .member then s.flushClaims.setPresence 0 else s
    let s2 := if st = .member then s1.setPresence 0 else s1
    let s3 := s2.setCtl { s2.ctl with state := st }
    let s4 := if st = .syncing then s3.startSync else if s.ctl.state = .syncing then s3.stopSync else s3
    s4.judgeTickTimer

/-- R179, last line: a change of station state is reported to the Lamp Unit and the Driver Unit. -/
def State.changeStation (s : State) (st : StationState) : State :=
  if s.ctl.state = st then s else ((s.moveStation st).deriveDuties).refreshLamps

/-- R179: what the station's state becomes at a hand-off. -/
def State.stateAfter (s : State) : StationState :=
  let own := s.table.members[s.ctl.station].state
  let barred := s.ctl.listener || s.bus.muted
  match s.ctl.state with
  | .member =>
    if s.table.phase = .attract then .ready
    else if own = .silent ∨ own = .mismatched then .bystander
    else .member
  | .bystander => if s.table.phase = .attract then .ready else .bystander
  | .ready =>
    if s.table.phase = .attract then .ready
    else if barred then .bystander
    else if own = .member then .member
    else if s.table.phase = .rollcall then .ready
    else .bystander
  | .loading => .loading
  | .unconfigured => .unconfigured
  | .syncing => .syncing
  | .quiet => .quiet

/-- R1, R180: the replica has become VALID: DIVERGED is cleared and the station moves from SYNCING to READY. -/
def State.validated (s : State) : State :=
  let s1 := (s.updEng fun e => { e with replica := .valid }).clearFault .diverged
  if s1.ctl.state = .syncing then s1.moveStation .ready else s1

/-! ### Loss of validity (R3) -/

/-- R3, R141: the replica becomes UNKNOWN: the inbound queue and the history ring are emptied, the tally is 0, and the
claims are flushed, the ACCEPTED ones included. The table keeps its content. -/
def State.invalidate (s : State) : State :=
  let s1 := s.updEng fun e => { e with replica := .unknown, history := [], tally := 0, loss := none }
  let s2 := s1.setBus { s1.bus with inbound := [] }
  s2.flushClaims.removeAccepted.judgeTickTimer

/-- R3: a loss of validity is taken: the replica becomes UNKNOWN and the station is in SYNCING, unless QUIET, whose cause
may be waiting, holds it (R122). -/
def State.performLoss (s : State) : State :=
  let s1 := s.invalidate
  ((if s1.ctl.state = .quiet then s1 else s1.moveStation .syncing).deriveDuties).refreshLamps

/-- R3: a cause has arrived: the loss is taken at once, or waits for the application in flight. -/
def State.causeLoss (s : State) (c : LossCause) : State :=
  if s.eng.inFlight.isSome then s.updEng fun e => { e with loss := some c } else s.performLoss

end Sys2Proof.Machine
end

