-- ==== Sys2Proof/Machine/Engine.lean ====
section
/-! DEFINITION. Machine/Engine.lean: one application of a frame, whole (R14 to R18): the validity gate and the sync start
(R4), the stages, the digest comparison (R23, R24), the hand-off, and a loss of validity that waited (R3). -/

namespace Sys2Proof.Machine

/-! ### Stages 2 to 6 on the table -/

/-- R9: the sender is heard. -/
def GameTable.heard (t : GameTable) (k : Station) : GameTable :=
  { t with members := vmap (fun j m => if j = k then { m with lastHeard := t.tick } else m) t.members }

/-- R15, stage 2: the work of an application begins with the sender heard. -/
def Work.begin (t : GameTable) (f : Frame) : Work := { table := t.heard f.sender, notices := [] }

/-- R15, stage 5. -/
def Work.countOrdinal (w : Work) : Work := w.upd fun t => { t with ordinal := t.ordinal + 1#32 }

/-- R15, stages 2 to 5: the table and the notices that an application leaves, and its outcome. -/
def applyFrame (own : Station) (sync : Bool) (f : Frame) (t : GameTable) : Work × AppOutcome :=
  let r := kindStage own sync f (Work.begin t f)
  ((r.1.recompute.noteBalls t).countOrdinal, r.2)

/-- R29: the frame begins a game. -/
def beginsGame (sync : Bool) (f : Frame) (t : GameTable) : Bool :=
  f.payload == .start && (sync || t.phase == .attract)

/-! ### The digest comparison (R23) -/

/-- R23: the threshold. -/
def GameTable.divergenceThreshold (t : GameTable) : Nat :=
  if t.members.toList.countP (fun m => m.state == .member) = 2 then 1 else 2

/-- R23: what a PRESENCE compared under a VALID replica says: none for no comparison or no entry, else whether the
digests are equal. -/
def State.comparison (s : State) (f : Frame) : Option Bool :=
  match f.payload with
  | .presence basis digest _ =>
    if s.isValid ∧ f.sender ≠ s.ctl.station then (lookupBasis s.eng.history basis).map (· == digest) else none
  | _ => none

/-- R23: the tally after the comparison. -/
def State.tallyAfter (s : State) (f : Frame) : Nat :=
  match s.comparison f with
  | none => s.eng.tally
  | some true => 0
  | some false => min 2 (s.eng.tally + 1)

/-- R23: the comparison brings the tally to its threshold. -/
def State.diverges (s : State) (f : Frame) : Bool :=
  s.comparison f == some false && decide (s.table.divergenceThreshold ≤ s.tallyAfter f)

/-! ### The validity gate (R4) -/

/-- R4: the frame is applied as a sync start. -/
def State.syncStart (s : State) (f : Frame) : Bool :=
  !s.isValid && f.payload == .start && s.ctl.state == .syncing
    && match s.syncCounted with
       | some n => decide (Config.syncStartMinimum ≤ n)
       | none => false

/-- R4, R15, stage 1: the frame is applied and not discarded. -/
def State.admits (s : State) (f : Frame) : Bool := s.isValid || s.syncStart f

/-! ### The hand-off (R18) -/

/-- R171: the application has set the tilted flag, or ended the game. -/
def endsHolding (before after : GameTable) : Bool :=
  (!before.tilted && after.tilted) || (before.phase != .attract && after.phase == .attract)

/-- R18: the neighbouring blocks act on the hand-off: Station Control, the Claim Unit, the Driver Unit, the Lamp Unit (in
this order, log entry 10). -/
def State.handOff (s : State) (f : Frame) (outcome : AppOutcome) (began : Bool) (before : GameTable) : State :=
  let s1 := s.moveStation s.stateAfter
  let s2 := s1.claimHandOff f outcome began
  let s3 := if endsHolding before s.table then s2.cancelScoops else s2
  s3.deriveDuties.refreshLamps

/-! ### The application -/

/-- R22: the ring after stage 6. -/
def State.historyAfter (s : State) (sync : Bool) (f : Frame) (t : GameTable) : List (Word32 × Word16) :=
  pushHistory (if beginsGame sync f s.table then [] else s.eng.history) (t.ordinal, t.digest)

/-- R15, stages 2 to 6: the table, the ring and the tally that the application leaves. -/
def State.afterStages (s : State) (f : Frame) : State :=
  let sync := s.syncStart f
  let t := (applyFrame s.ctl.station sync f s.table).1.table
  (s.setTable t).updEng fun e =>
    { e with history := s.historyAfter sync f t, tally := s.tallyAfter f }

/-- R15, R18: the application through its hand-off: the Table Engine's notices first, then a sync start's validity (R1),
then the blocks. -/
def State.completed (s : State) (f : Frame) : State :=
  let sync := s.syncStart f
  let r := applyFrame s.ctl.station sync f s.table
  let s1 := (s.afterStages f).notifyAll r.1.notices
  let s2 := if sync then s1.validated else s1
  s2.handOff f r.2 (beginsGame sync f s.table) s.table

/-- R3, R24: a loss of validity that DIVERGED has caused, or that waited for the application, is taken. -/
def State.takeLoss (s : State) (diverged : Bool) : State :=
  if diverged then (s.setFault .diverged).performLoss
  else if s.eng.loss.isSome then s.performLoss
  else s

/-- R4, R15: a frame taken from the inbound queue is applied, or discarded. -/
def State.application (s : State) (f : Frame) : State :=
  if s.admits f then (s.completed f).takeLoss (s.diverges f) else s

/-! ### Taking a frame (R14) -/

/-- R14: the frame that the next application is of: the one in flight, else the oldest of the inbound queue. -/
def State.nextFrame (s : State) : Option Frame :=
  match s.eng.inFlight with
  | some f => some f
  | none => s.bus.inbound.head?

/-- R14: that frame has left the queue. -/
def State.taken (s : State) : State :=
  match s.eng.inFlight with
  | some _ => s.updEng fun e => { e with inFlight := none }
  | none => s.setBus { s.bus with inbound := s.bus.inbound.drop 1 }

/-- A command that is the application of a frame: it happens where the next frame is of its sort, and has no effect
otherwise (log entries 3 and 5). -/
def State.applyNext (s : State) (sort : Frame → Bool) : State :=
  match s.nextFrame with
  | some f => if sort f then s.taken.application f else s
  | none => s

end Sys2Proof.Machine
end

