-- ==== Sys2Proof/Machine/BusCommands.lean ====
section
/-! DEFINITION. Machine/BusCommands.lean: the meanings of the bus events (chapter 6): marks, contention, the end of a
frame, QUIET and STUCK. -/

namespace Sys2Proof.Machine

/-- The Bus Controller is changed. -/
def State.updBus (s : State) (f : Bus → Bus) : State := s.setBus (f s.bus)

/-! ### Free bus, contention and marks -/

/-- BUS_FREE (R110): the lines have been recessive for their time. -/
def execBusFree (s : State) : Host.Outcome State Fault Refusal :=
  if s.bus.link = .idle ∧ s.bus.busFree = false ∧ s.bus.awaitEnd = false ∧ s.bus.stuck = false then
    let s1 := s.advanceTo s.bus.freeDue
    .next (s1.updBus fun b => { b with busFree := true, freeAt := s1.now })
  else .next s

/-- YIELD_TIMEOUT (R111): the bus has been free for 16 bit times. -/
def execYieldTimeout (s : State) : Host.Outcome State Fault Refusal :=
  if s.bus.busFree ∧ s.bus.yielding then
    .next ((s.advanceTo (s.bus.freeAt + Config.sixteenBitTimes)).updBus fun b => { b with yielding := false })
  else .next s

/-- R112: contention can begin at this station. -/
def State.canContend (s : State) : Bool :=
  s.bus.link == .idle && s.bus.busFree && !s.ctl.listener && s.ctl.state != .quiet && !s.bus.muted && !s.bus.stuck
    && !s.bus.yielding && s.headClaim.isSome

/-- R109: the time from the beginning of this contention to the read-back of its last sender bit, a free value above the
least one. -/
def Bus.senderTime (b : Bus) : Nat := Config.senderFieldTime + Config.senderStretch b.contentions

/-- CONTENTION (R112): the head claim goes IN_FLIGHT and the station contends; the time at which its last sender bit is
read back is settled (R109, log entry 31). -/
def execContention (s : State) : Host.Outcome State Fault Refusal :=
  if s.canContend then
    .next (s.launchHead.updBus fun b =>
      { b with
        link := .contending, busFree := false, stray := false,
        senderPassDue := s.now + b.senderTime, contentions := b.contentions + 1 })
  else .next s

/-- START_MARK (R112): a start mark that this station neither drives nor joins. -/
def execStartMark (s : State) : Host.Outcome State Fault Refusal :=
  if s.bus.link = .idle ∧ s.bus.awaitEnd = false ∧ s.bus.stuck = false then
    .next (s.updBus fun b => { b with link := .receiving, busFree := false, stray := false })
  else .next s

/-- ARBITRATION_LOST (R113). -/
def execArbitrationLost (s : State) : Host.Outcome State Fault Refusal :=
  if s.bus.link = .contending then .next (s.reportReturned.updBus fun b => { b with link := .receiving })
  else .next s

/-- R114, R130: the mute condition is set: WAITING claims are discarded, and a MEMBER becomes BYSTANDER. The tick timer of
a station that was not MEMBER stops here too, its condition having ceased (R134, log entry 36). -/
def State.mute (s : State) : State :=
  let s1 := ((s.updBus fun b => { b with muted := true }).setFault .duplicate).discardWaiting
  let s2 := if s1.ctl.state = .member then s1.changeStation .bystander else s1.judgeTickTimer
  s2.refreshLamps

/-- LATE_LOSS (R114). -/
def execLateLoss (s : State) : Host.Outcome State Fault Refusal :=
  if s.transmitting then .next ((s.reportReturned.updBus fun b => { b with link := .receiving }).mute)
  else .next s

/-- STRAY_MARK (R117). -/
def execStrayMark (s : State) : Host.Outcome State Fault Refusal :=
  if s.inFrame then .next (s.updBus fun b => { b with stray := true }) else .next s

/-! ### Reception (R115) -/

/-- R115: the frame this station transmits, which it receives as its own. -/
def State.ownFrame (s : State) : Option Frame :=
  if s.transmitting then s.inFlightClaim.map fun c => { sender := s.ctl.station, payload := c.payload } else none

/-- R106, R107, R115: the frame that a station has read, none for a FORMAT fault. -/
def State.readFrame (s : State) (bits : List Bool) : Option Frame :=
  match s.ownFrame with
  | some f => some f
  | none => rxFrame bits

/-- R115: the CRC, FORMAT and framing checks pass. -/
def State.sound (s : State) (bits : List Bool) : Bool :=
  s.ownFrame.isSome || (rxCrcOk bits && (rxFrame bits).isSome && !s.bus.stray)

/-- R115: the overrun check fails. -/
def State.overrun (s : State) : Bool := decide (Config.inboundCapacity ≤ s.bus.inbound.length)

/-- R115: this station drives the veto slot dominant. -/
def State.drivesVeto (s : State) (bits : List Bool) : Bool := s.checksFrames && (!s.sound bits || s.overrun)

/-- R115, R116: the veto slot reads dominant. -/
def State.slotDominant (s : State) (bits : List Bool) (vetoedByOther : Bool) : Bool :=
  s.drivesVeto bits || vetoedByOther

/-- R111: the yield condition at the end of a frame, accepted or vetoed. -/
def State.yieldAfter (s : State) (bits : List Bool) : Bool :=
  if s.transmitting then true
  else if rxSender bits = s.ctl.station then s.bus.yielding
  else false

/-- R121: the score after a frame's end; `scored` says that the frame's veto was this station's for CRC, FORMAT or
framing, or its end mark was missing. -/
def State.scoreAfter (s : State) (accepted scored : Bool) : Nat :=
  if s.checksFrames then
    if scored then min Config.faultScoreMax (s.bus.score + Config.faultScoreRaise)
    else if accepted then s.bus.score - 1
    else s.bus.score
  else s.bus.score

/-- R122: the clean-run count after a frame's end. At 128, the run that ends QUIET (R123), it stays until QUIET_EXIT (log
entry 44). -/
def State.cleanRunAfter (s : State) (clean : Bool) : Nat :=
  if s.ctl.state = .quiet then if clean then min Config.cleanRunGoal (s.bus.cleanRun + 1) else 0
  else s.bus.cleanRun

/-- R116, R118: the link at a frame's end, with the score, the clean run and the yield condition. The bus can be free 2 bit
times from here (R110), also where this frame ends within the 16 bit times of R110 (log entry 41). -/
def State.endFrame (s : State) (bits : List Bool) (accepted scored clean missing : Bool) : State :=
  s.updBus fun b =>
    { b with
      link := .idle, busFree := false, freeDue := s.now + Config.freeAfterFrame, awaitEnd := missing, stray := false,
      yielding := s.yieldAfter bits, score := s.scoreAfter accepted scored, cleanRun := s.cleanRunAfter clean,
      vetoDriven := s.drivesVeto bits }

/-- R122: entry to QUIET. -/
def State.enterQuiet (s : State) : State :=
  let s1 := (((s.setFault .quiet).moveStation .quiet).flushClaims).updBus fun b => { b with cleanRun := 0 }
  ((s1.causeLoss .quiet).deriveDuties).refreshLamps

/-- R121: a raise that brings the score to 32 or more takes the station into QUIET. -/
def State.quietCheck (s : State) (scored : Bool) : State :=
  if s.checksFrames ∧ scored ∧ Config.quietThreshold ≤ s.bus.score then s.enterQuiet else s

/-- R120: a frame is appended to the inbound queue; a TICK so placed restarts the sync silence timer (R2). -/
def State.appendFrame (s : State) (f : Frame) : State :=
  let s1 := s.updBus fun b => { b with inbound := b.inbound ++ [f] }
  if f.payload.isTick then s1.restartSync else s1

/-- R116, R125: what becomes of an accepted frame: appended where the station checks frames, appended or lost as an
overrun at a listener, passed over in QUIET. -/
def State.deliver (s : State) (f : Option Frame) (sound overrun : Bool) : State :=
  match f with
  | none => if s.ctl.listener ∧ s.isValid then s.causeLoss .overrun else s
  | some g =>
    if s.checksFrames then s.appendFrame g
    else if s.ctl.listener then
      if sound ∧ overrun = false then s.appendFrame g
      else if s.isValid then s.causeLoss .overrun
      else s
    else s

/-- The transmitter's report (R116, R118), if this station transmits. -/
def State.reportEnd (s : State) (transmitting accepted : Bool) : State :=
  if transmitting then if accepted then s.reportAccepted else s.reportVetoed else s

/-- R116: the end mark of a frame. -/
def State.frameEnd (s : State) (bits : List Bool) (vetoedByOther : Bool) : State :=
  let accepted := !s.slotDominant bits vetoedByOther
  let scored := s.checksFrames && !s.sound bits
  let s1 := s.endFrame bits accepted scored (s.sound bits) false
  let s2 := s1.reportEnd s.transmitting accepted
  let s3 := if accepted then s2.deliver (s.readFrame bits) (s.sound bits) s.overrun else s2
  s3.quietCheck scored

/-- R118: the wait for an end mark or a cut is over: 2 bit times from here, or later where the bus was to be free later (log
entry 41). -/
def State.waitOver (s : State) : State :=
  s.updBus fun b =>
    { b with awaitEnd := false, busFree := false, freeDue := max b.freeDue (s.now + Config.freeAfterFrame) }

/-- END_MARK (R116): of a frame, or the one that a missing end mark left to come (R118). -/
def execEndMark (bits : List Bool) (vetoedByOther : Bool) (s : State) : Host.Outcome State Fault Refusal :=
  if s.inFrame then .next (s.frameEnd bits vetoedByOther)
  else if s.bus.awaitEnd then .next s.waitOver
  else .next s

/-- MISSING_END_MARK (R118): the frame is discarded as vetoed, and scored as a veto of this station's raising. -/
def execMissingEndMark (bits : List Bool) (s : State) : Host.Outcome State Fault Refusal :=
  if s.inFrame then
    .next (((s.endFrame bits false true false true).reportEnd s.transmitting false).quietCheck true)
  else .next s

/-- CUT (R119). The bus can be free 2 bit times from the cut (R110), also within the 16 bit times of R110 (log entry 41). -/
def execCut (s : State) : Host.Outcome State Fault Refusal :=
  if s.inFrame then
    .next ((if s.transmitting then s.reportReturned else s).updBus fun b =>
      { b with link := .idle, busFree := false, freeDue := s.now + Config.freeAfterFrame, stray := false })
  else if s.bus.awaitEnd then .next s.waitOver
  else .next s

/-! ### QUIET and STUCK -/

/-- QUIET_EXIT (R123). It is taken between frames, since the station checks and vetoes frames "from the next start mark";
while a frame is in progress it changes nothing (log entry 44). -/
def execQuietExit (s : State) : Host.Outcome State Fault Refusal :=
  if s.ctl.state = .quiet ∧ s.bus.link = .idle ∧ Config.cleanRunGoal ≤ s.bus.cleanRun then
    .next (((s.updBus fun b => { b with score := 0, cleanRun := 0 }).clearFault .quiet).changeStation .syncing)
  else .next s

/-- R2: the sync silence timer is held while STUCK is set. -/
def SyncTimer.hold (now : Nat) : SyncTimer → SyncTimer
  | .running since => .held (now - since)
  | t => t

/-- STUCK (R124). -/
def execStuck (s : State) : Host.Outcome State Fault Refusal :=
  if s.bus.link = .idle ∧ s.bus.stuck = false then
    let s1 := s.updBus fun b => { b with stuck := true, busFree := false }
    let s2 := s1.updEng fun e => { e with sync := e.sync.hold s.now }
    .next ((s2.setFault .stuck).refreshLamps)
  else .next s

/-- STUCK_CLEAR (R124, R110, R2). -/
def execStuckClear (s : State) : Host.Outcome State Fault Refusal :=
  if s.bus.stuck then
    let s1 := s.updBus fun b => { b with stuck := false, busFree := false, freeDue := s.now + Config.sixteenBitTimes }
    .next ((s1.restartSync.clearFault .stuck).refreshLamps)
  else .next s

end Sys2Proof.Machine
end

