-- ==== Sys2Proof/Machine/ClaimCommands.lean ====
section
/-! DEFINITION. Machine/ClaimCommands.lean: the meanings of the Claim Unit's own events (chapter 7): the tick timer's
expiry, the timers' claims, and the taking of a switch event. -/

namespace Sys2Proof.Machine

/-- TICK_TIMER_EXPIRY (R134): a RUNNING timer reaches the end of its period. -/
def execTickTimerExpiry (s : State) : Host.Outcome State Fault Refusal :=
  match s.claim.tickTimer with
  | .running due => .next ((s.advanceTo due).setTickTimer .expired)
  | .stopped | .expired => .next s

/-- TICK_CLAIM_BUILD (R134). -/
def execTickClaimBuild (s : State) : Host.Outcome State Fault Refusal := .next s.buildTick

/-- PRESENCE_CLAIM_BUILD (R135). -/
def execPresenceClaimBuild (s : State) : Host.Outcome State Fault Refusal := .next s.buildPresence

/-! ### Switch rules (R131, R132) -/

/-- R131: the event matches the rule's edge. -/
def SwitchRule.matchesEdge (r : SwitchRule) (level : Level) : Bool := r.edge == level

/-- R131, R106: the HIT of a rule. -/
def SwitchRule.hit (r : SwitchRule) (n : Switch) : Payload :=
  .hit n r.base r.tag (BitVec.ofNat 8 (flag r.lightLock + 2 * flag r.jackpot))

/-- R131: the MODE of a rule, if it names a mode. -/
def SwitchRule.modeClaim (r : SwitchRule) : List Payload := r.mode.toList.map Payload.mode

/-- R131: the claims of an event, in order. -/
def SwitchRule.claims (r : SwitchRule) (n : Switch) (level : Level) : List Payload :=
  if r.matchesEdge level then
    match r.kind with
    | .none => []
    | .score => r.hit n :: r.modeClaim
    | .start => [.start]
    | .tilt => [.tilt]
    | .nudge => [.nudge]
    | .drain => [.drain]
    | .launchConfirm => [.launched]
    | .scoop => [r.hit n, .hold 1#8] ++ r.modeClaim
  else if r.kind = .scoop then [.hold 0#8]
  else []

/-- R132: the event is handed on to the Driver Unit; `entered` says that a LAUNCHED was entered for it. -/
def State.handOn (s : State) (r : SwitchRule) (n : Switch) (level : Level) (entered : Bool) : State :=
  match r.kind with
  | .scoop => if r.matchesEdge level then s.scoopHandOn n r.driver r.dwell else s.scoopEmptied n
  | .launchConfirm => if r.matchesEdge level then s.launchHandOn entered else s
  | .none | .score | .start | .tilt | .nudge | .drain => s

/-- R131, R132, R153: one event is dealt with whole, its claims before its hand-on (for their notices: log entry 10). -/
def State.dealEvent (s : State) (e : SwitchEvent) : State :=
  let r := s.cfg.rules[e.switch]
  let entered := s.mayBuild .launched && s.hasPlaceFor .launched
  let s1 := (r.claims e.switch e.level).foldl (fun s p => s.build p (.switch e.switch)) s
  (s1.handOn r e.switch e.level entered).refreshLamps

/-- SWITCH_EVENT_TAKE (R131, R153): the oldest event is taken. -/
def execSwitchEventTake (s : State) : Host.Outcome State Fault Refusal :=
  match s.sw.events with
  | e :: rest => if s.unitsRun then .next ((s.setSw { s.sw with events := rest }).dealEvent e) else .next s
  | [] => .next s

end Sys2Proof.Machine
end

