-- ==== Sys2Proof/Machine/DriverCommands.lean ====
section
/-! DEFINITION. Machine/DriverCommands.lean: the meanings of the Driver Unit's timer ends (chapter 10) and of the lamps' half
cycle. -/

namespace Sys2Proof.Machine

/-- R167, R171: the duty whose unverified pulse has ended waits for its output to recycle. -/
def DriverUnit.afterUnverified (d : DriverUnit) : DutyId → DriverUnit
  | .eject n => d.updEject n fun x => { x with await := .afterUnverified }
  | .serve => d
  | .scoop n => d.updScoop n fun x => { x with await := true }

/-- R163: the pulse of an output has ended: VERIFY where it is verified and its attempt is open, RECYCLE otherwise. -/
def State.pulseEnds (s : State) (o : Output) : State :=
  let r := s.drv.outputs[o]
  match r.attemptOpen, r.duty with
  | true, some id =>
    if s.cfg.verifies o id then
      s.updDrv fun d => d.updOutput o fun x =>
        { x with state := .verify, due := s.now + s.cfg.outputs[o].verify * Config.ms }
    else (s.updDrv fun d => d.afterUnverified id).enterRecycle o
  | _, _ => s.enterRecycle o

/-- PULSE_END (R163). -/
def execPulseEnd (o : Output) (s : State) : Host.Outcome State Fault Refusal :=
  if s.drv.outputs[o].state = .pulse then
    .next ((((s.advanceTo s.drv.outputs[o].due).pulseEnds o).deriveDuties).refreshLamps)
  else .next s

/-- R167, R170: the result of a verify time that ends. -/
def State.verifyResult (s : State) : DutyId → State
  | .eject n => if s.boundState n = some .absent then s.succeedEject n else s.failEject n
  | .serve => s.failServe
  | .scoop _ => s

/-- VERIFY_TIMEOUT (R167, R170). -/
def execVerifyTimeout (o : Output) (s : State) : Host.Outcome State Fault Refusal :=
  if s.drv.outputs[o].state = .verify then
    let s1 := s.advanceTo s.drv.outputs[o].due
    let s2 := match s1.drv.outputs[o].duty with
      | some id => s1.verifyResult id
      | none => s1
    .next (((s2.enterRecycle o).deriveDuties).refreshLamps)
  else .next s

/-- RECYCLE_END (R163). -/
def execRecycleEnd (o : Output) (s : State) : Host.Outcome State Fault Refusal :=
  if s.drv.outputs[o].state = .recycle then
    .next ((((s.advanceTo s.drv.outputs[o].due).leaveRecycle o).deriveDuties).refreshLamps)
  else .next s

/-- R167: the retry timer of a duty in ATTEMPTING that can neither be fired nor verified: one failed eject is counted. -/
def State.timedFailure (s : State) (n : Slot) : State :=
  (s.updDrv fun d => d.updEject n fun x => x.failed s.now x.await (some (s.now + Config.retryTime))).jammedAfter n

/-- R168: the timer of a duty in RETRYING: with the output disabled, whatever the channel, or with the channel UNKNOWN or
FAULT, it counts as a failed retry and restarts; otherwise a pulse is wanted with the channel PRESENT, and with it ABSENT the
timer restarts. -/
def State.retryEnds (s : State) (n : Slot) (disabled : Bool) : State :=
  let restarted := s.updDrv fun d => d.updEject n fun x => { x with retryDue := some (s.now + Config.retryTime) }
  if disabled then restarted.jammedAfter n
  else
    match s.boundState n with
    | some .present => s.updDrv fun d => d.updEject n fun x => { x with want := true, retryDue := none }
    | some .absent => restarted
    | some .unknown | some .fault | none => restarted.jammedAfter n

/-- EJECT_RETRY_TIMER (R167, R168). -/
def execEjectRetryTimer (n : Slot) (s : State) : Host.Outcome State Fault Refusal :=
  match s.drv.ejects[n], s.cfg.ejectOutput n with
  | some x, some o =>
    match x.retryDue with
    | some due =>
      let s1 := s.advanceTo due
      let s2 := match x.phase with
        | .attempting => s1.timedFailure n
        | .retrying => s1.retryEnds n s.cfg.outputs[o].disabled
      .next ((s2.deriveDuties).refreshLamps)
    | none => .next s
  | _, _ => .next s

/-- SERVE_RETRY_TIMER (R170). -/
def execServeRetryTimer (s : State) : Host.Outcome State Fault Refusal :=
  match s.drv.serve.retryDue with
  | some due =>
    .next ((((s.advanceTo due).updDrv fun d => d.updServe fun v =>
      { v with retryDue := none, retryReady := true }).deriveDuties).refreshLamps)
  | none => .next s

/-- SCOOP_DWELL_END (R171). -/
def execScoopDwellEnd (n : Switch) (s : State) : Host.Outcome State Fault Refusal :=
  match s.drv.scoops[n] with
  | some x =>
    match x.dwellDue with
    | some due =>
      .next ((((s.advanceTo due).updDrv fun d => d.updScoop n fun y =>
        { y with dwellDue := none, want := true }).deriveDuties).refreshLamps)
    | none => .next s
  | none => .next s

/-- ATTRACT_HALF_CYCLE (R173). -/
def execAttractHalfCycle (s : State) : Host.Outcome State Fault Refusal :=
  if s.lamp.manner = .attract then
    let s1 := s.advanceTo s.lamp.halfDue
    .next ((s1.setLamp
      { s1.lamp with
        secondHalf := !s1.lamp.secondHalf
        halfDue := s1.lamp.halfDue + Config.attractHalf }).refreshLamps)
  else .next s

/-- NOTICE_SEND (R183): the port, idle, takes the oldest notice and sends its bytes without a gap. -/
def execNoticeSend (s : State) : Host.Outcome State Fault Refusal :=
  match s.rpt.fifo with
  | n :: rest =>
    let s1 := s.advanceTo s.rpt.busyUntil
    .next (s1.setRpt
      { s1.rpt with
        fifo := rest
        line := n.bytes
        busyUntil := s1.now + Config.uartTime n.bytes.length })
  | [] => .next s

end Sys2Proof.Machine
end

