-- ==== Sys2Proof/Machine/Frames.lean ====
section
/-! DEFINITION. Machine/Frames.lean: the meanings of the commands that are the application of an accepted frame, and of
the two commands of validity. -/

namespace Sys2Proof.Machine

/-! ### Validity -/

/-- R2: the station adopts the ATTRACT defaults and its replica is VALID. A notice created from here to the next
application carries the ordinal of the adopted table, 0 (R182, log entry 40). -/
def State.adoptAttract (s : State) : State :=
  let s1 := s.setTable (GameTable.attractDefaults s.table.profile)
  let s2 := s1.updEng fun e => { e with history := [], tally := 0 }
  (s2.validated.deriveDuties).refreshLamps

/-- SYNC_SILENCE_EXPIRY (R2): the running timer reaches 3,000 ms. A timer held by STUCK does not expire. -/
def execSyncSilenceExpiry (s : State) : Host.Outcome State Fault Refusal :=
  match s.eng.sync with
  | .running since => .next (s.advanceTo (since + Config.syncSilence)).adoptAttract
  | .stopped | .held _ => .next s

/-- LOSS_OF_VALIDITY (R3): a loss that waits is taken, behind the application in flight. (A loss with no application in
flight is taken at its cause, and DIVERGED's at the end of its own application, log entry 8.) -/
def execLossOfValidity (s : State) : Host.Outcome State Fault Refusal :=
  match s.eng.loss, s.eng.inFlight with
  | some _, some f => .next (s.taken.application f)
  | some _, none => .next s.performLoss
  | none, _ => .next s

/-! ### The applications, one command for each kind -/

/-- The frame is of a kind. -/
def Frame.ofKind (k : FrameKind) (f : Frame) : Bool := f.payload.kind == k

/-- TILT (R40). -/
def execTilt (s : State) : Host.Outcome State Fault Refusal := .next (s.applyNext (Frame.ofKind .tilt))

/-- NUDGE (R41). -/
def execNudge (s : State) : Host.Outcome State Fault Refusal := .next (s.applyNext (Frame.ofKind .nudge))

/-- LOCK (R56, R57). -/
def execLock (s : State) : Host.Outcome State Fault Refusal := .next (s.applyNext (Frame.ofKind .lock))

/-- LOST (R59). -/
def execLost (s : State) : Host.Outcome State Fault Refusal := .next (s.applyNext (Frame.ofKind .lost))

/-- RELEASED (R60). -/
def execReleased (s : State) : Host.Outcome State Fault Refusal := .next (s.applyNext (Frame.ofKind .released))

/-- JAMMED (R61). -/
def execJammed (s : State) : Host.Outcome State Fault Refusal := .next (s.applyNext (Frame.ofKind .jammed))

/-- DRAIN (R62). -/
def execDrain (s : State) : Host.Outcome State Fault Refusal := .next (s.applyNext (Frame.ofKind .drain))

/-- LAUNCHED (R63, R64). -/
def execLaunched (s : State) : Host.Outcome State Fault Refusal := .next (s.applyNext (Frame.ofKind .launched))

/-- START (R29, R30), a sync start (R4) among them. -/
def execStart (s : State) : Host.Outcome State Fault Refusal := .next (s.applyNext (Frame.ofKind .start))

/-- HIT (R94, R95). -/
def execHit (s : State) : Host.Outcome State Fault Refusal := .next (s.applyNext (Frame.ofKind .hit))

/-- MODE (R75, R76). -/
def execMode (s : State) : Host.Outcome State Fault Refusal := .next (s.applyNext (Frame.ofKind .mode))

/-- A HOLD of one of its two sorts (R78). -/
def Frame.isHold (set : Bool) (f : Frame) : Bool :=
  match f.payload with
  | .hold v => (v != 0#8) == set
  | _ => false

/-- HOLD_SET (R78). -/
def execHoldSet (s : State) : Host.Outcome State Fault Refusal := .next (s.applyNext (Frame.isHold true))

/-- HOLD_CLEAR (R79). -/
def execHoldClear (s : State) : Host.Outcome State Fault Refusal := .next (s.applyNext (Frame.isHold false))

/-- TICK (R27, R28). -/
def execTick (s : State) : Host.Outcome State Fault Refusal := .next (s.applyNext (Frame.ofKind .tick))

/-- PRESENCE (R36, R23). -/
def execPresence (s : State) : Host.Outcome State Fault Refusal := .next (s.applyNext (Frame.ofKind .presence))

/-- JOIN (R31 to R33). -/
def execJoin (s : State) : Host.Outcome State Fault Refusal := .next (s.applyNext (Frame.ofKind .join))

/-! ### The TICK seen by what it brings about (log entry 9) -/

/-- R26, R27: the frame is a TICK that this station's replica will apply as APPLIED. -/
def State.tickApplies (s : State) (f : Frame) : Bool :=
  match f.payload with
  | .tick number => s.isValid && !s.table.gateRefuses f && s.table.tickAdvances number
  | _ => false

/-- The work of a TICK behind its stages 1 and 2 (R28). -/
def tickBegun (t : GameTable) (f : Frame) : Work := (Work.begin t f).advanceTick.expireHolds

/-- R80: the TICK reaches the expiry of a hold. -/
def GameTable.holdExpires (t : GameTable) : Bool := t.holds.toList.any fun x => x == some (t.tick + 1#16)

/-- R34: the TICK ends the roll call. -/
def GameTable.rollcallEnds (t : GameTable) : Bool := t.phase == .rollcall && decide (t.rollcallRemaining ≤ 1)

/-- R70: the TICK closes the save window. -/
def GameTable.windowCloses (t : GameTable) (f : Frame) : Bool :=
  t.phase == .play && t.saveWindow == 1 && (tickBegun t f).table.holdsEmpty

/-- R82: the TICK expires an instance. -/
def GameTable.modeExpires (t : GameTable) : Bool :=
  t.phase == .play && t.modes.any fun e => e.state == .running && e.remaining == 1

/-- R45: the TICK reaches the ball-end limit. -/
def GameTable.limitReached (t : GameTable) : Bool := t.phase == .ballEnd && decide (t.ballEndRemaining ≤ 1)

/-- R37: the TICK's silence check finds a silent member. -/
def GameTable.silenceFound (t : GameTable) (f : Frame) : Bool :=
  let w := (tickBegun t f).countdown f.sender
  w.table.phase != .attract && (indices 16).any w.table.findsSilent

/-- HOLD_EXPIRY (R80). -/
def execHoldExpiry (s : State) : Host.Outcome State Fault Refusal :=
  .next (s.applyNext fun f => s.tickApplies f && s.table.holdExpires)

/-- ROLLCALL_END (R34, R35). -/
def execRollcallEnd (s : State) : Host.Outcome State Fault Refusal :=
  .next (s.applyNext fun f => s.tickApplies f && s.table.rollcallEnds)

/-- SAVE_WINDOW_CLOSE (R70). -/
def execSaveWindowClose (s : State) : Host.Outcome State Fault Refusal :=
  .next (s.applyNext fun f => s.tickApplies f && s.table.windowCloses f)

/-- MODE_EXPIRY (R82). -/
def execModeExpiry (s : State) : Host.Outcome State Fault Refusal :=
  .next (s.applyNext fun f => s.tickApplies f && s.table.modeExpires)

/-- BALL_END_LIMIT (R45). -/
def execBallEndLimit (s : State) : Host.Outcome State Fault Refusal :=
  .next (s.applyNext fun f => s.tickApplies f && s.table.limitReached)

/-- SILENCE (R37 to R39). -/
def execSilence (s : State) : Host.Outcome State Fault Refusal :=
  .next (s.applyNext fun f => s.tickApplies f && s.table.silenceFound f)

end Sys2Proof.Machine
end

