-- ==== Sys2Proof/Machine/Sensors.lean ====
section
/-! DEFINITION. Machine/Sensors.lean: the meanings of the Sensor Unit's events (chapter 9): the sweep and the end of a
measurement, with its class, its decision and the delivery. -/

namespace Sys2Proof.Machine

/-- The Sensor Unit is changed. -/
def State.updSen (s : State) (f : SensorUnit → SensorUnit) : State := s.setSen (f s.sen)

/-- R156: the channels that a sweep measures, in scan-list order. -/
def StationConfig.sweepList (c : StationConfig) : List Channel := c.scanList.filter fun ch => c.channels[ch].inUse

/-- R157: the end of the window of the first channel of a sweep that begins or goes on now. -/
def State.windowEnd (s : State) : List Channel → Nat
  | ch :: _ => s.now + s.cfg.channels[ch].window * Config.windowUnit
  | [] => s.sen.windowDue

/-- SWEEP_DUE (R156): a sweep begins, unless one is in progress. -/
def execSweepDue (s : State) : Host.Outcome State Fault Refusal :=
  if s.unitsRun then
    let s1 := s.advanceTo s.sen.sweepDue
    let s2 := s1.updSen fun u => { u with sweepDue := u.sweepDue + s.cfg.sweepPeriod * Config.ms }
    if s.sen.sweep.isEmpty then
      .next (s2.updSen fun u => { u with sweep := s.cfg.sweepList, windowDue := s2.windowEnd s.cfg.sweepList })
    else .next s2
  else .next s

/-- The classes of a count (R157). -/
inductive CountClass
  | invalid | low | mid | high
  deriving DecidableEq, Repr

/-- R157: the class of a count. -/
def classify (count : Nat) (overrange : Bool) (lower upper : Nat) : CountClass :=
  if count = 0 ∨ overrange then .invalid
  else if count < lower then .low
  else if count ≤ upper then .mid
  else .high

/-- A run raised by 1, stopping at 3 (R158). -/
def raiseRun (n : Nat) : Nat := min 3 (n + 1)

/-- R159: a classed count of a channel in FAULT. -/
def ChannelRecord.decideInFault (r : ChannelRecord) (c : CountClass) : ChannelRecord :=
  if c = .invalid then { r with validRun := 0 }
  else if r.validRun + 1 < 3 then { r with validRun := r.validRun + 1 }
  else { r with state := .unknown, validRun := 0, lowRun := 0, highRun := 0, invalidRun := 0 }

/-- R158: a classed count of a channel in UNKNOWN, PRESENT or ABSENT. -/
def ChannelRecord.decideRunning (r : ChannelRecord) : CountClass → ChannelRecord
  | .low =>
    { r with
      lowRun := raiseRun r.lowRun, highRun := 0, invalidRun := 0
      state := if raiseRun r.lowRun = 3 then .present else r.state }
  | .high =>
    { r with
      lowRun := 0, highRun := raiseRun r.highRun, invalidRun := 0
      state := if raiseRun r.highRun = 3 then .absent else r.state }
  | .mid => { r with lowRun := 0, highRun := 0, invalidRun := 0 }
  | .invalid =>
    if raiseRun r.invalidRun = 3 then { r with state := .fault, lowRun := 0, highRun := 0, invalidRun := 0, validRun := 0 }
    else { r with lowRun := 0, highRun := 0, invalidRun := raiseRun r.invalidRun }

/-- R158, R159: the decision on a classed count. -/
def ChannelRecord.decided (r : ChannelRecord) (c : CountClass) : ChannelRecord :=
  match r.state with
  | .fault => r.decideInFault c
  | .unknown | .present | .absent => r.decideRunning c

/-- R157: the stored count of a measurement. -/
def ChannelRecord.store (r : ChannelRecord) (edges : Nat) : ChannelRecord :=
  { r with count := min 65535 edges, overrange := decide (65535 < edges) }

/-- R157 to R159: a channel's record after a measurement. -/
def ChannelRecord.measured (r : ChannelRecord) (c : ChannelConfig) (edges : Nat) : ChannelRecord :=
  let stored := r.store edges
  stored.decided (classify stored.count stored.overrange c.lower c.upper)

/-- R159: a channel is FAULT. -/
def State.anyChannelFault (s : State) : Bool := s.sen.channels.toList.any fun r => r.state == .fault

/-- R159: the report of a channel that has become or left FAULT. -/
def State.sensorReport (s : State) (old new : ChannelState) : State :=
  if new = .fault then s.setFault .sensor
  else if old = .fault ∧ s.anyChannelFault = false then s.clearFault .sensor
  else s

/-- R160: a decision that has changed the channel's state is delivered to the Claim Unit and the Driver Unit (in this
order, log entry 10). -/
def State.deliverDecision (s : State) (ch : Channel) (st : ChannelState) : State :=
  match s.cfg.channels[ch].binding with
  | some (n, _) => (s.claimDelivery n st).driverDelivery n st
  | none => s.deriveDuties

/-- R157 to R160: the decision at the end of a channel's window. The SENSOR fault's notice is created before those that the
delivery brings (R182, log entry 10). -/
def State.measure (s : State) (ch : Channel) (edges : Nat) : State :=
  let old := s.sen.channels[ch]
  let new := old.measured s.cfg.channels[ch] edges
  let s1 := s.updSen fun u => { u with channels := vmap (fun k r => if k = ch then new else r) u.channels }
  if new.state = old.state then s1
  else ((s1.sensorReport old.state new.state).deliverDecision ch new.state).refreshLamps

/-- MEASUREMENT_END (R157): the running window ends, and the sweep goes on with no gap. -/
def execMeasurementEnd (edges : Nat) (s : State) : Host.Outcome State Fault Refusal :=
  match s.sen.sweep with
  | [] => .next s
  | ch :: rest =>
    let s1 := s.advanceTo s.sen.windowDue
    .next ((s1.updSen fun u => { u with sweep := rest, windowDue := s1.windowEnd rest }).measure ch edges)

end Sys2Proof.Machine
end

