-- ==== Sys2Proof/Machine/Image.lean ====
section
/-! DEFINITION. Machine/Image.lean: reading the configuration image (R176 to R178) and correcting its fields (R177, R154,
R172, R73). A reader answers its field as it is taken, beside whether it had to be corrected. -/

namespace Sys2Proof.Machine

/-- R176: the image as clocked in, 526 bytes, one not supplied reading FFh. -/
def fullImage (image : List Byte) : List Byte := (image ++ List.replicate imageLength 0xFF#8).take imageLength

/-- The byte at an offset. -/
def byteAt (image : List Byte) (off : Nat) : Nat := (image.getD off 0xFF#8).toNat

/-- The number stored at an offset, most significant byte first (R178). -/
def numberAt (image : List Byte) (off n : Nat) : Nat := bytesValue ((image.drop off).take n)

/-! ### Whether the image is usable (R176) -/

/-- R12: the profile fields other than the mode definitions are within their ranges. -/
def profileInRange (image : List Byte) : Bool :=
  decide (1 ≤ byteAt image 410) && decide (byteAt image 410 ≤ 8)
    && decide (1 ≤ byteAt image 411) && decide (byteAt image 411 ≤ 5)
    && decide (2 ≤ byteAt image 412) && decide (byteAt image 412 ≤ 4)
    && decide (numberAt image 413 2 ≤ 600) && decide (byteAt image 421 ≤ 3)

/-- R176: the four checks. -/
def imageUsable (image : List Byte) : Bool :=
  byteAt image 0 == 0x4D && byteAt image 1 == 0x32 && numberAt image 2 2 == 520
    && numberAt image 4 2 == (crc16 (image.drop 6)).toNat && profileInRange image

/-! ### Codes (R178) -/

/-- A number as an index below `n`, where it is one. -/
def natIndex (n v : Nat) : Option (Fin n) := if h : v < n then some ⟨v, h⟩ else none

/-- The switch kinds. -/
def RuleKind.ofCode : Nat → Option RuleKind
  | 0 => some .none | 1 => some .score | 2 => some .start | 3 => some .tilt | 4 => some .nudge | 5 => some .drain
  | 6 => some .launchConfirm | 7 => some .scoop | _ => Option.none

/-- The debounce classes. -/
def Debounce.ofCode : Nat → Option Debounce
  | 0 => some .fast | 1 => some .normal | 2 => some .slow | _ => none

/-- The driver roles. -/
def DriverRole.ofCode : Nat → Option DriverRole
  | 0 => some .general | 1 => some .eject | 2 => some .serve | 3 => some .scoop | _ => none

/-- The lamp sources, with their arguments (R172). -/
def LampSource.ofCode (code arg : Nat) : Option LampSource :=
  match code with
  | 0 => (natIndex 8 arg).map .slot
  | 1 => (natIndex 8 arg).map .mode
  | 2 => if 1 ≤ arg ∧ arg ≤ 4 then some (.locksLit arg) else Option.none
  | 3 => some .multiball
  | 4 => some .jackpot
  | 5 => if 1 ≤ arg then (natIndex 4 (arg - 1)).map .playerUp else Option.none
  | 6 => some .save
  | 7 => some .sweep
  | 8 => some .fault
  | 9 => some .none
  | _ => Option.none

/-! ### The station section -/

/-- A field as taken, and whether it was corrected. -/
abbrev Read (α : Type) : Type := α × Bool

/-- R177: the station-number override. -/
def readOverride (image : List Byte) : Read (Option Station) :=
  (natIndex 16 (byteAt image 6), decide (16 ≤ byteAt image 6) && byteAt image 6 != 0xFF)

/-- R178: the mode id of a switch rule, none for FFh. -/
def ruleMode (code : Nat) : Option (Option ModeId) :=
  if code = 0xFF then some none else (natIndex 8 code).map some

/-- R177, R178: the switch rule at an offset. -/
def readRule (image : List Byte) (off : Nat) : Read SwitchRule :=
  let flags := byteAt image (off + 1)
  match RuleKind.ofCode (byteAt image off), Debounce.ofCode (flags / 2 % 4), ruleMode (byteAt image (off + 6)),
      natIndex 8 (byteAt image (off + 7)) with
  | some kind, some debounce, some mode, some driver =>
    if byteAt image (off + 5) ≤ 15 ∧ byteAt image (off + 8) ≤ 250 then
      ({ kind := kind, edge := if flags % 2 = 0 then .closed else .opened
         base := BitVec.ofNat 24 (numberAt image (off + 2) 3), tag := BitVec.ofNat 8 (byteAt image (off + 5))
         lightLock := flags.testBit 3, jackpot := flags.testBit 4, mode := mode, driver := driver
         dwell := 20 * byteAt image (off + 8), debounce := debounce }, false)
    else ({ SwitchRule.blank with debounce := debounce }, true)
  | _, some debounce, _, _ => ({ SwitchRule.blank with debounce := debounce }, true)
  | _, none, _, _ => (SwitchRule.blank, true)

/-- R177: a verify time is read for EJECT and SERVE. -/
def verifyOk (role : DriverRole) (verify : Nat) : Bool :=
  match role with
  | .eject | .serve => decide (50 ≤ verify) && decide (verify ≤ 1000)
  | .general | .scoop => true

/-- R177, R178: the driver configuration at an offset. -/
def readOutput (image : List Byte) (off : Nat) : Read OutputConfig :=
  let role := DriverRole.ofCode (byteAt image off)
  let bad := role.isNone || byteAt image (off + 1) == 0
    || !verifyOk (role.getD .general) (numberAt image (off + 3) 2)
  ({ role := role.getD .general, pulse := byteAt image (off + 1), recycle := 10 * byteAt image (off + 2)
     verify := numberAt image (off + 3) 2, disabled := bad }, bad)

/-- R177: the concurrency limit. -/
def readConcurrency (image : List Byte) : Read Nat :=
  let v := byteAt image 336
  if 1 ≤ v ∧ v ≤ 4 then (v, false) else (1, true)

/-- R177: an expander's presence, by its bit and its address. -/
def readExpander (image : List Byte) (e : Expander) : Read Bool :=
  if (byteAt image 338).testBit e.val then
    if byteAt image (339 + e.val) ≤ 0x7F then (true, false) else (false, true)
  else (false, false)

/-- R142: switch `n` is a direct pin or an input of a present expander (one taken as not present for its address is not
present, log entry 16). -/
def switchPresent (image : List Byte) (n : Switch) : Bool :=
  if h : n.val < 8 then true else (readExpander image ⟨(n.val - 8) / 8, by omega⟩).1

/-- R142, R177: a switch's rule; that of an input of an expander that is not present is not read. -/
def readSwitch (image : List Byte) (n : Switch) : Read SwitchRule :=
  if switchPresent image n then readRule image (8 + 9 * n.val) else (SwitchRule.blank, false)

/-- R154: the scan list's entries, dropping those above 3 and those that repeat an earlier one. -/
def readScanEntries : List Nat → List Channel → Read (List Channel)
  | [], acc => (acc, false)
  | v :: vs, acc =>
    match natIndex 4 v with
    | some ch =>
      if acc.contains ch then ((readScanEntries vs acc).1, true) else readScanEntries vs (acc ++ [ch])
    | none => ((readScanEntries vs acc).1, true)

/-- R154, R177: the scan list. -/
def readScanList (image : List Byte) : Read (List Channel) :=
  let count := byteAt image 370
  let r := readScanEntries ((List.range (min 4 count)).map fun i => byteAt image (371 + i)) []
  (r.1, r.2 || count == 0 || decide (4 < count))

/-- R154: the sweep period. -/
def readPeriod (image : List Byte) : Read Nat :=
  let v := byteAt image 375
  if v = 2 ∨ v = 4 ∨ v = 8 then (v, false) else (8, true)

/-- R154: the window and the thresholds of a channel are valid. -/
def channelValid (image : List Byte) (off : Nat) : Bool :=
  decide (1 ≤ byteAt image off) && decide (byteAt image off ≤ 8)
    && decide (numberAt image (off + 1) 2 < numberAt image (off + 3) 2)
    && decide (numberAt image (off + 3) 2 < 65535)

/-- R177: a channel's slot binding as stored. An eject driver above 7 is out of range with no slot bound too (log entry
17). -/
def readBinding (image : List Byte) (off : Nat) : Read (Option (Slot × Output)) :=
  match natIndex 8 (byteAt image (off + 5)), natIndex 8 (byteAt image (off + 6)) with
  | some n, some o => (some (n, o), false)
  | none, some _ => (none, byteAt image (off + 5) != 0xFF)
  | _, none => (none, true)

/-- R154: a channel's settings, with the binding as stored where the channel is in use. -/
def readChannel (image : List Byte) (scan : List Channel) (ch : Channel) : Read ChannelConfig :=
  let off := 342 + 7 * ch.val
  let inUse := scan.contains ch && channelValid image off
  ({ window := byteAt image off, lower := numberAt image (off + 1) 2, upper := numberAt image (off + 3) 2
     inUse := inUse, binding := if inUse then (readBinding image off).1 else none },
    !channelValid image off || (readBinding image off).2)

/-- R154: a lower-numbered channel binds the slot that this channel names. -/
def boundBelow (channels : Vector ChannelConfig 4) (ch : Channel) : Bool :=
  match channels[ch].binding with
  | some (n, _) => (indices 4).any fun k => decide (k < ch) && (channels[k].binding.map Prod.fst) == some n
  | none => false

/-- R154: the settings of the channels, with the bindings that take effect. -/
def readChannels (image : List Byte) (scan : List Channel) : Read (Vector ChannelConfig 4) :=
  let stored := vtab fun ch => (readChannel image scan ch).1
  (vtab fun ch => { stored[ch] with binding := if boundBelow stored ch then none else stored[ch].binding },
    (indices 4).any fun ch => (readChannel image scan ch).2 || boundBelow stored ch)

/-- R172, R177: the lamp binding at an offset. -/
def readLamp (image : List Byte) (off : Nat) : Read LampBinding :=
  let source := LampSource.ofCode (byteAt image off % 128) (byteAt image (off + 1))
  ({ source := source.getD .none, invert := (byteAt image off).testBit 7 }, source.isNone)

/-- R177, R178: the station section. -/
def readStation (image : List Byte) : Read StationConfig :=
  let scan := readScanList image
  let channels := readChannels image scan.1
  ({ trough := (byteAt image 7).testBit 0
     start := (byteAt image 7).testBit 1
     rules := vtab fun n : Switch => (readSwitch image n).1
     outputs := vtab fun o : Output => (readOutput image (296 + 5 * o.val)).1
     concurrency := (readConcurrency image).1
     pairing := byteAt image 337 != 0
     expanders := vtab fun e => (readExpander image e).1
     addresses := vtab fun e : Expander => if (readExpander image e).1 then BitVec.ofNat 7 (byteAt image (339 + e.val)) else 0#7
     channels := channels.1
     scanList := scan.1
     sweepPeriod := (readPeriod image).1
     lamps := vtab fun n : Lamp => (readLamp image (376 + 2 * n.val)).1 },
    (indices 32).any (fun n => (readSwitch image n).2)
      || (indices 8).any (fun o => (readOutput image (296 + 5 * o.val)).2)
      || (readConcurrency image).2
      || (indices 3).any (fun e => (readExpander image e).2)
      || channels.2 || scan.2 || (readPeriod image).2
      || (indices 16).any (fun n => (readLamp image (376 + 2 * n.val)).2))

/-! ### The profile section -/

/-- R73, R177, R178: the mode definition at an offset. -/
def readMode (image : List Byte) (off : Nat) : Read ModeDef :=
  let set := byteAt image off != 0
  let inRange := decide (numberAt image (off + 1) 2 ≤ 6000) && decide (1 ≤ byteAt image (off + 3))
    && decide (byteAt image (off + 3) ≤ 15) && decide (1 ≤ byteAt image (off + 4))
    && decide (byteAt image (off + 11) ≤ 3)
  let flags := byteAt image (off + 12)
  ({ defined := set && inRange, duration := numberAt image (off + 1) 2, goalTag := byteAt image (off + 3)
     goalCount := byteAt image (off + 4), perHit := numberAt image (off + 5) 3
     completion := numberAt image (off + 8) 3, group := byteAt image (off + 11), multiply := flags.testBit 0
     noPause := flags.testBit 1, carry := flags.testBit 2, sweepCounts := flags.testBit 3
     sweepFinal := flags.testBit 4, repeats := flags.testBit 5 }, set && !inRange)

/-- R12, R178: the profile. -/
def readProfile (image : List Byte) : Read Profile :=
  ({ ballsInstalled := byteAt image 410, ballsPerGame := byteAt image 411, lockGoal := byteAt image 412
     saveTicks := numberAt image 413 2, jackpotBase := numberAt image 415 3, jackpotStep := numberAt image 418 3
     nudgeWarnings := byteAt image 421
     modes := vtab fun m : ModeId => (readMode image (422 + 13 * m.val)).1 },
    (indices 8).any fun m => (readMode image (422 + 13 * m.val)).2)

/-- R12: the profile digest, over the section as stored. -/
def profileDigestOf (image : List Byte) : Word16 := crc16 (image.drop 410)

/-- R177: some field of the image had to be corrected. -/
def imageCorrected (image : List Byte) : Bool :=
  (readOverride image).2 || (readStation image).2 || (readProfile image).2

end Sys2Proof.Machine
end

