-- ==== Sys2Proof/Machine/StartUp.lean ====
section
/-! DEFINITION. Machine/StartUp.lean: the meanings of device reset (R175) and of the configuration read (R176). -/

namespace Sys2Proof.Machine

/-- R175: the number that the straps give, STN0 the least significant bit. -/
def strapNumber (straps : BitVec 4) : Station := Fin.ofNat 16 straps.toNat

/-- DEVICE_RESET (R175): every block is at its reset values and the station is in LOADING; the straps are sampled. The
commands that wait are the outside's and stay, and so does the count of the free values drawn (log entry 31). -/
def execDeviceReset (straps : BitVec 4) (listenLow : Bool) (s : State) : Host.Outcome State Fault Refusal :=
  .next (((State.reset.setPending s.pending).setBus { Bus.reset with contentions := s.bus.contentions }).setCtl
    { Control.reset with straps := straps, station := strapNumber straps, listener := listenLow })

/-- R176: the image is not usable. -/
def State.unconfigured (s : State) : State :=
  ((s.setCtl { s.ctl with state := .unconfigured, mask := 0xFF#8 }).setFault .config).refreshLamps

/-- R176: what a usable image settles: the station number, the digest, the mask, the station section, the profile and
the report port. -/
def State.loadImage (s : State) (image : List Byte) : State :=
  let s1 := s.setCtl
    { s.ctl with
      station := (readOverride image).1.getD s.ctl.station
      mask := BitVec.ofNat 8 (byteAt image 408)
      profileDigest := profileDigestOf image }
  let s2 := (s1.setCfg (readStation image).1).setTable { s1.table with profile := (readProfile image).1 }
  s2.setRpt { s2.rpt with enabled := byteAt image 409 != 0 }

/-- R176, R109, R143, R155, R162: the link enters IDLE with the bus not free, and the Switch, Sensor and Driver Units
start. -/
def State.startUnits (s : State) : State :=
  (((s.setBus { s.bus with link := .idle, busFree := false, freeDue := s.now + Config.sixteenBitTimes }).setSw
    (SwitchUnit.started s.now)).setSen (SensorUnit.started s.now)).setDrv DriverUnit.reset

/-- R176, R177: a usable image is loaded and the station enters SYNCING. -/
def State.configured (s : State) (image : List Byte) : State :=
  let s1 := ((s.loadImage image).startUnits).changeStation .syncing
  (if imageCorrected image then s1.setFault .config else s1).refreshLamps

/-! ### The read (R176) -/

/-- R176: CCS# is driven low: a read begins. -/
def MemoryPort.select (_ : MemoryPort) : MemoryPort := { selected := true, sent := [], clocked := 0 }

/-- R176: bytes are sent on CMOSI, to a memory that CCS# selects. -/
def MemoryPort.send (p : MemoryPort) (bytes : List Byte) : MemoryPort :=
  if p.selected then { p with sent := p.sent ++ bytes } else p

/-- R176: bytes are clocked in on CMISO, from a memory that CCS# selects. -/
def MemoryPort.clockIn (p : MemoryPort) (n : Nat) : MemoryPort :=
  if p.selected then { p with clocked := p.clocked + n } else p

/-- R176: CCS# is driven high. -/
def MemoryPort.release (p : MemoryPort) : MemoryPort := { p with selected := false }

/-- R176: what the station sends for the read: the read byte 03h and the address 000000h. -/
def readBytes : List Byte := [0x03#8, 0x00#8, 0x00#8, 0x00#8]

/-- R176: the one read, whole: CCS# low, the read byte and the address, 526 bytes clocked in, CCS# high. -/
def MemoryPort.read (p : MemoryPort) : MemoryPort := ((p.select.send readBytes).clockIn imageLength).release

/-- R176: the read has been made. -/
def State.readMemory (s : State) : State := s.setCtl { s.ctl with memory := s.ctl.memory.read }

/-- CONFIGURATION_READ (R176): the one read, in LOADING, and what its image makes of the station. -/
def execConfigurationRead (image : List Byte) (s : State) : Host.Outcome State Fault Refusal :=
  if s.ctl.state = .loading then
    if imageUsable (fullImage image) then .next (s.readMemory.configured (fullImage image))
    else .next s.readMemory.unconfigured
  else .next s

end Sys2Proof.Machine
end

