-- ==== Sys2Proof/Machine/Switches.lean ====
section
/-! DEFINITION. Machine/Switches.lean: the meanings of the Switch Unit's events (chapter 8): the sample of the direct pins,
the attention line, the refresh timer, and the scanner's reads. -/

namespace Sys2Proof.Machine

/-- The Switch Unit is changed. -/
def State.updSw (s : State) (f : SwitchUnit → SwitchUnit) : State := s.setSw (f s.sw)

/-- R142: a pin or input read low is CLOSED, and one read high is OPEN. -/
def levelOf (high : Bool) : Level := if high then .opened else .closed

/-- R144: the debounce time in samples, that is in milliseconds. -/
def Debounce.samples : Debounce → Nat
  | .fast => 2
  | .normal => 8
  | .slow => 32

/-- R152: an event is appended, or discarded with a SWITCH_LOST notice while the queue is full. -/
def State.appendEvent (s : State) (n : Switch) (level : Level) : State :=
  if s.sw.events.length < Config.eventCapacity then
    s.updSw fun u => { u with events := u.events ++ [{ switch := n, level := level }] }
  else s.notify (.switchLost n level)

/-- A debounced level changes. -/
def State.setLevel (s : State) (n : Switch) (level : Level) : State :=
  s.updSw fun u => { u with levels := vmap (fun k x => if k = n then level else x) u.levels }

/-! ### Direct pins (R144) -/

/-- The switch of a direct pin (R142). -/
def pinSwitch (n : Fin 8) : Switch := ⟨n.val, by omega⟩

/-- A pin's count takes a value. -/
def State.setCount (s : State) (n : Fin 8) (c : Nat) : State :=
  s.updSw fun u => { u with counts := vmap (fun k x => if k = n then c else x) u.counts }

/-- R144: one pin at a sample. -/
def State.samplePin (pins : Byte) (s : State) (n : Fin 8) : State :=
  let level := levelOf (pins.getLsbD n.val)
  if level = s.sw.levels[pinSwitch n] then s.setCount n 0
  else if s.cfg.rules[pinSwitch n].debounce.samples ≤ s.sw.counts[n] + 1 then
    ((s.setLevel (pinSwitch n) level).setCount n 0).appendEvent (pinSwitch n) level
  else s.setCount n (s.sw.counts[n] + 1)

/-- R143: the pins' first sample gives their levels, with no event. -/
def State.firstSample (s : State) (pins : Byte) : State :=
  s.updSw fun u =>
    { u with
      pinsSampled := true
      levels := vmap (fun k x => if k.val < 8 then levelOf (pins.getLsbD k.val) else x) u.levels }

/-- SWITCH_SAMPLE (R144). -/
def execSwitchSample (pins : Byte) (s : State) : Host.Outcome State Fault Refusal :=
  if s.unitsRun then
    let s1 := (s.advanceTo s.sw.sampleDue).updSw fun u => { u with sampleDue := u.sampleDue + Config.samplePeriod }
    if s1.sw.pinsSampled then .next ((indices 8).foldl (State.samplePin pins) s1) else .next (s1.firstSample pins)
  else .next s

/-! ### Attention and refresh (R147, R148) -/

/-- An expander is present (R142). -/
def StationConfig.anyExpander (c : StationConfig) : Bool := c.expanders.toList.any id

/-- ATTN_TAKE (R147): ATTN has been asserted for 1 ms. -/
def execAttnTake (s : State) : Host.Outcome State Fault Refusal :=
  if s.unitsRun ∧ s.cfg.anyExpander ∧ s.sw.attnTaken = false then
    .next (s.updSw fun u => { u with attention := true, attnTaken := true })
  else .next s

/-- ATTN_RELEASE (R147): ATTN is high again, and can be taken again. -/
def execAttnRelease (s : State) : Host.Outcome State Fault Refusal :=
  if s.sw.attnTaken then .next (s.updSw fun u => { u with attnTaken := false }) else .next s

/-- REFRESH_TIMER (R148). -/
def execRefreshTimer (s : State) : Host.Outcome State Fault Refusal :=
  if s.unitsRun then
    .next ((s.advanceTo s.sw.refreshDue).updSw fun u =>
      { u with refresh := true, refreshDue := u.refreshDue + Config.refreshPeriod })
  else .next s

/-! ### The scanner (R145 to R151) -/

/-- One expander's record is changed. -/
def State.updExpander (s : State) (e : Expander) (f : ExpanderRecord → ExpanderRecord) : State :=
  s.updSw fun u => { u with expanders := vmap (fun k x => if k = e then f x else x) u.expanders }

/-- The switch of an expander's input (R142). -/
def expanderSwitch (e : Expander) (i : Fin 8) : Switch := ⟨8 + 8 * e.val + i.val, by omega⟩

/-- An input's pending change takes a value (R146). -/
def State.setChange (s : State) (e : Expander) (i : Fin 8) (due : Option Nat) : State :=
  s.updExpander e fun x => { x with changes := vmap (fun k y => if k = i then due else y) x.changes }

/-- PENDING_CHANGE_DUE (R149): the due time of a pending change arrives. -/
def execPendingChangeDue (e : Expander) (i : Fin 8) (s : State) : Host.Outcome State Fault Refusal :=
  match s.sw.expanders[e].changes[i] with
  | some due => .next ((s.advanceTo due).updExpander e fun x => { x with reread := true })
  | none => .next s

/-- R149: the expander whose confirm reread comes first, if one is wanted. -/
def State.nextReread (s : State) : Option Expander :=
  (indices 3).find? fun e =>
    s.cfg.expanders[e] && s.sw.expanders[e].reread && s.sw.expanders[e].status == .ok

/-- R148: the expanders that a pass covers. -/
def State.passCovers (s : State) (refresh : Bool) : List Expander :=
  (indices 3).filter fun e => s.cfg.expanders[e] && (refresh || s.sw.expanders[e].status == .ok)

/-- R145: what the scanner sends first in a read of an expander: its address with the read direction. -/
def StationConfig.callTo (c : StationConfig) (e : Expander) : ScanCall := { address := c.addresses[e], read := true }

/-- R145: the expander that the scanner's work reads now. -/
def Scan.reading : Scan → Option Expander
  | .idle => none
  | .reread e => some e
  | .pass left => left.head?

/-- The scanner's work takes a value, and the read that it makes first is begun (R145). -/
def State.setScan (s : State) (x : Scan) : State :=
  s.updSw fun u => { u with scan := x, call := x.reading.map s.cfg.callTo }

/-- R147: the end of a pass. An attention request set in the course of the pass stays (log entry 39). -/
def State.endPass (s : State) (attn : Bool) : State :=
  (s.setScan .idle).updSw fun u => { u with attention := u.attention || attn }

/-- R148: a pass begins, and clears its requests. A pass of no reads ends at once. -/
def State.beginPass (s : State) (attn : Bool) : State :=
  let covers := s.passCovers s.sw.refresh
  let s1 := (s.updSw fun u => { u with refresh := false, attention := false }).setScan (.pass covers)
  if covers.isEmpty then s1.endPass attn else s1

/-- SCANNER_WORK (R149): the scanner, idle, begins its next work. -/
def execScannerWork (attn : Bool) (s : State) : Host.Outcome State Fault Refusal :=
  if s.unitsRun ∧ s.cfg.anyExpander ∧ s.sw.scan = .idle then
    match s.nextReread with
    | some e => .next (s.setScan (.reread e))
    | none => if s.sw.refresh ∨ s.sw.attention then .next (s.beginPass attn) else .next s
  else .next s

/-- R146: the judgement of one input of a primed expander. -/
def State.judgeInput (e : Expander) (value : Byte) (s : State) (i : Fin 8) : State :=
  let n := expanderSwitch e i
  let level := levelOf (value.getLsbD i.val)
  if level = s.sw.levels[n] then s.setChange e i none
  else
    match s.sw.expanders[e].changes[i] with
    | none => s.setChange e i (some (s.now + s.cfg.rules[n].debounce.samples * Config.ms))
    | some due =>
      if due ≤ s.now then ((s.setLevel n level).setChange e i none).appendEvent n level else s

/-- R146: the first read of an expander gives its levels, with no event. -/
def State.prime (s : State) (e : Expander) (value : Byte) : State :=
  ((indices 8).foldl (fun s i => s.setLevel (expanderSwitch e i) (levelOf (value.getLsbD i.val))) s).updExpander e
    fun x => { x with primed := true }

/-- R146: the judgement of a successful read. -/
def State.judgeRead (s : State) (e : Expander) (value : Byte) : State :=
  let s1 :=
    if s.sw.expanders[e].primed then (indices 8).foldl (State.judgeInput e value) s else s.prime e value
  s1.updExpander e fun x =>
    { x with
      reread := x.reread && x.changes.toList.any fun c =>
        match c with
        | some due => decide (due ≤ s1.now)
        | none => false }

/-- R151: no present expander is FAILED. -/
def State.noExpanderFailed (s : State) : Bool :=
  (indices 3).all fun e => !s.cfg.expanders[e] || s.sw.expanders[e].status == .ok

/-- R146, R151: a read has succeeded; that of a FAILED expander is its recovery. -/
def State.readSucceeds (s : State) (e : Expander) (value : Byte) : State :=
  let failed := s.sw.expanders[e].status == .failed
  let s1 := (s.updExpander e fun x => { x with status := .ok }).judgeRead e value
  if failed ∧ s1.noExpanderFailed then (s1.clearFault .expander).refreshLamps else s1

/-- R150: a read has failed, its retry with it. -/
def State.readFails (s : State) (e : Expander) : State :=
  ((s.updExpander e fun x =>
    { x with status := .failed, reread := false, changes := Vector.replicate 8 none }).setFault .expander).refreshLamps

/-- R145, R150: a read of an expander has ended, with the byte of its first attempt or of its retry, or with neither. -/
def State.readEnds (s : State) (e : Expander) (first retry : Option Byte) : State :=
  match first, retry with
  | some v, _ => s.readSucceeds e v
  | none, some v => s.readSucceeds e v
  | none, none => s.readFails e

/-- EXPANDER_READ (R146): the read in flight completes, and the scanner goes on. -/
def execExpanderRead (first retry : Option Byte) (attn : Bool) (s : State) : Host.Outcome State Fault Refusal :=
  match s.sw.scan with
  | .idle => .next s
  | .reread e => .next ((s.readEnds e first retry).setScan .idle)
  | .pass [] => .next (s.endPass attn)
  | .pass (e :: rest) =>
    let s1 := s.readEnds e first retry
    if rest.isEmpty then .next (s1.endPass attn) else .next (s1.setScan (.pass rest))

end Sys2Proof.Machine
end

