-- ==== Sys2Proof/Machine/Dispatch.lean ====
section
/-! DEFINITION. Machine/Dispatch.lean: the meaning of each command, one arm for each row of spec/opcode_table.json. -/

namespace Sys2Proof.Machine

/-- What a command does to the station. -/
def exec (i : Instr) (s : State) : Host.Outcome State Fault Refusal :=
  match i with
  | .deviceReset straps listenLow => Sys2Proof.Machine.execDeviceReset straps listenLow s
  | .configurationRead image => Sys2Proof.Machine.execConfigurationRead image s
  | .busFree => Sys2Proof.Machine.execBusFree s
  | .yieldTimeout => Sys2Proof.Machine.execYieldTimeout s
  | .contention => Sys2Proof.Machine.execContention s
  | .startMark => Sys2Proof.Machine.execStartMark s
  | .arbitrationLost => Sys2Proof.Machine.execArbitrationLost s
  | .lateLoss => Sys2Proof.Machine.execLateLoss s
  | .strayMark => Sys2Proof.Machine.execStrayMark s
  | .endMark bits vetoedByOther => Sys2Proof.Machine.execEndMark bits vetoedByOther s
  | .missingEndMark bits => Sys2Proof.Machine.execMissingEndMark bits s
  | .cut => Sys2Proof.Machine.execCut s
  | .quietExit => Sys2Proof.Machine.execQuietExit s
  | .stuck => Sys2Proof.Machine.execStuck s
  | .stuckClear => Sys2Proof.Machine.execStuckClear s
  | .syncSilenceExpiry => Sys2Proof.Machine.execSyncSilenceExpiry s
  | .lossOfValidity => Sys2Proof.Machine.execLossOfValidity s
  | .tilt => Sys2Proof.Machine.execTilt s
  | .nudge => Sys2Proof.Machine.execNudge s
  | .lock => Sys2Proof.Machine.execLock s
  | .lost => Sys2Proof.Machine.execLost s
  | .released => Sys2Proof.Machine.execReleased s
  | .jammed => Sys2Proof.Machine.execJammed s
  | .drain => Sys2Proof.Machine.execDrain s
  | .launched => Sys2Proof.Machine.execLaunched s
  | .start => Sys2Proof.Machine.execStart s
  | .hit => Sys2Proof.Machine.execHit s
  | .mode => Sys2Proof.Machine.execMode s
  | .holdSet => Sys2Proof.Machine.execHoldSet s
  | .holdClear => Sys2Proof.Machine.execHoldClear s
  | .tick => Sys2Proof.Machine.execTick s
  | .holdExpiry => Sys2Proof.Machine.execHoldExpiry s
  | .rollcallEnd => Sys2Proof.Machine.execRollcallEnd s
  | .saveWindowClose => Sys2Proof.Machine.execSaveWindowClose s
  | .modeExpiry => Sys2Proof.Machine.execModeExpiry s
  | .ballEndLimit => Sys2Proof.Machine.execBallEndLimit s
  | .silence => Sys2Proof.Machine.execSilence s
  | .presence => Sys2Proof.Machine.execPresence s
  | .join => Sys2Proof.Machine.execJoin s
  | .tickTimerExpiry => Sys2Proof.Machine.execTickTimerExpiry s
  | .tickClaimBuild => Sys2Proof.Machine.execTickClaimBuild s
  | .presenceClaimBuild => Sys2Proof.Machine.execPresenceClaimBuild s
  | .switchEventTake => Sys2Proof.Machine.execSwitchEventTake s
  | .switchSample pins => Sys2Proof.Machine.execSwitchSample pins s
  | .attnTake => Sys2Proof.Machine.execAttnTake s
  | .refreshTimer => Sys2Proof.Machine.execRefreshTimer s
  | .pendingChangeDue expander input => Sys2Proof.Machine.execPendingChangeDue expander input s
  | .scannerWork attn => Sys2Proof.Machine.execScannerWork attn s
  | .expanderRead first retry attn => Sys2Proof.Machine.execExpanderRead first retry attn s
  | .sweepDue => Sys2Proof.Machine.execSweepDue s
  | .measurementEnd edges => Sys2Proof.Machine.execMeasurementEnd edges s
  | .pulseEnd output => Sys2Proof.Machine.execPulseEnd output s
  | .verifyTimeout output => Sys2Proof.Machine.execVerifyTimeout output s
  | .recycleEnd output => Sys2Proof.Machine.execRecycleEnd output s
  | .ejectRetryTimer slot => Sys2Proof.Machine.execEjectRetryTimer slot s
  | .serveRetryTimer => Sys2Proof.Machine.execServeRetryTimer s
  | .scoopDwellEnd switch => Sys2Proof.Machine.execScoopDwellEnd switch s
  | .attractHalfCycle => Sys2Proof.Machine.execAttractHalfCycle s
  | .noticeSend => Sys2Proof.Machine.execNoticeSend s
  | .attnRelease => Sys2Proof.Machine.execAttnRelease s

end Sys2Proof.Machine
end

