-- ==== Sys2Proof/Machine/Idle.lean ====
section
/-! DEFINITION. Machine/Idle.lean: what the station does of its own while no command waits (log entry 1): local time goes
on, with what its passing brings (R109), and the Table Engine takes the oldest inbound frame (R14). -/

namespace Sys2Proof.Machine

/-- R14: the Table Engine takes the oldest inbound frame, with no application in flight and the replica VALID. -/
def State.takeInFlight (s : State) : State :=
  match s.bus.inbound with
  | f :: rest =>
    if s.isValid ∧ s.eng.inFlight = none ∧ s.eng.loss = none then
      (s.setBus { s.bus with inbound := rest }).setEng { s.eng with inFlight := some f }
    else s
  | [] => s

/-- A microsecond with no command. -/
def State.idle (s : State) : State := (s.passTo (s.now + 1)).takeInFlight

end Sys2Proof.Machine
end

