-- ==== Sys2Proof/Machine/Step.lean ====
section
/-! DEFINITION. Machine/Step.lean: one step of the station: the command at the front of the queue, whole, or a microsecond
without one (log entry 1). -/

namespace Sys2Proof.Machine

/-- One step: the front command is taken and its outcome answered; on an empty queue the station idles. -/
def step (s : State) : Host.Outcome State Fault Refusal :=
  match s.pending with
  | c :: rest => exec c (s.setPending rest)
  | [] => .next s.idle

/-- The state with the command that a word spells by the table put at the front of its queue: the state itself, since no
row of the table gives bits (log entry 26). -/
def State.withFetchWord (s : State) (nbits w : Nat) : State :=
  match decodeTableWord nbits w with
  | some c => s.setPending (c :: s.pending)
  | none => s

end Sys2Proof.Machine
end

