-- ==== Sys2Proof/Safety.lean ====
section
/-! DEFINITION. Safety.lean: the laws that the manual says hold of a station, as predicates over the state, and the words in
which the statements about applications are said. -/

namespace Sys2Proof.Machine

/-! ### Laws of the state -/

/-- R50, the ball law: in a VALID replica, in_play + returning + the number of occupied lock slots is at most balls
installed. -/
def BallLaw (s : State) : Prop := s.isValid = true → s.table.countedTotal ≤ s.table.profile.ballsInstalled

/-- R165: no more outputs are in PULSE than the concurrency limit, and when pairing is set the two outputs of a pair are
never both in PULSE. R163: an attempt is open only at an output in PULSE or VERIFY. -/
def PulseBudget (s : State) : Prop :=
  s.drv.pulsing ≤ s.cfg.concurrency ∧
    (s.cfg.pairing = true → ∀ o : Output, ¬(s.drv.drvPin o = true ∧ s.drv.drvPin (pairOf o) = true)) ∧
    (∀ o : Output, s.drv.outputs[o].attemptOpen = true →
      s.drv.outputs[o].state = .pulse ∨ s.drv.outputs[o].state = .verify)

/-- The capacities of the ordered buffers: the inbound queue (R120), the claim queue (R128), the switch event queue
(R152), the notice FIFO (R182), the history ring (R22), the mode instance table (R11), and the driver request queue, with
at most one request for each output (R164). -/
structure WithinCapacity (s : State) : Prop where
  inbound  : s.bus.inbound.length ≤ Config.inboundCapacity
  claims   : s.claim.queue.length ≤ Config.claimCapacity
  events   : s.sw.events.length ≤ Config.eventCapacity
  notices  : s.rpt.fifo.length ≤ Config.noticeCapacity
  history  : s.eng.history.length ≤ Config.historyCapacity
  modes    : s.table.modes.length ≤ Config.modeTableCapacity
  requests : (s.drv.requests.map Request.output).Nodup

/-- R1's table of station states and replica validity, with the loss of validity that an application in flight holds back
(R3): the frame in flight was taken by a VALID replica, and a loss waits only for such a frame; the sync silence timer
runs, or is held, in SYNCING and only there (R2). -/
structure ReplicaFollowsState (s : State) : Prop where
  unstarted : s.ctl.state = .loading ∨ s.ctl.state = .unconfigured → s.isValid = false
  outside   : s.ctl.state = .syncing ∨ s.ctl.state = .quiet → s.isValid = false ∨ s.eng.loss.isSome = true
  inside    : s.ctl.state = .ready ∨ s.ctl.state = .member ∨ s.ctl.state = .bystander → s.isValid = true
  inFlight  : s.eng.inFlight.isSome = true → s.isValid = true
  loss      : s.eng.loss.isSome = true → s.eng.inFlight.isSome = true
  sync      : s.eng.sync ≠ .stopped ↔ s.ctl.state = .syncing

/-- The order of two claims in the queue (R128): by class, and within a class by creation. -/
def Claim.before (a b : Claim) : Prop :=
  a.cls.code < b.cls.code ∨ (a.cls.code = b.cls.code ∧ a.created < b.created)

/-- R127, R128: the queue is in its order, every claim was created in its turn, at most one claim is IN_FLIGHT, and none
is while this station transmits no frame; the link is DISABLED until the station has been configured (R109). -/
structure ClaimQueueOrdered (s : State) : Prop where
  ordered  : s.claim.queue.Pairwise Claim.before
  distinct : (s.claim.queue.map Claim.created).Nodup
  created  : ∀ c ∈ s.claim.queue, c.created < s.claim.serial
  single   : s.claim.queue.countP Claim.isInFlight ≤ 1
  onWire   : s.transmitting = false → s.claim.queue.countP Claim.isInFlight = 0
  disabled : s.ctl.state = .loading ∨ s.ctl.state = .unconfigured → s.bus.link = .disabled

/-- R53: every HELD slot has the current player as its holder, and there is one only in PLAY (R59). -/
def HeldByCurrent (s : State) : Prop :=
  ∀ (n : Slot) (o : Station) (p : PlayerIx), s.table.slots[n] = .held o p →
    s.table.phase = .play ∧ p = s.table.currentPlayer

/-- R52, last sentence but one: a lock slot is OPEN only while the phase is PLAY, the game is not tilted, multiball is
inactive, and the current player has at least one lock lit. -/
def OpenOnlyWhileLit (t : GameTable) : Prop :=
  ∀ (n : Slot) (o : Station), t.slots[n] = .opened o →
    t.phase = .play ∧ t.tilted = false ∧ t.multiball = false ∧ 0 < t.current.locksLit

/-! ### Local time -/

/-- R109: the state with its local time at `t`: a contender whose last sender bit has been read back by then is SENDING. -/
def atTime (s : State) (t : Nat) : State :=
  { s with
    now := t
    bus := { s.bus with
      link := if s.bus.link = .contending ∧ s.bus.senderPassDue ≤ t then .sending else s.bus.link } }

/-! ### The words of the statements about the configuration image -/

/-- R178: the two-byte number at an offset. -/
def wordAt (img : List Byte) (k : Nat) : Nat := 256 * byteAt img k + byteAt img (k + 1)

/-- R178: the three-byte number at an offset. -/
def tripleAt (img : List Byte) (k : Nat) : Nat := 65536 * byteAt img k + 256 * byteAt img (k + 1) + byteAt img (k + 2)

/-- R176, R12: the four checks of a usable image. -/
structure Usable (img : List Byte) : Prop where
  signature : byteAt img 0 = 0x4D ∧ byteAt img 1 = 0x32
  length    : wordAt img 2 = 520
  check     : wordAt img 4 = (crc16 (img.drop 6)).toNat
  profile   : 1 ≤ byteAt img 410 ∧ byteAt img 410 ≤ 8 ∧ 1 ≤ byteAt img 411 ∧ byteAt img 411 ≤ 5
    ∧ 2 ≤ byteAt img 412 ∧ byteAt img 412 ≤ 4 ∧ wordAt img 413 ≤ 600 ∧ byteAt img 421 ≤ 3

/-- R142, R177: an expander is present: its bit is set and its address is one of seven bits (log entry 16). -/
def ExpanderPresent (img : List Byte) (e : Expander) : Prop :=
  (byteAt img 338).testBit e.val = true ∧ byteAt img (339 + e.val) ≤ 0x7F

/-- R142: a switch is a direct pin or an input of a present expander. -/
def Wired (img : List Byte) (n : Switch) : Prop :=
  n.val < 8 ∨ ∃ e : Expander, n.val / 8 = e.val + 1 ∧ ExpanderPresent img e

/-- R177: the fields of the switch rule at an offset are in range. -/
def RuleInRange (img : List Byte) (k : Nat) : Prop :=
  byteAt img k ≤ 7 ∧ byteAt img (k + 1) / 2 % 4 ≠ 3 ∧ byteAt img (k + 5) ≤ 15
    ∧ (byteAt img (k + 6) ≤ 7 ∨ byteAt img (k + 6) = 0xFF) ∧ byteAt img (k + 7) ≤ 7 ∧ byteAt img (k + 8) ≤ 250

/-- R177: the fields of the driver configuration at an offset are in range. -/
def OutputInRange (img : List Byte) (k : Nat) : Prop :=
  byteAt img k ≤ 3 ∧ byteAt img (k + 1) ≠ 0
    ∧ (byteAt img k = 1 ∨ byteAt img k = 2 → 50 ≤ wordAt img (k + 3) ∧ wordAt img (k + 3) ≤ 1000)

/-- R154: the window and the thresholds of the sensor configuration at an offset are valid. -/
def SensorValid (img : List Byte) (k : Nat) : Prop :=
  1 ≤ byteAt img k ∧ byteAt img k ≤ 8 ∧ wordAt img (k + 1) < wordAt img (k + 3) ∧ wordAt img (k + 3) < 65535

/-- R177: the slot binding of the sensor configuration at an offset is in range: its slot, FFh for none, and its eject
driver. -/
def BindingInRange (img : List Byte) (k : Nat) : Prop :=
  (byteAt img (k + 5) = 0xFF ∨ byteAt img (k + 5) ≤ 7) ∧ byteAt img (k + 6) ≤ 7

/-- R154: the scan list, as it stands after its checks, names a channel. -/
def Scanned (img : List Byte) (ch : Channel) : Prop := ∃ i, i < 4 ∧ i < byteAt img 370 ∧ byteAt img (371 + i) = ch.val

/-- R154: a channel is in use: it is named in the scan list and not disabled. -/
def ChannelInUse (img : List Byte) (ch : Channel) : Prop := Scanned img ch ∧ SensorValid img (342 + 7 * ch.val)

/-- R154: a channel in use binds a slot, with its eject driver, before the lower-numbered channels are looked at. -/
def Binds (img : List Byte) (ch : Channel) (n : Slot) (o : Output) : Prop :=
  ChannelInUse img ch ∧ byteAt img (347 + 7 * ch.val) = n.val ∧ byteAt img (348 + 7 * ch.val) = o.val

/-- R172, R177: the lamp binding at an offset has a source with an argument in its range. -/
def LampInRange (img : List Byte) (k : Nat) : Prop :=
  let code := byteAt img k % 128
  let arg := byteAt img (k + 1)
  code ≤ 9 ∧ (code ≤ 1 → arg ≤ 7) ∧ (code = 2 ∨ code = 5 → 1 ≤ arg ∧ arg ≤ 4)

/-- R73: the fields of the mode definition at an offset are in range. -/
def ModeInRange (img : List Byte) (k : Nat) : Prop :=
  wordAt img (k + 1) ≤ 6000 ∧ 1 ≤ byteAt img (k + 3) ∧ byteAt img (k + 3) ≤ 15 ∧ 1 ≤ byteAt img (k + 4)
    ∧ byteAt img (k + 11) ≤ 3

/-- R131, R142, R177, R178: the rule `r` that switch `n` has by the image. -/
structure SwitchTaken (img : List Byte) (n : Switch) (r : SwitchRule) : Prop where
  unwired : ¬Wired img n → r = SwitchRule.blank
  outside : Wired img n → ¬RuleInRange img (8 + 9 * n.val) →
    r.kind = .none ∧ some r.debounce =
      [Debounce.fast, .normal, .slow, .normal][byteAt img (9 + 9 * n.val) / 2 % 4]?
  inside  : Wired img n → RuleInRange img (8 + 9 * n.val) →
    some r.kind = [RuleKind.none, .score, .start, .tilt, .nudge, .drain, .launchConfirm, .scoop][byteAt img (8 + 9 * n.val)]?
      ∧ r.edge = (if (byteAt img (9 + 9 * n.val)).testBit 0 then .opened else .closed)
      ∧ some r.debounce = [Debounce.fast, .normal, .slow][byteAt img (9 + 9 * n.val) / 2 % 4]?
      ∧ r.lightLock = (byteAt img (9 + 9 * n.val)).testBit 3 ∧ r.jackpot = (byteAt img (9 + 9 * n.val)).testBit 4
      ∧ r.base.toNat = tripleAt img (10 + 9 * n.val) ∧ r.tag.toNat = byteAt img (13 + 9 * n.val)
      ∧ (match r.mode with | some m => m.val | none => 0xFF) = byteAt img (14 + 9 * n.val)
      ∧ r.driver.val = byteAt img (15 + 9 * n.val) ∧ r.dwell = 20 * byteAt img (16 + 9 * n.val)

/-- R162, R177, R178: the configuration `c` that output `o` has by the image; `disabled` for fields out of range. -/
structure OutputTaken (img : List Byte) (o : Output) (c : OutputConfig) : Prop where
  disabled : c.disabled = true ↔ ¬OutputInRange img (296 + 5 * o.val)
  inside   : c.disabled = false →
    some c.role = [DriverRole.general, .eject, .serve, .scoop][byteAt img (296 + 5 * o.val)]?
      ∧ c.pulse = byteAt img (297 + 5 * o.val) ∧ c.recycle = 10 * byteAt img (298 + 5 * o.val)
      ∧ c.verify = wordAt img (299 + 5 * o.val)

/-- R154, R177, R178: the settings `c` that a channel has by the image; of two channels that bind one slot the
lower-numbered keeps the binding. -/
structure ChannelTaken (img : List Byte) (ch : Channel) (c : ChannelConfig) : Prop where
  inUse   : c.inUse = true ↔ ChannelInUse img ch
  numbers : c.window = byteAt img (342 + 7 * ch.val) ∧ c.lower = wordAt img (343 + 7 * ch.val)
    ∧ c.upper = wordAt img (345 + 7 * ch.val)
  binding : ∀ (n : Slot) (o : Output), c.binding = some (n, o) ↔
    Binds img ch n o ∧ ∀ k < ch, ∀ o' : Output, ¬Binds img k n o'

/-- R172, R177, R178: the binding `b` that lamp `n` has by the image. -/
structure LampTaken (img : List Byte) (n : Lamp) (b : LampBinding) : Prop where
  invert  : b.invert = (byteAt img (376 + 2 * n.val)).testBit 7
  outside : ¬LampInRange img (376 + 2 * n.val) → b.source = .none
  slot    : ∀ k : Slot, byteAt img (376 + 2 * n.val) % 128 = 0 → byteAt img (377 + 2 * n.val) = k.val → b.source = .slot k
  mode    : ∀ m : ModeId, byteAt img (376 + 2 * n.val) % 128 = 1 → byteAt img (377 + 2 * n.val) = m.val → b.source = .mode m
  locks   : ∀ v, byteAt img (376 + 2 * n.val) % 128 = 2 → byteAt img (377 + 2 * n.val) = v → 1 ≤ v → v ≤ 4 →
    b.source = .locksLit v
  player  : ∀ p : PlayerIx, byteAt img (376 + 2 * n.val) % 128 = 5 → byteAt img (377 + 2 * n.val) = p.val + 1 →
    b.source = .playerUp p
  others  : ∀ x ∈ [(3, LampSource.multiball), (4, .jackpot), (6, .save), (7, .sweep), (8, .fault), (9, .none)],
    byteAt img (376 + 2 * n.val) % 128 = x.1 → b.source = x.2

/-- R177, R178: the station section `c` that an image gives. -/
structure StationTaken (img : List Byte) (c : StationConfig) : Prop where
  roles       : c.trough = (byteAt img 7).testBit 0 ∧ c.start = (byteAt img 7).testBit 1
  rules       : ∀ n : Switch, SwitchTaken img n c.rules[n]
  outputs     : ∀ o : Output, OutputTaken img o c.outputs[o]
  concurrency : c.concurrency = if 1 ≤ byteAt img 336 ∧ byteAt img 336 ≤ 4 then byteAt img 336 else 1
  pairing     : c.pairing = true ↔ byteAt img 337 ≠ 0
  expanders   : ∀ e : Expander, c.expanders[e] = true ↔ ExpanderPresent img e
  addresses   : ∀ e : Expander, ExpanderPresent img e → c.addresses[e].toNat = byteAt img (339 + e.val)
  scanned     : c.scanList.Nodup ∧ ∀ ch : Channel, ch ∈ c.scanList ↔ Scanned img ch
  inOrder     : c.scanList.Pairwise fun a b =>
    ∃ i, i < 4 ∧ i < byteAt img 370 ∧ byteAt img (371 + i) = a.val ∧ ∀ j, j ≤ i → byteAt img (371 + j) ≠ b.val
  channels    : ∀ ch : Channel, ChannelTaken img ch c.channels[ch]
  period      : c.sweepPeriod = if byteAt img 375 = 2 ∨ byteAt img 375 = 4 then byteAt img 375 else 8
  lamps       : ∀ n : Lamp, LampTaken img n c.lamps[n]

/-- R12, R73, R178: the profile `p` that an image gives; a mode definition out of range is not defined. -/
structure ProfileTaken (img : List Byte) (p : Profile) : Prop where
  numbers : p.ballsInstalled = byteAt img 410 ∧ p.ballsPerGame = byteAt img 411 ∧ p.lockGoal = byteAt img 412
    ∧ p.saveTicks = wordAt img 413 ∧ p.jackpotBase = tripleAt img 415 ∧ p.jackpotStep = tripleAt img 418
    ∧ p.nudgeWarnings = byteAt img 421
  defined : ∀ m : ModeId, p.modes[m].defined = true ↔
    byteAt img (422 + 13 * m.val) ≠ 0 ∧ ModeInRange img (422 + 13 * m.val)
  modes   : ∀ m : ModeId, let k := 422 + 13 * m.val
    p.modes[m] =
      { defined := p.modes[m].defined, duration := wordAt img (k + 1), goalTag := byteAt img (k + 3)
        goalCount := byteAt img (k + 4), perHit := tripleAt img (k + 5), completion := tripleAt img (k + 8)
        group := byteAt img (k + 11), multiply := (byteAt img (k + 12)).testBit 0
        noPause := (byteAt img (k + 12)).testBit 1, carry := (byteAt img (k + 12)).testBit 2
        sweepCounts := (byteAt img (k + 12)).testBit 3, sweepFinal := (byteAt img (k + 12)).testBit 4
        repeats := (byteAt img (k + 12)).testBit 5 }

/-- R177, R154: some field of a usable image is out of range, which sets CONFIG. -/
def OutOfRange (img : List Byte) : Prop :=
  (16 ≤ byteAt img 6 ∧ byteAt img 6 ≠ 0xFF)
    ∨ (∃ n : Switch, Wired img n ∧ ¬RuleInRange img (8 + 9 * n.val))
    ∨ (∃ o : Output, ¬OutputInRange img (296 + 5 * o.val))
    ∨ (byteAt img 336 = 0 ∨ 4 < byteAt img 336)
    ∨ (∃ e : Expander, (byteAt img 338).testBit e.val = true ∧ 0x7F < byteAt img (339 + e.val))
    ∨ (∃ ch : Channel, ¬SensorValid img (342 + 7 * ch.val) ∨ ¬BindingInRange img (342 + 7 * ch.val))
    ∨ (∃ (ch k : Channel) (n : Slot) (o o' : Output), k < ch ∧ Binds img ch n o ∧ Binds img k n o')
    ∨ (byteAt img 370 = 0 ∨ 4 < byteAt img 370)
    ∨ (∃ i, i < 4 ∧ i < byteAt img 370 ∧ (3 < byteAt img (371 + i) ∨ ∃ j < i, byteAt img (371 + j) = byteAt img (371 + i)))
    ∨ (byteAt img 375 ≠ 2 ∧ byteAt img 375 ≠ 4 ∧ byteAt img 375 ≠ 8)
    ∨ (∃ n : Lamp, ¬LampInRange img (376 + 2 * n.val))
    ∨ (∃ m : ModeId, byteAt img (422 + 13 * m.val) ≠ 0 ∧ ¬ModeInRange img (422 + 13 * m.val))

/-! ### The words of the statements about applications -/

/-- A frame's application stands next (R14), under a VALID replica (R15, stage 1). -/
def TakesNext (s : State) (f : Frame) : Prop := s.nextFrame = some f ∧ s.isValid = true

/-- R26: the sender passes the membership gate. -/
def PassesGate (s : State) (f : Frame) : Prop :=
  s.table.phase = .attract ∨ s.table.members[f.sender].state = .member

/-- R23: `f` is a PRESENCE of another station that carries `digest`, and the ring holds `known` at its basis. -/
def Compares (s : State) (f : Frame) (known digest : Word16) : Prop :=
  f.sender ≠ s.ctl.station ∧ ∃ (basis : Word16) (summary : Byte) (e : Word32 × Word16),
    f.payload = .presence basis digest summary ∧ e ∈ s.eng.history ∧ e.1.truncate 16 = basis ∧ e.2 = known

/-- R23: the threshold of the divergence tally. -/
def tallyThreshold (t : GameTable) : Nat :=
  if (t.members.toList.filter fun m => m.state == .member).length = 2 then 1 else 2

/-- A frame's application stands next and leaves the replica VALID: no loss of validity waits behind it (R3), and no
disagreement brings the tally to its threshold (R23). That no two entries of the ring share the low half of their ordinals
is R22's. -/
structure Undisturbed (s : State) (f : Frame) : Prop where
  next   : TakesNext s f
  noLoss : s.eng.loss = none
  ring   : (s.eng.history.map fun e => e.1.truncate 16).Nodup
  agrees : ∀ known digest, Compares s f known digest → known ≠ digest → s.eng.tally + 1 < tallyThreshold s.table

/-- R17, R68: multiball stays active over a table: its end condition does not hold. -/
abbrev MultiballGoesOn (k : GameTable) : Prop :=
  k.multiball = true ∧ ¬(k.inPlay ≤ 1 ∧ k.servePending = 0 ∧ ∀ (n : Slot) (o : Station), k.slots[n] ≠ .releasing o .multiball)

/-- R17, R52: the slots of a table are lit, with multiball as its end condition leaves it. -/
abbrev SlotsLit (k : GameTable) : Prop :=
  k.phase = .play ∧ k.tilted = false ∧ ¬MultiballGoesOn k ∧ 0 < k.players[k.currentPlayer].locksLit

/-- R17, R77: the instances of a table whose modes lack NOPAUSE are paused. -/
abbrev InstancesPaused (k : GameTable) : Prop :=
  (∃ j : Station, k.holds[j] ≠ none) ∨ k.phase = .play ∧ k.inPlay = 0

/-- R17, R16: `after` is the table `k` that a kind stage left, with the multiball ended where its end condition holds, the
DARK and OPEN slots lit or darkened, the pause states set, and the ordinal one higher; nothing else differs. -/
def RecomputedFrom (k after : GameTable) : Prop :=
  after =
    { k with
      ordinal := k.ordinal + 1#32
      multiball := decide (MultiballGoesOn k)
      slots := vmap
        (fun _ r =>
          match r with
          | .dark o | .opened o => if SlotsLit k then .opened o else .dark o
          | r => r)
        k.slots
      modes := k.modes.map fun e =>
        if e.state ≠ .suspended ∧ k.profile.modes[e.mode].noPause = false then
          { e with state := if InstancesPaused k then .paused else .running }
        else e }

/-- R42: the table after the ball-end entry check. -/
def entryChecked (t : GameTable) : GameTable := (Work.ballEndEntryCheck { table := t, notices := [] }).table

/-- R44: the table after the completion check that ends a kind stage. -/
def completionChecked (t : GameTable) : GameTable := (Work.completionCheck { table := t, notices := [] }).table

/-- One slot takes a record. -/
def withSlot (t : GameTable) (n : Slot) (r : SlotRecord) : GameTable :=
  { t with slots := vmap (fun k old => if k = n then r else old) t.slots }

/-- The current player's record is replaced. -/
def withCurrent (t : GameTable) (p : Player) : GameTable :=
  { t with players := vmap (fun k old => if k = t.currentPlayer then p else old) t.players }

/-- What a command that applies a frame leaves unchanged (the frame of the application commands): the waiting commands,
local time, the configuration, the Switch and Sensor Units, the straps, the station number, the listener role, the mask
and the profile digest, the link and its timers, the reception score and the clean run, the mute, yield and STUCK
conditions, and the profile. -/
structure ApplicationFrame (s t : State) : Prop where
  pending : t.pending = s.pending
  now     : t.now = s.now
  cfg     : t.cfg = s.cfg
  sw      : t.sw = s.sw
  sen     : t.sen = s.sen
  ctl     : t.ctl = { s.ctl with state := t.ctl.state, faults := t.ctl.faults }
  bus     : t.bus = { s.bus with inbound := t.bus.inbound }
  profile : t.table.profile = s.table.profile

/-- R19, R20: the table of a refused frame: the refusal record alone is overwritten, with the ordinal of this
application. -/
def refusedWith (t : GameTable) (f : Frame) (r : Reason) : GameTable :=
  { t with
    refusal := some
      { kind := f.payload.kind, sender := f.sender, reason := r, sub := none, ordinal := t.ordinal + 1#32,
        argument := f.payload.argument } }

/-- The notices of one sort among those of an application, one after another, with what each says. `reports` takes a value
from `old` to `new`: each of them changes it, and the last leaves it as it is. -/
def Reports {α : Type} (old : α) (reports : List α) (new : α) : Prop :=
  (old :: reports).IsChain (· ≠ ·) ∧ (old :: reports).getLast? = some new

/-- R182: between `s` and `t` the notices `bodies`, and no others, have been handed over in this order: with the port disabled
none is created; with it enabled each takes the next number and the low half of the ordinal, and those that find fewer than
32 notices in the FIFO join it. -/
def NoticesJoin (s t : State) (bodies : List NoticeBody) : Prop :=
  (s.rpt.enabled = false → t.rpt = s.rpt)
    ∧ (s.rpt.enabled = true → s.rpt.fifo.length ≤ 32 →
        t.rpt = { s.rpt with
          number := s.rpt.number + BitVec.ofNat 8 bodies.length
          fifo := (s.rpt.fifo ++ bodies.zipIdx.map fun x =>
            ({ number := s.rpt.number + BitVec.ofNat 8 x.2, ordinal := s.table.ordinal.truncate 16, body := x.1 }
              : Notice)).take 32 })

/-- The FAULT notice of this station's own set, where the set of `t` differs from that of `s` (R180, R184). -/
def ownFaultNotice (s t : State) : List NoticeBody :=
  if t.ctl.faults = s.ctl.faults then [] else [.fault s.ctl.station t.ctl.faults]

/-- A number in `k` bytes, the most significant first. -/
def bigEndian (k n : Nat) : List Byte := (List.range k).reverse.map fun i => BitVec.ofNat 8 (n / 256 ^ i)

/-- The code of `x` where codes count up from `first` along the list. -/
def codeAlong {α : Type} [BEq α] (first : Nat) (l : List α) (x : α) : Byte := BitVec.ofNat 8 (first + l.idxOf x)

/-- A frame kind's byte in a notice (R106, R184). -/
def kindByte : FrameKind → Byte :=
  codeAlong 0 [.tilt, .nudge, .lock, .lost, .released, .jammed, .drain, .launched, .start, .hit, .mode, .hold, .tick,
    .presence, .join]

/-- The four bytes of a slot record in a LOCK notice: state, owner (FFh absent), holder (0 absent), cause (0 absent) (R21,
R184). -/
def slotBytes (r : SlotRecord) : List Byte :=
  let station := fun k : Station => BitVec.ofNat 8 k.val
  let player := fun p : PlayerIx => BitVec.ofNat 8 (p.val + 1)
  let cause := codeAlong 1 [Cause.multiball, .ballEnd, .clear]
  match r with
  | .absent => [0#8, 0xFF#8, 0#8, 0#8]
  | .dark k => [1#8, station k, 0#8, 0#8]
  | .opened k => [2#8, station k, 0#8, 0#8]
  | .held k p => [3#8, station k, player p, 0#8]
  | .releasing k c => [4#8, station k, 0#8, cause c]
  | .jammed k c => [5#8, station k, 0#8, cause c]
  | .strandedHeld k p => [6#8, station k, player p, 0#8]
  | .strandedReleasing k c => [6#8, station k, 0#8, cause c]

/-- R184, with the codes of R20 and R21: the code of a notice's kind, and its fields in order. Numbers of several bytes have
the most significant first (log entry 43). -/
def noticeLayout (x : NoticeBody) : Nat × List Byte :=
  let one := fun n : Nat => BitVec.ofNat 8 n
  let truth := fun b : Bool => if b then 1#8 else 0#8
  let index := fun o : Option (Fin 8) => match o with | some k => one k.val | none => 0xFF#8
  match x with
  | .start sender => (1, [one sender.val])
  | .phase ph count current ball tilted nudges =>
    (2, [codeAlong 0 [.attract, .rollcall, .play, .ballEnd] ph, one count, one (current.val + 1), one ball, truth tilted,
      one nudges])
  | .score p score total m award jackpot sender sw tag =>
    (3, [one (p.val + 1)] ++ bigEndian 5 score ++ bigEndian 4 total ++ [one m] ++ bigEndian 4 award ++ bigEndian 3 jackpot
      ++ [one sender.val, one sw.val, tag])
  | .balls inPlay returning serves occupied multiball save =>
    (4, [one inPlay, one returning, one serves, one occupied, truth multiball] ++ bigEndian 2 save)
  | .lock n r => (5, [one n.val] ++ slotBytes r)
  | .mode m p report remaining progress sweep =>
    let outcome := match report with
      | .running => 0#8
      | .paused => 1#8
      | .suspended => 2#8
      | .completed => 4#8
      | .expired => 5#8
      | .aborted => 6#8
      | .ended => 7#8
    (6, [one m.val, one (p.val + 1), outcome] ++ bigEndian 2 remaining ++ [one progress, truth sweep])
  | .refused kind sender reason sub argument =>
    (7, [kindByte kind, one sender.val,
      codeAlong 1 [.notPlaying, .tilted, .notMember, .slotState, .noLockLit, .stray, .already, .full, .group, .notQualified,
        .tableFull, .done, .tooLate, .playersFull, .lateJoin, .notHeld, .rollcallFailed] reason,
      codeAlong 0 [none, some .noTrough, some .twoTroughs, some .mismatch] sub, index argument])
  | .member k st declared trough start digest =>
    (8, [one k.val, codeAlong 0 [.absent, .member, .mismatched, .silent] st, declared,
      codeAlong 0 [(false, false), (true, false), (false, true), (true, true)] (trough, start)]
      ++ bigEndian 2 (match digest with | some d => d.toNat | none => 0))
  | .fault k summary => (9, [one k.val, summary])
  | .claimLost kind argument origin cause =>
    let source := match origin with
      | .switch n => [0#8, one n.val]
      | .slot n => [1#8, one n.val]
      | .driver n => [2#8, one n.val]
      | .timer => [3#8, 0xFF#8]
      | .rollcall => [4#8, 0xFF#8]
    (10, [kindByte kind, index argument] ++ source ++ [codeAlong 1 [.displaced, .discarded, .vetoed] cause])
  | .switchLost sw level => (11, [one sw.val, match level with | .opened => 0#8 | .closed => 1#8])

/-- The command answers a next state whose table is `k`, put through the completion check that ends every kind stage
(R44) and then recomputed (R17), and changes nothing that an application leaves unchanged. -/
def Leaves (c : Instr) (s : State) (k : GameTable) : Prop :=
  ∃ t, exec c s = .next t ∧ RecomputedFrom (completionChecked k) t.table ∧ ApplicationFrame s t

/-- The row of the table that applies a frame of a kind. -/
def commandOf (f : Frame) : Instr :=
  match f.payload with
  | .tilt => .tilt
  | .nudge => .nudge
  | .lock _ => .lock
  | .lost _ => .lost
  | .released _ => .released
  | .jammed _ => .jammed
  | .drain => .drain
  | .launched => .launched
  | .start => .start
  | .hit _ _ _ _ => .hit
  | .mode _ => .mode
  | .hold v => if v = 0#8 then .holdClear else .holdSet
  | .tick _ => .tick
  | .presence _ _ _ => .presence
  | .join _ _ _ _ => .join

/-- One membership entry is replaced. -/
def withMember (t : GameTable) (k : Station) (m : Member) : GameTable :=
  { t with members := vmap (fun j old => if j = k then m else old) t.members }

/-- One station's entry of the hold set is replaced. -/
def withHold (t : GameTable) (k : Station) (expiry : Option Word16) : GameTable :=
  { t with holds := vmap (fun j old => if j = k then expiry else old) t.holds }

/-- R102: a player's record with an award added to its score. -/
def awarded (p : Player) (units : Nat) : Player := { p with score := min Config.scoreMax (p.score + units) }

/-- R37: no member is found silent at the tick `now`. -/
def NoneSilent (t : GameTable) (now : Word16) : Prop :=
  ∀ k : Station, t.members[k].state = .member → (now - t.members[k].lastHeard).toNat < Config.silenceTicks

/-! ### The words of the statements about claims -/

/-- R129: what entering the claim `c` makes of the queue `q`, and the claim that is lost by it: none while the queue has
room, else the newest WAITING claim of a later class, displaced, else `c` itself, discarded. -/
def Entered (q : List Claim) (c : Claim) (q' : List Claim) (lost : Option (Claim × LostCause)) : Prop :=
  (q.length < 8 ∧ (∀ d, d ∈ q' ↔ d ∈ q ∨ d = c) ∧ lost = none)
    ∨ (8 ≤ q.length ∧ ∃ v ∈ q, v.state = .waiting ∧ c.payload.cls.code < v.payload.cls.code
        ∧ (∀ d ∈ q, d.state = .waiting → c.payload.cls.code < d.payload.cls.code → d.created ≤ v.created)
        ∧ (∀ d, d ∈ q' ↔ (d ∈ q ∧ d.created ≠ v.created) ∨ d = c) ∧ lost = some (v, .displaced))
    ∨ (8 ≤ q.length ∧ (∀ d ∈ q, d.state = .waiting → d.payload.cls.code ≤ c.payload.cls.code)
        ∧ q' = q ∧ lost = some (c, .discarded))

/-- R131, last sentence: claims entered in their turn, each by R129. `serial` is the number of the next claim created (log
entry 14). -/
def EnteredAll (origin : Origin) : List Payload → List Claim → Nat → List Claim → List (Claim × LostCause) → Prop
  | [], q, _, q', lost => q' = q ∧ lost = []
  | p :: ps, q, serial, q', lost =>
    ∃ (q1 : List Claim) (first : Option (Claim × LostCause)) (rest : List (Claim × LostCause)),
      Entered q { payload := p, state := .waiting, attempts := 0, origin := origin, created := serial } q1 first
        ∧ EnteredAll origin ps q1 (if first.map Prod.snd = some .discarded then serial else serial + 1) q' rest
        ∧ lost = first.toList ++ rest

/-- The number of LAUNCHED claims in a queue. -/
def launchedIn (q : List Claim) : Nat := (q.filter fun c => c.payload == .launched).length

/-- R170: of the Driver Unit only the launches unapplied have moved, by 1 down, not below 0, for each LAUNCHED claim that has
left the queue. -/
def LaunchesFollow (s t : State) : Prop :=
  t.drv = { s.drv with
    serve := { s.drv.serve with
      launches := s.drv.serve.launches - (launchedIn s.claim.queue - launchedIn t.claim.queue) } }

/-- R55: the station is the trough member of its VALID replica. -/
abbrev TroughMember (s : State) : Prop :=
  s.isValid = true ∧ s.table.phase ≠ .attract ∧ s.table.members[s.ctl.station].state = .member
    ∧ s.table.members[s.ctl.station].trough = true

/-- R168, R140, R130: in `t` the JAMMED of a slot is there that the Driver Unit has asked for in `s`, where the station may
build it and the slot is RELEASING and the queue has room: built now with origin DRIVER, unless one was there. -/
def JammedAsked (s t : State) (n : Slot) : Prop :=
  s.ctl.state = .member → s.ctl.listener = false → s.bus.muted = false → s.isValid = true →
    (∃ (k : Station) (c : Cause), s.table.slots[n] = .releasing k c) → s.claim.queue.length < 8 →
    ∃ c ∈ t.claim.queue, c.payload = .jammed n
      ∧ ((∀ d ∈ s.claim.queue, d.payload ≠ .jammed n) → c.origin = .driver n ∧ c.state = .waiting ∧ c.attempts = 0)

/-! ### The words of the statements about duties -/

/-- What an end of a Driver Unit timer leaves unchanged: the waiting commands, the table, the Table Engine, the Switch and
Sensor Units, the configuration, Station Control but for the fault DRIVE, the bus but for R109's passing of time, and the
tick timer, the presence count and the latches. -/
structure DriverFrame (s t : State) : Prop where
  pending : t.pending = s.pending
  table   : t.table = s.table
  eng     : t.eng = s.eng
  sw      : t.sw = s.sw
  sen     : t.sen = s.sen
  cfg     : t.cfg = s.cfg
  bus     : t.bus = (atTime s t.now).bus
  ctl     : t.ctl = { s.ctl with faults := t.ctl.faults }
  faults  : t.ctl.faults &&& 0xBF#8 = s.ctl.faults &&& 0xBF#8
  claim   : t.claim = { s.claim with queue := t.claim.queue, serial := t.claim.serial }

/-- R163: the output has entered RECYCLE now, for its recycle time. -/
def Recycles (t : State) (o : Output) : Prop :=
  t.drv.outputs[o] =
    { state := .recycle, duty := none, attemptOpen := false, due := t.now + t.cfg.outputs[o].recycle * Config.ms }

/-- R163: the output is past its recycle: IDLE with no request for it, QUEUED with one, or in the pulse that the arbiter
has granted. -/
def PassedOn (t : State) (o : Output) : Prop :=
  t.drv.outputs[o].state = .idle ∧ (∀ q ∈ t.drv.requests, q.output ≠ o)
    ∨ t.drv.outputs[o].state = .queued ∧ (∃ q ∈ t.drv.requests, q.output = o)
    ∨ ∃ id, t.drv.outputs[o] =
        { state := .pulse, duty := some id, attemptOpen := true
          due := t.now + t.cfg.outputs[o].pulse * Config.ms }

/-- R163: the output that `s` has behind its pulse or its verification: it recycles, and a recycle of 0 passes straight on.
(That a queue holds one request for each output is kept: CapacitiesKept.) -/
def GoesOn (s t : State) (o : Output) : Prop :=
  (0 < s.cfg.outputs[o].recycle → Recycles t o)
    ∧ (s.cfg.outputs[o].recycle = 0 → (s.drv.requests.map Request.output).Nodup → PassedOn t o)

/-- R164, R177: no request for the output can be entered: it is disabled, one waits already, or it is in PULSE or VERIFY. -/
def OutputTakenUp (s : State) (o : Output) : Prop :=
  s.cfg.outputs[o].disabled = true ∨ (∃ r ∈ s.drv.requests, r.output = o)
    ∨ s.drv.outputs[o].state = .pulse ∨ s.drv.outputs[o].state = .verify

/-- A request of the duty waits. -/
def RequestWaits (s : State) (id : DutyId) : Prop := ∃ r ∈ s.drv.requests, r.duty = id

/-- An attempt of the duty is open. -/
def AttemptOpen (s : State) (id : DutyId) : Prop :=
  ∃ o : Output, s.drv.outputs[o].attemptOpen = true ∧ s.drv.outputs[o].duty = some id

/-- R165: a grant of the output is within the budget: fewer outputs are in PULSE than the limit, and with pairing set the
other one of its pair is not. -/
def WithinBudget (s : State) (o : Output) : Prop :=
  (s.drv.outputs.toList.filter fun r => r.state == .pulse).length < s.cfg.concurrency
    ∧ (s.cfg.pairing = true → ∀ k : Output, k ≠ o → k.val / 2 = o.val / 2 → s.drv.outputs[k].state ≠ .pulse)

/-- R171: the SCOOP_KICK `x` of a switch at the end of its output's recycle, which reads the switch: OPEN, or after the third
pulse, it ends; CLOSED, it asks again with no dwell. -/
def ScoopReads (s t : State) (n : Switch) (x : ScoopDuty) : Prop :=
  (s.sw.levels[n] = .opened ∨ 3 ≤ x.pulses → t.drv.scoops[n] = none)
    ∧ (s.sw.levels[n] = .closed → x.pulses < 3 →
        ∃ y, t.drv.scoops[n] = some y ∧ y.driver = x.driver ∧ y.dwellDue = x.dwellDue ∧ y.await = false
          ∧ (y.want = true ∨ RequestWaits t (.scoop n) ∨ x.pulses < y.pulses))

/-- R164 to R170: how the duties, their requests and the outputs stand behind a derivation. -/
structure DutiesStand (s : State) : Prop where
  /-- R166: the eject duty of a slot bound by a channel in use. -/
  ejects : ∀ (n : Slot) (ch : Channel) (o : Output), s.cfg.boundTo n = some (ch, o) →
    let present := s.sen.channels[ch].state = .present
    let kind := s.drv.ejects[n].map EjectDuty.kind
    let releasing := s.isValid = true ∧ s.table.slots[n].owner = some s.ctl.station
      ∧ ∃ c, s.table.slots[n] = .releasing s.ctl.station c ∨ s.table.slots[n] = .jammed s.ctl.station c
    let bouncing := s.isValid = true ∧ s.drv.bounce[n] = true ∧ s.claim.reject[n] = true ∧ present
      ∧ ∃ k, s.table.slots[n] = .dark k ∨ s.table.slots[n] = .opened k
    (releasing → kind = some .release) ∧ (¬releasing → bouncing → kind = some .bounce)
      ∧ (¬releasing → ¬bouncing → s.isValid = true → s.table.phase = .attract → present → kind = some .clear)
      ∧ (¬releasing → ¬bouncing → ¬(s.isValid = true ∧ s.table.phase = .attract ∧ present) → kind = none)
  /-- R166: an unbound slot has no duty. -/
  unbound : ∀ n : Slot, s.cfg.boundTo n = none → s.drv.ejects[n] = none
  /-- R167, R168: an eject duty that wants its pulse and whose channel is PRESENT has asked for it, or its output is taken
  up; `await` is the wait for the output to recycle. -/
  asks : ∀ (n : Slot) (ch : Channel) (o : Output) (x : EjectDuty), s.cfg.boundTo n = some (ch, o) →
    s.drv.ejects[n] = some x → s.sen.channels[ch].state = .present →
    (x.phase = .attempting ∧ x.count < 3 ∧ x.await = .no ∨ x.phase = .retrying ∧ x.want = true) →
    RequestWaits s (.eject n) ∨ AttemptOpen s (.eject n) ∨ OutputTakenUp s o
  /-- R167: with its channel not PRESENT it asks for nothing. -/
  silent : ∀ (n : Slot) (ch : Channel) (o : Output), s.cfg.boundTo n = some (ch, o) → s.drv.ejects[n].isSome = true →
    s.sen.channels[ch].state ≠ .present → ¬RequestWaits s (.eject n)
  /-- R166: the SERVE duty. -/
  serve : s.drv.serve.holds = true ↔
    s.isValid = true ∧ s.table.phase ≠ .attract ∧ s.table.members[s.ctl.station].state = .member
      ∧ s.table.members[s.ctl.station].trough = true ∧ 0 < s.table.servePending
  /-- R170: a SERVE duty that wants a pulse has asked for it, or its output is taken up; `o` is the lowest-numbered usable
  output of role SERVE. -/
  serves : ∀ o : Output, s.cfg.outputs[o].role = .serve → s.cfg.outputs[o].disabled = false →
    (∀ k < o, s.cfg.outputs[k].role ≠ .serve ∨ s.cfg.outputs[k].disabled = true) →
    s.drv.serve.holds = true → s.drv.serve.launches < s.table.servePending → s.drv.serve.await = false →
    (s.drv.serve.failed < 3 ∨ s.drv.serve.retryReady = true) →
    RequestWaits s .serve ∨ AttemptOpen s .serve ∨ OutputTakenUp s o
  /-- R171: a scoop that wants its pulse has asked for it, or its driver is taken up. -/
  scoops : ∀ (n : Switch) (x : ScoopDuty), s.drv.scoops[n] = some x → x.want = true → OutputTakenUp s x.driver
  /-- R165: no request that waits meets the three conditions of a grant. -/
  granted : ∀ r ∈ s.drv.requests, s.drv.outputs[r.output].state = .queued → ¬WithinBudget s r.output

end Sys2Proof.Machine
end

