-- ==== Sys2Proof/Certificates/Slice0/Obligations.lean ====
section
/-! DEFINITION. Certificates/Slice0/Obligations.lean: the statements for the provers. Names of the log entries stand where a
statement rests on one. -/

open Sys2Proof Sys2Proof.Machine

/-! ### Steps, reset and start-up -/

/-- A step takes the command at the front of the queue and runs it on the state with the queue's rest. -/
def Obligations.StepRunsFrontCommand : Prop :=
  ∀ (c : Instr) (rest : List Instr) (s : State), s.pending = c :: rest → step s = exec c { s with pending := rest }

/-- The model's own choice (log entry 1): on an empty queue a microsecond passes, a contender whose last sender bit has
been read back is SENDING (R109), and the Table Engine takes the oldest inbound frame if it may (R14). -/
def Obligations.EmptyQueueIdles : Prop :=
  ∀ s : State, s.pending = [] →
    let takes := s.isValid = true ∧ s.eng.inFlight = none ∧ s.eng.loss = none
    step s = .next
      { s with
        now := s.now + 1
        bus := { s.bus with
          link := if s.bus.link = .contending ∧ s.bus.senderPassDue ≤ s.now + 1 then .sending else s.bus.link
          inbound := if takes then s.bus.inbound.drop 1 else s.bus.inbound }
        eng := { s.eng with inFlight := if takes then s.bus.inbound.head? else s.eng.inFlight } }

/-- The laws that every step keeps hold at reset. -/
def Obligations.LawsHoldAtReset : Prop :=
  ReplicaFollowsState State.reset ∧ BallLaw State.reset ∧ PulseBudget State.reset ∧ WithinCapacity State.reset
    ∧ ClaimQueueOrdered State.reset ∧ HeldByCurrent State.reset ∧ OpenOnlyWhileLit State.reset.table

/-- The values that the manual states for device reset, and DEVICE_RESET: every block at its reset values, the straps and
the listener role as sampled. That the waiting commands and the count of the free values stay is the model's choice (log
entries 2 and 31). -/
def Obligations.DeviceReset : Prop :=
  (let s := State.reset
   s.pending = [] ∧ s.ctl.state = .loading ∧ s.ctl.faults = 0#8 ∧ s.fltLow = false
     ∧ s.table = GameTable.attractDefaults s.table.profile
     ∧ s.isValid = false ∧ s.eng.sync = .stopped ∧ s.eng.history = [] ∧ s.eng.tally = 0 ∧ s.eng.inFlight = none
     ∧ s.bus.link = .disabled ∧ s.bus.stuck = false ∧ s.bus.yielding = false ∧ s.bus.muted = false
     ∧ s.bus.score = 0 ∧ s.bus.cleanRun = 0 ∧ s.bus.inbound = []
     ∧ s.claim.queue = [] ∧ s.claim.tickTimer = .stopped ∧ s.claim.presence = 0
     ∧ (∀ n : Slot, s.claim.reject[n] = false)
     ∧ s.unitsRun = false ∧ s.sw.events = [] ∧ s.sw.scan = .idle ∧ s.sw.refresh = true ∧ s.sw.attention = false
     ∧ (∀ c : Channel, s.sen.channels[c].state = .unknown)
     ∧ s.drv.requests = [] ∧ (∀ o : Output, s.drv.outputs[o].state = .idle ∧ s.drv.drvPin o = false)
     ∧ (∀ n : Slot, s.drv.ejects[n] = none) ∧ (∀ n : Switch, s.drv.scoops[n] = none)
     ∧ (∀ n : Lamp, s.lamp.levels[n] = false)
     ∧ s.rpt.enabled = false ∧ s.rpt.fifo = [] ∧ s.rpt.number = 0#8)
  ∧ ∀ (straps : BitVec 4) (low : Bool) (s : State),
    exec (.deviceReset straps low) s = .next
        { State.reset with
          pending := s.pending
          bus := { Bus.reset with contentions := s.bus.contentions }
          ctl := { Control.reset with straps := straps, station := strapNumber straps, listener := low } }
      ∧ (strapNumber straps).val = straps.toNat

/-- CONFIGURATION_READ: the bytes the station sends on CMOSI, with CCS# high behind them; the image as read, FFh where
nothing drives the line (the filling of a read the outside cuts short: log entry 4); the four checks; what a usable image
gives, each field of R177's table as it says, and R2's timer started, or held at 0 with STUCK set (log entry 29); the station
UNCONFIGURED by an image that is not usable. Outside LOADING there is no read (log entry 5); an expander taken as not present
for its address counts as not present (log entry 16); the checks of an absent binding's driver and of undefined flag bits are
log entries 17 and 18. The time of the read is not added to local time: log entry 28. What R143 and R155 leave open of the
units' values at their start is log entries 2, 6, 37, 38 and 42. -/
def Obligations.ConfigurationRead : Prop :=
  ∀ (image : List Byte) (s : State),
    let img := fullImage image
    let port : MemoryPort := { selected := false, sent := [0x03#8, 0x00#8, 0x00#8, 0x00#8], clocked := 526 }
    (img.length = 526 ∧ ∀ k, k < 526 → img.getD k 0xFF#8 = image.getD k 0xFF#8)
    ∧ (imageUsable img = true ↔ Usable img)
    ∧ (s.ctl.state ≠ .loading → exec (.configurationRead image) s = .next s)
    ∧ (s.ctl.state = .loading → ¬Usable img →
        ∃ t, exec (.configurationRead image) s = .next t
          ∧ t.ctl = { s.ctl with
              state := .unconfigured, mask := 0xFF#8, faults := s.ctl.faults ||| 0x01#8, memory := port }
          ∧ t.fltLow = true ∧ (∀ n : Lamp, t.lamp.levels[n] = false)
          ∧ t = { s with ctl := t.ctl, lamp := t.lamp, rpt := t.rpt })
    ∧ (s.ctl.state = .loading → s.isValid = false → Usable img →
        ∃ t, exec (.configurationRead image) s = .next t
          ∧ t.ctl.state = .syncing ∧ t.ctl.memory = port
          ∧ t.ctl.station.val = (if byteAt img 6 < 16 then byteAt img 6 else s.ctl.station.val)
          ∧ t.ctl.mask.toNat = byteAt img 408 ∧ t.ctl.profileDigest = crc16 (img.drop 410)
          ∧ (OutOfRange img → t.ctl.faults = s.ctl.faults ||| 0x01#8)
          ∧ (¬OutOfRange img → t.ctl.faults = s.ctl.faults)
          ∧ StationTaken img t.cfg ∧ ProfileTaken img t.table.profile
          ∧ t.table = { s.table with profile := t.table.profile }
          ∧ t.bus = { s.bus with
              link := .idle, busFree := false, freeDue := s.now + Config.sixteenBitTimes }
          ∧ t.eng = { s.eng with sync := if s.bus.stuck then .held 0 else .running s.now }
          ∧ t.sw = SwitchUnit.started s.now ∧ t.sen = SensorUnit.started s.now
          ∧ (∀ o : Output, t.drv.drvPin o = false) ∧ t.drv.requests = []
          ∧ t.rpt.enabled = (byteAt img 409 != 0) ∧ t.now = s.now ∧ t.pending = s.pending)

/-! ### The bus -/

/-- R110 to R112, R109: BUS_FREE and YIELD_TIMEOUT, CONTENTION and START_MARK, and the link of a contender: SENDING once its
last sender bit has been read back, at whatever time that is (a free value: log entry 31), here where TICK_TIMER_EXPIRY moves
local time; the statements about the other commands that move it say the same of them (atTime). (That BUS_FREE and START_MARK
wait while an end mark is awaited, R118, or STUCK is set, R124, is log entry 13; that the end of a bus time moves local time
to it is log entry 2, that an event without its condition changes nothing log entry 5.) -/
def Obligations.FrameBegins : Prop :=
  (∀ s : State,
    (s.bus.link = .idle → s.bus.busFree = false → s.bus.awaitEnd = false → s.bus.stuck = false →
      exec .busFree s = .next
        { s with
          now := max s.now s.bus.freeDue
          bus := { s.bus with busFree := true, freeAt := max s.now s.bus.freeDue } })
    ∧ (s.bus.link ≠ .idle ∨ s.bus.busFree = true ∨ s.bus.awaitEnd = true ∨ s.bus.stuck = true →
      exec .busFree s = .next s)
    ∧ (s.bus.busFree = true → s.bus.yielding = true →
      let u := atTime s (max s.now (s.bus.freeAt + Config.sixteenBitTimes))
      exec .yieldTimeout s = .next { u with bus := { u.bus with yielding := false } })
    ∧ (s.bus.busFree = false ∨ s.bus.yielding = false → exec .yieldTimeout s = .next s))
  ∧ (∀ s : State,
    (∀ c : Claim, s.bus.link = .idle → s.bus.busFree = true → s.ctl.listener = false → s.ctl.state ≠ .quiet →
      s.bus.muted = false → s.bus.stuck = false → s.bus.yielding = false → s.headClaim = some c →
      exec .contention s = .next
        { s with
          claim := { s.claim with queue := setClaimState c (.inFlight false) s.claim.queue }
          bus := { s.bus with
            link := .contending, busFree := false, stray := false
            senderPassDue := s.now + Config.senderFieldTime + Config.senderStretch s.bus.contentions
            contentions := s.bus.contentions + 1 } })
    ∧ (s.bus.link ≠ .idle ∨ s.bus.busFree = false ∨ s.ctl.listener = true ∨ s.ctl.state = .quiet
        ∨ s.bus.muted = true ∨ s.bus.stuck = true ∨ s.bus.yielding = true ∨ s.headClaim = none →
      exec .contention s = .next s)
    ∧ (s.bus.link = .idle → s.bus.awaitEnd = false → s.bus.stuck = false →
      exec .startMark s = .next { s with bus := { s.bus with link := .receiving, busFree := false, stray := false } })
    ∧ (s.bus.link ≠ .idle ∨ s.bus.awaitEnd = true ∨ s.bus.stuck = true → exec .startMark s = .next s))
  ∧ (∀ (s : State) (due : Nat), s.bus.link = .contending → s.claim.tickTimer = .running due →
      ∃ t, exec .tickTimerExpiry s = .next t ∧ t.now = max s.now due
        ∧ t.bus.link = (if s.bus.senderPassDue ≤ t.now then .sending else .contending))

/-- ARBITRATION_LOST and CUT: the claim IN_FLIGHT is WAITING again with no attempt counted, or is removed where a flush has
reached it; nothing is scored. (An event whose condition does not hold changes nothing: log entry 5; that CUT is taken in
CONTENDING as in SENDING is log entry 12. That the bus can be free 2 bit times from the cut also within the 16 bit times of
R110, and that the end of the wait for a missing end mark keeps the later of the two times, is log entry 41.) -/
def Obligations.FrameGivenUp : Prop :=
  ∀ s : State,
    (∀ c : Claim, s.inFlightClaim = some c → c.state = .inFlight false →
      (s.bus.link = .contending →
        exec .arbitrationLost s = .next
          { s with
            claim := { s.claim with queue := setClaimState c .waiting s.claim.queue }
            bus := { s.bus with link := .receiving } })
      ∧ (s.transmitting = true →
        exec .cut s = .next
          { s with
            claim := { s.claim with queue := setClaimState c .waiting s.claim.queue }
            bus := { s.bus with
              link := .idle, busFree := false, freeDue := s.now + Config.freeAfterFrame, stray := false } }))
    ∧ (∀ c : Claim, s.inFlightClaim = some c → c.state = .inFlight true →
      (s.bus.link = .contending →
        ∃ t, exec .arbitrationLost s = .next t ∧ t.claim.queue = removeClaim c s.claim.queue
          ∧ t.bus = { s.bus with link := .receiving } ∧ LaunchesFollow s t)
      ∧ (s.transmitting = true →
        ∃ t, exec .cut s = .next t ∧ t.claim.queue = removeClaim c s.claim.queue
          ∧ t.bus = { s.bus with
              link := .idle, busFree := false, freeDue := s.now + Config.freeAfterFrame, stray := false }
          ∧ LaunchesFollow s t))
    ∧ (s.bus.link = .receiving →
      exec .cut s = .next
        { s with
          bus := { s.bus with
            link := .idle, busFree := false, freeDue := s.now + Config.freeAfterFrame, stray := false } })
    ∧ (s.inFrame = false → s.bus.awaitEnd = true →
      exec .cut s = .next
        { s with
          bus := { s.bus with
            awaitEnd := false, busFree := false
            freeDue := max s.bus.freeDue (s.now + Config.freeAfterFrame) } })
    ∧ (s.bus.link ≠ .contending → exec .arbitrationLost s = .next s)
    ∧ (s.inFrame = false → s.bus.awaitEnd = false → exec .cut s = .next s)

/-- LATE_LOSS: the station receives on, is muted, reports DUPLICATE and keeps no WAITING claim; a MEMBER becomes
BYSTANDER. (DRIVE, the fault of bit 6, may be judged anew by the Driver Unit's derivation.
An event whose condition does not hold changes nothing: log entry 5; that LATE_LOSS is taken in CONTENDING as in SENDING is
log entry 12.) -/
def Obligations.LateLoss : Prop :=
  ∀ s : State,
    (s.transmitting = true →
      ∃ t, exec .lateLoss s = .next t
        ∧ t.bus = { s.bus with link := .receiving, muted := true }
        ∧ t.ctl = { s.ctl with
            faults := t.ctl.faults
            state := if s.ctl.state = .member then .bystander else s.ctl.state }
        ∧ t.ctl.faults &&& 0xBF#8 = (s.ctl.faults ||| 0x02#8) &&& 0xBF#8
        ∧ (∀ c ∈ t.claim.queue, c.state ≠ .waiting)
        ∧ t.claim.reject = s.claim.reject
        ∧ t = { s with bus := t.bus, ctl := t.ctl, claim := t.claim, drv := t.drv, lamp := t.lamp, rpt := t.rpt })
    ∧ (s.transmitting = false → exec .lateLoss s = .next s)

/-- R117. A stray mark is recorded and the frame goes on, and at its end a receiver that checks frames vetoes. (That the
veto slot is judged and driven at the end mark, in one step with it, is log entry 11; outside a frame the event changes
nothing: log entry 5.) -/
def Obligations.StrayMark : Prop :=
  ∀ s : State,
    (s.inFrame = true → exec .strayMark s = .next { s with bus := { s.bus with stray := true } })
    ∧ (s.inFrame = false → exec .strayMark s = .next s)
    ∧ (∀ (bits : List Bool) (vetoedByOther : Bool), s.bus.link = .receiving → s.bus.stray = true →
        s.checksFrames = true →
        ∃ t, exec (.endMark bits vetoedByOther) s = .next t ∧ t.bus.vetoDriven = true
          ∧ (t.bus.inbound = s.bus.inbound ∨ t.bus.inbound = []))

/-- END_MARK of a frame that a station checking frames finds sound and has room for, and that no other station vetoes:
the frame is appended, the score falls by 1, and the transmitter's claim is ACCEPTED, or removed where a flush has reached
it; a TICK restarts R2's timer, or holds it at 0 with STUCK set (log entry 29). (That the veto slot and the end mark are one
step, so that the room is judged at the end mark, is log entry 11; that a transmitter's frame ends in CONTENDING as in SENDING
is log entry 12; the number that an ACCEPTED claim takes, the order of acceptance, is log entry 15; that a frame ended within
16 bit times of entering IDLE or of STUCK's end leaves the bus free 2 bit times later is log entry 41.) -/
def Obligations.FrameAccepted : Prop :=
  ∀ (bits : List Bool) (s : State) (g : Frame), s.inFrame = true → s.checksFrames = true → s.sound bits = true →
    s.readFrame bits = some g → s.bus.inbound.length < 4 →
    ∃ t, exec (.endMark bits false) s = .next t
      ∧ t.bus = { s.bus with
          link := .idle, busFree := false, freeDue := s.now + Config.freeAfterFrame, awaitEnd := false, stray := false
          yielding := if s.transmitting then true
            else if rxSender bits = s.ctl.station then s.bus.yielding else false
          score := s.bus.score - 1, vetoDriven := false
          inbound := s.bus.inbound ++ [g] }
      ∧ t.eng = { s.eng with
          sync := if g.payload.isTick = true ∧ s.eng.sync ≠ .stopped then
              (if s.bus.stuck then .held 0 else .running s.now)
            else s.eng.sync }
      ∧ (s.transmitting = false → t.claim = s.claim ∧ t.drv = s.drv) ∧ LaunchesFollow s t
      ∧ (∀ c : Claim, s.transmitting = true → s.inFlightClaim = some c → c.state = .inFlight false →
          t.claim.queue = setClaimState c (.accepted s.claim.serial) s.claim.queue)
      ∧ (∀ c : Claim, s.transmitting = true → s.inFlightClaim = some c → c.state = .inFlight true →
          t.claim.queue = removeClaim c s.claim.queue)
      ∧ t = { s with bus := t.bus, eng := t.eng, claim := t.claim, drv := t.drv }

/-- END_MARK of a vetoed frame and MISSING_END_MARK, where no entry to QUIET follows: nothing is appended, the score rises
by 4 exactly for this station's CRC, FORMAT or framing veto or a missing end mark, the yield condition is set by a frame of
this station's own and cleared by another's, and the transmitter's claim counts an attempt, the fourth of which drops it, or
is removed where a flush has reached it; a LAUNCHED that leaves the queue lowers the launches unapplied (R170). In QUIET the
frame's end counts clean frames and nothing else. An END_MARK ends the wait that a missing one leaves. (That the clean-run
count stays at 128 until QUIET_EXIT is log entry 44; the bus free 2 bit times later, also within the 16 bit times of R110, is
log entry 41. That the veto slot and the end mark are one step is log entry 11; that a transmitter's frame
ends in CONTENDING as in SENDING is log entry 12; an event without its condition: log entry 5.) -/
def Obligations.FrameVetoed : Prop :=
  ∀ (bits : List Bool) (vetoedByOther : Bool) (s : State),
    let ended := fun b : Bus => { b with
      link := .idle, busFree := false, freeDue := s.now + Config.freeAfterFrame, stray := false
      yielding := if s.transmitting then true else if rxSender bits = s.ctl.station then s.bus.yielding else false }
    let counted := fun (t : State) =>
      (s.transmitting = false → t.claim = s.claim)
      ∧ (∀ c : Claim, s.transmitting = true → s.inFlightClaim = some c → c.state = .inFlight false →
          t.claim.queue =
            if c.attempts + 1 < 4 then
              s.claim.queue.map fun d =>
                if d.created = c.created then { d with state := .waiting, attempts := d.attempts + 1 } else d
            else removeClaim c s.claim.queue)
      ∧ (∀ c : Claim, s.transmitting = true → s.inFlightClaim = some c → c.state = .inFlight true →
          t.claim.queue = removeClaim c s.claim.queue)
      ∧ LaunchesFollow s t
      ∧ t = { s with bus := t.bus, claim := t.claim, drv := t.drv, rpt := t.rpt }
    (s.inFrame = true → s.slotDominant bits vetoedByOther = true →
      (s.checksFrames = true → s.sound bits = false → s.bus.score + 4 < 32) →
      ∃ t, exec (.endMark bits vetoedByOther) s = .next t ∧ counted t
        ∧ t.bus = { ended s.bus with
            awaitEnd := false, vetoDriven := s.drivesVeto bits
            score := if s.checksFrames = true ∧ s.sound bits = false then s.bus.score + 4 else s.bus.score
            cleanRun := if s.ctl.state = .quiet then if s.sound bits then min 128 (s.bus.cleanRun + 1) else 0
              else s.bus.cleanRun })
    ∧ (s.inFrame = true → (s.checksFrames = true → s.bus.score + 4 < 32) →
      ∃ t, exec (.missingEndMark bits) s = .next t ∧ counted t
        ∧ t.bus = { ended s.bus with
            awaitEnd := true, vetoDriven := s.drivesVeto bits
            score := if s.checksFrames = true then s.bus.score + 4 else s.bus.score
            cleanRun := if s.ctl.state = .quiet then 0 else s.bus.cleanRun })
    ∧ (s.bus.link = .receiving → s.ctl.state = .quiet → s.ctl.listener = false →
      exec (.endMark bits vetoedByOther) s = .next
        { s with
          bus := { ended s.bus with
            awaitEnd := false, vetoDriven := false
            cleanRun := if s.sound bits then min 128 (s.bus.cleanRun + 1) else 0 } })
    ∧ (s.inFrame = false → s.bus.awaitEnd = true →
      exec (.endMark bits vetoedByOther) s = .next
        { s with
          bus := { s.bus with
            awaitEnd := false, busFree := false
            freeDue := max s.bus.freeDue (s.now + Config.freeAfterFrame) } })
    ∧ (s.inFrame = false → s.bus.awaitEnd = false → exec (.endMark bits vetoedByOther) s = .next s)
    ∧ (s.inFrame = false → exec (.missingEndMark bits) s = .next s)

/-- R121 to R123: a raise that brings the score to 32 takes a station, receiving or transmitting, into QUIET: with no
application in flight its replica is UNKNOWN at once, with one in flight the loss waits for it (R3). QUIET_EXIT ends QUIET and
starts R2's timer, or holds it at 0 with STUCK set (log entry 29). Frames are checked "from the next start mark", so it is
taken between frames only (log entry 44). (DRIVE, bit 6, may be judged anew by the derivation at the
change of station state. The veto slot and the end mark as one step: log entry 11. That a transmitter's frame ends in
CONTENDING as in SENDING is log entry 12. An event without its condition: log entry 5.) -/
def Obligations.QuietEntryAndExit : Prop :=
  (∀ (c : Instr) (bits : List Bool) (v : Bool) (s : State), s.inFrame = true → s.checksFrames = true →
    28 ≤ s.bus.score → (c = .endMark bits v ∧ s.sound bits = false ∨ c = .missingEndMark bits) →
    ∃ t, exec c s = .next t ∧ t.ctl.state = .quiet ∧ t.hasFault .quiet = true ∧ t.bus.cleanRun = 0
      ∧ t.bus.score = min 255 (s.bus.score + 4) ∧ t.bus.link = .idle ∧ t.table = s.table
      ∧ t.claim.tickTimer = .stopped ∧ (∀ d ∈ t.claim.queue, d.state ≠ .waiting)
      ∧ (s.eng.inFlight = none →
          t.isValid = false ∧ t.bus.inbound = [] ∧ t.eng.history = [] ∧ t.eng.tally = 0
            ∧ (∀ d ∈ t.claim.queue, d.isAccepted = false))
      ∧ (s.eng.inFlight.isSome = true →
          t.eng.replica = s.eng.replica ∧ t.eng.inFlight = s.eng.inFlight ∧ t.eng.loss = some .quiet))
  ∧ (∀ s : State,
    (s.ctl.state = .quiet → s.bus.link = .idle → 128 ≤ s.bus.cleanRun →
      ∃ t, exec .quietExit s = .next t
        ∧ t.ctl = { s.ctl with state := .syncing, faults := t.ctl.faults }
        ∧ t.ctl.faults &&& 0xBF#8 = s.ctl.faults &&& 0xBB#8
        ∧ t.bus = { s.bus with score := 0, cleanRun := 0 }
        ∧ t.eng = { s.eng with sync := if s.bus.stuck then .held 0 else .running s.now }
        ∧ t.table = s.table ∧ t.cfg = s.cfg ∧ t.sw = s.sw ∧ t.sen = s.sen ∧ t.now = s.now)
    ∧ (s.ctl.state ≠ .quiet ∨ s.bus.link ≠ .idle ∨ s.bus.cleanRun < 128 → exec .quietExit s = .next s))

/-- STUCK and STUCK_CLEAR, with the sync silence timer held and restarted (R2). (An event without its condition: log
entry 5.) -/
def Obligations.StuckBus : Prop :=
  ∀ s : State,
    (s.bus.link = .idle → s.bus.stuck = false →
      ∃ t, exec .stuck s = .next t
        ∧ t.bus = { s.bus with stuck := true, busFree := false }
        ∧ t.ctl = { s.ctl with faults := s.ctl.faults ||| 0x80#8 }
        ∧ (∀ since, s.eng.sync = .running since → t.eng.sync = .held (s.now - since))
        ∧ t = { s with bus := t.bus, ctl := t.ctl, eng := { s.eng with sync := t.eng.sync }, lamp := t.lamp, rpt := t.rpt })
    ∧ (s.bus.link ≠ .idle ∨ s.bus.stuck = true → exec .stuck s = .next s)
    ∧ (s.bus.stuck = true →
      ∃ t, exec .stuckClear s = .next t
        ∧ t.bus = { s.bus with stuck := false, busFree := false, freeDue := s.now + Config.sixteenBitTimes }
        ∧ t.ctl = { s.ctl with faults := s.ctl.faults &&& 0x7F#8 }
        ∧ t.eng = { s.eng with sync := if s.eng.sync = .stopped then .stopped else .running s.now }
        ∧ t = { s with bus := t.bus, ctl := t.ctl, eng := t.eng, lamp := t.lamp, rpt := t.rpt })
    ∧ (s.bus.stuck = false → exec .stuckClear s = .next s)

/-- A listener at the end mark: it discards a vetoed frame, appends an accepted one that it can take, and otherwise loses
the validity it has. (With an application in flight the loss waits for it: LossOfValidity.) -/
def Obligations.ListenerFrames : Prop :=
  ∀ (bits : List Bool) (s : State), s.ctl.listener = true → s.bus.link = .receiving → s.ctl.state ≠ .quiet →
    (∃ t, exec (.endMark bits true) s = .next t ∧ t.bus.inbound = s.bus.inbound ∧ t.isValid = s.isValid)
    ∧ (∀ g : Frame, s.sound bits = true → rxFrame bits = some g → s.bus.inbound.length < 4 →
        ∃ t, exec (.endMark bits false) s = .next t ∧ t.bus.inbound = s.bus.inbound ++ [g]
          ∧ t.eng.replica = s.eng.replica ∧ t.bus.score = s.bus.score)
    ∧ (s.sound bits = false ∨ 4 ≤ s.bus.inbound.length →
        (s.isValid = true → s.eng.inFlight = none →
          ∃ t, exec (.endMark bits false) s = .next t ∧ t.isValid = false ∧ t.ctl.state = .syncing
            ∧ t.bus.inbound = [] ∧ t.eng.history = [] ∧ t.eng.tally = 0 ∧ t.table = s.table)
        ∧ (s.isValid = false →
          ∃ t, exec (.endMark bits false) s = .next t ∧ t.bus.inbound = s.bus.inbound ∧ t.ctl = s.ctl
            ∧ t.eng = s.eng))

/-- What a transmitter sends, a receiver reads back whole: the counted length, the frame with every field at every value,
and a check that agrees. -/
def Obligations.FrameReadBack : Prop :=
  ∀ f : Frame,
    f.wireBits.length = countedBits f.wireBits ∧ rxFrame f.wireBits = some f ∧ rxCrcOk f.wireBits = true

/-! ### Validity -/

/-- SYNC_SILENCE_EXPIRY: the station adopts the ATTRACT defaults, its replica is VALID and it is READY; a timer that is
stopped or held does not expire. (DRIVE, bit 6, may be judged anew by the Driver Unit's derivation. Local time moves to the
timer's end: log entry 2; an event without its condition: log entry 5.) -/
def Obligations.SyncSilenceExpiry : Prop :=
  ∀ s : State,
    (∀ since, s.eng.sync = .running since → s.ctl.state = .syncing →
      ∃ t, exec .syncSilenceExpiry s = .next t
        ∧ t.table = GameTable.attractDefaults s.table.profile
        ∧ t.eng = { s.eng with replica := .valid, sync := .stopped, history := [], tally := 0 }
        ∧ t.ctl = { s.ctl with state := .ready, faults := t.ctl.faults }
        ∧ t.ctl.faults &&& 0xBF#8 = s.ctl.faults &&& 0xB7#8
        ∧ t.now = max s.now (since + 3000 * Config.ms)
        ∧ t.bus = (atTime s t.now).bus ∧ t.cfg = s.cfg ∧ t.sw = s.sw ∧ t.sen = s.sen ∧ t.pending = s.pending)
    ∧ ((∀ since, s.eng.sync ≠ .running since) → exec .syncSilenceExpiry s = .next s)

/-- LOSS_OF_VALIDITY: a loss that waits for the application in flight is taken behind it. The table keeps what that
application left; the queue and the ring are emptied and no ACCEPTED claim stays. (That this command completes the
application is log entry 8, and that it changes nothing where no loss waits log entry 5.) -/
def Obligations.LossOfValidity : Prop :=
  ∀ s : State,
    (∀ (c : LossCause) (f : Frame), s.eng.loss = some c → s.eng.inFlight = some f → s.isValid = true →
      ∃ t, exec .lossOfValidity s = .next t
        ∧ t.table = (applyFrame s.ctl.station false f s.table).1.table
        ∧ t.isValid = false ∧ t.eng.inFlight = none ∧ t.eng.loss = none ∧ t.eng.history = [] ∧ t.eng.tally = 0
        ∧ t.bus = { s.bus with inbound := [] }
        ∧ (s.ctl.state ≠ .quiet → t.ctl.state = .syncing)
        ∧ (∀ d ∈ t.claim.queue, d.isInFlight = true) ∧ t.claim.tickTimer = .stopped
        ∧ ApplicationFrame s t)
    ∧ (s.eng.loss = none → exec .lossOfValidity s = .next s)

/-- R4: under an UNKNOWN replica a frame that is no sync start is taken and discarded: nothing else changes. -/
def Obligations.UnknownReplicaDiscards : Prop :=
  ∀ (s : State) (f : Frame), s.eng.inFlight = none → s.bus.inbound.head? = some f → s.isValid = false →
    (f.payload ≠ .start ∨ s.ctl.state ≠ .syncing
      ∨ (∀ n, s.syncCounted = some n → n < 1000 * Config.ms) ) →
    exec (commandOf f) s = .next { s with bus := { s.bus with inbound := s.bus.inbound.drop 1 } }

/-! ### Applications -/

/-- R26: outside ATTRACT a frame other than START and JOIN, from a sender that is no MEMBER, is refused with NOT_MEMBER. -/
def Obligations.MembershipGate : Prop :=
  ∀ (s : State) (f : Frame), TakesNext s f → s.table.phase ≠ .attract → f.payload.kind ≠ .start →
    f.payload.kind ≠ .join → s.table.members[f.sender].state ≠ .member →
    Leaves (commandOf f) s (refusedWith (s.table.heard f.sender) f .notMember)

/-- R40, R41: TILT, and a NUDGE that counts or tilts. -/
def Obligations.TiltAndNudge : Prop :=
  (∀ (s : State) (f : Frame), TakesNext s f → PassesGate s f → f.payload = .tilt →
    let b := s.table.heard f.sender
    (s.table.phase ≠ .play → Leaves .tilt s (refusedWith b f .notPlaying))
    ∧ (s.table.phase = .play → s.table.tilted = true → Leaves .tilt s b)
    ∧ (s.table.phase = .play → s.table.tilted = false →
        Leaves .tilt s
          { b with
            tilted := true
            modes := b.modes.filter fun e => !(e.player == b.currentPlayer && e.state != .suspended)
            holds := Vector.replicate 16 none
            slots := vmap (fun _ r => match r with | .opened o => .dark o | r => r) b.slots }))
  ∧ (∀ (s : State) (f : Frame), TakesNext s f → PassesGate s f → f.payload = .nudge →
    let b := s.table.heard f.sender
    let counted := { b with nudgeCount := b.nudgeCount + 1 }
    (s.table.phase ≠ .play → Leaves .nudge s (refusedWith b f .notPlaying))
    ∧ (s.table.phase = .play → s.table.tilted = true → Leaves .nudge s b)
    ∧ (s.table.phase = .play → s.table.tilted = false → s.table.nudgeCount + 1 ≤ s.table.profile.nudgeWarnings →
        Leaves .nudge s counted)
    ∧ (s.table.phase = .play → s.table.tilted = false → s.table.profile.nudgeWarnings < s.table.nudgeCount + 1 →
        Leaves .nudge s
          { counted with
            tilted := true
            modes := b.modes.filter fun e => !(e.player == b.currentPlayer && e.state != .suspended)
            holds := Vector.replicate 16 none
            slots := vmap (fun _ r => match r with | .opened o => .dark o | r => r) b.slots }))

/-- R56, R57, R58: LOCK, its checks in order, the ball locked, the serve it owes and the start of multiball. -/
def Obligations.Lock : Prop :=
  ∀ (s : State) (f : Frame) (n : Slot), TakesNext s f → PassesGate s f → f.payload = .lock n →
    let b := s.table.heard f.sender
    let held := withCurrent { withSlot b n (.held f.sender b.currentPlayer) with inPlay := b.inPlay - 1 }
      { b.current with locksLit := b.current.locksLit - 1 }
    (s.table.phase ≠ .play → Leaves .lock s (refusedWith b f .notPlaying))
    ∧ (s.table.phase = .play → s.table.tilted = true → Leaves .lock s (refusedWith b f .tilted))
    ∧ (s.table.phase = .play → s.table.tilted = false →
        (s.table.slots[n].owner ≠ some f.sender → Leaves .lock s (refusedWith b f .slotState))
        ∧ (s.table.slots[n] = .dark f.sender →
            Leaves .lock s (refusedWith b f (if s.table.multiball then .slotState else .noLockLit)))
        ∧ (s.table.slots[n].occupied = true → s.table.slots[n].owner = some f.sender →
            Leaves .lock s (refusedWith b f .slotState))
        ∧ (s.table.slots[n] = .opened f.sender →
            (s.table.inPlay = 0 → Leaves .lock s (refusedWith b f .stray))
            ∧ (0 < s.table.inPlay →
                Leaves .lock s
                  (if b.profile.lockGoal ≤ held.heldSlots then
                    { held with
                      slots := vmap (fun _ r => match r with | .held o _ => .releasing o .multiball | r => r) held.slots
                      multiball := true, jackpot := b.profile.jackpotBase, saveWindow := b.profile.saveTicks }
                  else if s.table.inPlay = 1 then
                    { held with
                      servePending := if b.servePending < 8 then b.servePending + 1 else b.servePending }
                  else held))))

/-- R59, R60, R61: LOST, RELEASED, and JAMMED with the forced serve and the ball-end entry check. -/
def Obligations.BallLeaves : Prop :=
  ∀ (s : State) (f : Frame) (n : Slot), TakesNext s f → PassesGate s f →
    let b := s.table.heard f.sender
    (f.payload = .lost n →
      (∀ p, s.table.slots[n] = .held f.sender p →
        Leaves .lost s
          (withCurrent { withSlot b n (.dark f.sender) with inPlay := b.inPlay + 1 }
            { b.current with locksLit := min 4 (b.current.locksLit + 1) }))
      ∧ ((∀ p, s.table.slots[n] ≠ .held f.sender p) → Leaves .lost s (refusedWith b f .slotState)))
    ∧ (f.payload = .released n →
      (∀ c, s.table.slots[n] = .releasing f.sender c ∨ s.table.slots[n] = .jammed f.sender c →
        Leaves .released s
          (if c = .multiball ∧ s.table.phase = .play then
            { withSlot b n (.dark f.sender) with inPlay := b.inPlay + 1 }
          else { withSlot b n (.dark f.sender) with returning := b.returning + 1 }))
      ∧ ((∀ c, s.table.slots[n] ≠ .releasing f.sender c ∧ s.table.slots[n] ≠ .jammed f.sender c) →
        Leaves .released s (refusedWith b f .slotState)))
    ∧ (f.payload = .jammed n →
      (∀ c, s.table.slots[n] = .releasing f.sender c →
        let j := withSlot b n (.jammed f.sender c)
        Leaves .jammed s
          (entryChecked
            (if s.table.phase = .play ∧ c = .multiball ∧ s.table.inPlay = 0 ∧ s.table.servePending = 0
                ∧ (∀ (k : Slot) (o : Station), j.slots[k] ≠ .releasing o .multiball) then
              { j with servePending := 1 }
            else j)))
      ∧ ((∀ c, s.table.slots[n] ≠ .releasing f.sender c) → Leaves .jammed s (refusedWith b f .slotState)))

/-- R62, R63, R64: DRAIN, its cases in order, and LAUNCHED. -/
def Obligations.TroughFrames : Prop :=
  ∀ (s : State) (f : Frame), TakesNext s f → PassesGate s f →
    let b := s.table.heard f.sender
    let trough := s.table.phase ≠ .attract ∧ s.table.members[f.sender].state = .member
      ∧ s.table.members[f.sender].trough = true
    let saved := s.table.phase = .play ∧ 0 < s.table.saveWindow ∧ s.table.tilted = false
    (f.payload = .drain →
      (¬trough → Leaves .drain s (refusedWith b f .notMember))
      ∧ (trough → 0 < s.table.returning → Leaves .drain s { b with returning := b.returning - 1 })
      ∧ (trough → s.table.returning = 0 → 0 < s.table.inPlay →
          (saved →
            Leaves .drain s
              { b with
                inPlay := b.inPlay - 1
                servePending := if b.servePending < 8 then b.servePending + 1 else b.servePending })
          ∧ (¬saved → Leaves .drain s (entryChecked { b with inPlay := b.inPlay - 1 })))
      ∧ (trough → s.table.returning = 0 → s.table.inPlay = 0 → Leaves .drain s (refusedWith b f .stray)))
    ∧ (f.payload = .launched →
      (¬trough → Leaves .launched s (refusedWith b f .notMember))
      ∧ (trough → s.table.profile.ballsInstalled ≤ s.table.countedTotal →
          Leaves .launched s (refusedWith b f .stray))
      ∧ (trough → s.table.countedTotal < s.table.profile.ballsInstalled →
          (s.table.phase = .play →
            Leaves .launched s
              { b with
                servePending := b.servePending - 1
                inPlay := b.inPlay + 1
                launchSeen := true
                saveWindow := if b.launchSeen then b.saveWindow else b.profile.saveTicks })
          ∧ (s.table.phase ≠ .play → Leaves .launched s { b with returning := b.returning + 1 })))

/-- R29, R4, R30: a START in ATTRACT, or as a sync start, begins a new game, with its START and PHASE notices, and the station
then builds its JOIN; a START in a game adds a player, its checks in order. (A sync start's notices of what the UNKNOWN replica
kept: log entry 32; the order of the blocks at the hand-off: log entry 10.) -/
def Obligations.Start : Prop :=
  (∀ (s : State) (f : Frame), s.nextFrame = some f → f.payload = .start → s.eng.loss = none →
      (s.isValid = true ∧ s.table.phase = .attract
        ∨ s.isValid = false ∧ s.ctl.state = .syncing ∧ ∃ n, s.syncCounted = some n ∧ 1000 * Config.ms ≤ n) →
      ∃ t, exec .start s = .next t
        ∧ t.table =
          { GameTable.attractDefaults s.table.profile with phase := .rollcall, rollcallRemaining := 10, ordinal := 1#32 }
        ∧ t.isValid = true ∧ t.eng.history = [(1#32, t.table.digest)] ∧ ApplicationFrame s t
        ∧ (s.rpt.enabled = true → s.rpt.fifo.length + 2 ≤ 32 →
            (t.rpt.fifo.drop s.rpt.fifo.length).take 2 =
              [{ number := s.rpt.number, ordinal := 1#16, body := .start f.sender },
                { number := s.rpt.number + 1#8, ordinal := 1#16, body := .phase .rollcall 1 0 1 false 0 }])
        ∧ ((s.isValid = true → s.ctl.state = .ready) → s.ctl.listener = false → s.bus.muted = false →
            t.ctl.state = .ready ∧
            (s.claim.queue.length < 8 → ∃ c ∈ t.claim.queue, c.state = .waiting ∧ c.origin = .rollcall
              ∧ c.payload = .join s.ctl.profileDigest s.cfg.declaredMask s.occupiedMask
                  (rolesByte s.cfg.trough s.cfg.start)))
        ∧ ((s.isValid = true → s.ctl.state = .ready) → s.ctl.listener = true ∨ s.bus.muted = true →
            t.ctl.state = .bystander))
  ∧ (∀ (s : State) (f : Frame), TakesNext s f → s.table.phase ≠ .attract → f.payload = .start →
      let b := s.table.heard f.sender
      let late := s.table.phase = .ballEnd ∨ s.table.ballNumber ≠ 1 ∨ s.table.currentPlayer ≠ 0
      (late → Leaves .start s (refusedWith b f .tooLate))
      ∧ (¬late → s.table.members[f.sender].state ≠ .member → Leaves .start s (refusedWith b f .notMember))
      ∧ (¬late → s.table.members[f.sender].state = .member → s.table.playerCount = 4 →
          Leaves .start s (refusedWith b f .playersFull))
      ∧ (¬late → s.table.members[f.sender].state = .member → s.table.playerCount ≠ 4 →
          Leaves .start s { b with playerCount := b.playerCount + 1 }))

/-- R96: stage 2 of a HIT awards its base multiplied by m, R91's multiplier: 1 more than the number of the current player's
RUNNING and PAUSED instances of MULTIPLY modes, at most 5. -/
def Obligations.HitBaseAward : Prop :=
  ∀ (s : State) (f : Frame) (sw : Switch) (base : BitVec 24) (tag flags : Byte), TakesNext s f → PassesGate s f →
    f.payload = .hit sw base tag flags → s.table.phase = .play → s.table.tilted = false →
    let m := min 5 (1 + (s.table.modes.filter fun e =>
      e.player == s.table.currentPlayer && e.state != .suspended && s.table.profile.modes[e.mode].multiply).length)
    let p := s.table.currentPlayer
    1 ≤ m ∧ m ≤ 5 ∧ base.toNat * m ≤ 83886075
    ∧ ∃ t, exec .hit s = .next t
      ∧ min Config.scoreMax (s.table.players[p].score + base.toNat * m) ≤ t.table.players[p].score
      ∧ ((∀ e ∈ s.table.modes, s.table.visits tag e = false) → (flags.getLsbD 1 = false ∨ s.table.multiball = false) →
          t.table.players[p].score = min Config.scoreMax (s.table.players[p].score + base.toNat * m))
      ∧ (∀ q, q ≠ p → t.table.players[q] = s.table.players[q])

/-- R100: stage 5 of a HIT awards and raises the jackpot. -/
def Obligations.HitJackpot : Prop :=
  ∀ (s : State) (f : Frame) (sw : Switch) (base : BitVec 24) (tag flags : Byte), TakesNext s f → PassesGate s f →
    f.payload = .hit sw base tag flags → s.table.phase = .play → s.table.tilted = false →
    let m := min 5 (1 + (s.table.modes.filter fun e =>
      e.player == s.table.currentPlayer && e.state != .suspended && s.table.profile.modes[e.mode].multiply).length)
    let p := s.table.currentPlayer
    (flags.getLsbD 1 = true → s.table.multiball = true →
      ∃ t, exec .hit s = .next t
        ∧ t.table.jackpot = min 16777215 (s.table.jackpot + s.table.profile.jackpotStep)
        ∧ min Config.scoreMax (s.table.players[p].score + base.toNat * m + s.table.jackpot * m)
            ≤ t.table.players[p].score
        ∧ ((∀ e ∈ s.table.modes, s.table.visits tag e = false) →
            t.table.players[p].score =
              min Config.scoreMax (s.table.players[p].score + base.toNat * m + s.table.jackpot * m)))
    ∧ (flags.getLsbD 1 = false ∨ s.table.multiball = false →
      ∃ t, exec .hit s = .next t ∧ t.table.jackpot = s.table.jackpot)

/-- R94, R95, R97 to R100: HIT, its checks, and what it does to the table whatever it visits: the per-hit awards, the
completions in table order, each with the multiplier of the instances that are left (R98), the lit lock (R99) and the
jackpot (R100). What a completion does to its player's record is SweepBookkeeping. -/
def Obligations.HitGoal : Prop :=
  ∀ (s : State) (f : Frame) (sw : Switch) (base : BitVec 24) (tag flags : Byte), TakesNext s f → PassesGate s f →
    f.payload = .hit sw base tag flags →
    let b := s.table.heard f.sender
    let active := fun e : ModeEntry => e.player == b.currentPlayer && e.state != .suspended
    let multiplies := fun e : ModeEntry => active e && b.profile.modes[e.mode].multiply
    let hits := fun e : ModeEntry =>
      active e && b.profile.modes[e.mode].goalTag == tag.toNat && decide (1 ≤ tag.toNat ∧ tag.toNat ≤ 15)
    let completes := fun e : ModeEntry => hits e && e.progress + 1 == b.profile.modes[e.mode].goalCount
    let m := min 5 (1 + (b.modes.filter multiplies).length)
    let left := fun i : Nat =>
      min 5 (1 + (((b.modes.take i).filter fun e => multiplies e && !completes e).length
        + ((b.modes.drop i).filter multiplies).length))
    let perHits := ((b.modes.filter hits).map fun e => b.profile.modes[e.mode].perHit * m).sum
    let completions := ((List.range b.modes.length).map fun i =>
      match b.modes[i]? with
      | some e => if completes e then b.profile.modes[e.mode].completion * left i else 0
      | none => 0).sum
    let collects := flags.getLsbD 1 = true ∧ b.multiball = true
    let record := (b.modes.filter completes).foldl (fun p e => p.complete b.profile e.mode) b.current
    (s.table.phase ≠ .play → Leaves .hit s (refusedWith b f .notPlaying))
    ∧ (s.table.phase = .play → s.table.tilted = true → Leaves .hit s (refusedWith b f .tilted))
    ∧ (s.table.phase = .play → s.table.tilted = false →
      Leaves .hit s
        { withCurrent b { record with
            score := min Config.scoreMax
              (b.current.score + base.toNat * m + perHits + completions + if collects then b.jackpot * m else 0)
            locksLit := if flags.getLsbD 0 then min 4 (b.current.locksLit + 1) else b.current.locksLit } with
          modes := b.modes.filterMap fun e =>
            if completes e then none else if hits e then some { e with progress := e.progress + 1 } else some e
          jackpot := if collects then min 16777215 (b.jackpot + b.profile.jackpotStep) else b.jackpot })

/-- R83 to R85: what a completion does to its player's record. -/
def Obligations.SweepBookkeeping : Prop :=
  ∀ (profile : Profile) (m : ModeId) (p : Player),
    let counts := fun k : ModeId =>
      profile.modes[k].defined = true ∧ profile.modes[k].sweepCounts = true ∧ profile.modes[k].sweepFinal = false
    let q := p.complete profile m
    (∀ k : ModeId, q.completed.getLsbD k.val = true ↔
      (k = m ∨ p.completed.getLsbD k.val = true) ∧ ¬(profile.modes[m].sweepFinal = true ∧ counts k))
    ∧ (q.sweepQualified = true ↔ p.sweepQualified = true
        ∨ counts m ∧ (∃ k, counts k ∧ p.completed.getLsbD k.val = false)
          ∧ ∀ k, counts k → k = m ∨ p.completed.getLsbD k.val = true)
    ∧ q.score = p.score ∧ q.locksLit = p.locksLit

/-- R75, R76: MODE, its checks in order and the new instance. -/
def Obligations.ModeStart : Prop :=
  ∀ (s : State) (f : Frame) (m : ModeId), TakesNext s f → PassesGate s f → f.payload = .mode m →
    let b := s.table.heard f.sender
    let d := b.profile.modes[m]
    let active := fun e : ModeEntry => e.state != .suspended
    let pause := b.holds.toList.any Option.isSome || b.inPlay == 0
    let refusal : Option Reason :=
      if s.table.phase ≠ .play then some .notPlaying
      else if s.table.tilted = true then some .tilted
      else if d.defined = false then some .done
      else if ∃ e ∈ b.modes, e.player = b.currentPlayer ∧ e.mode = m then some .already
      else if b.current.completed.getLsbD m.val = true ∧ d.repeats = false then some .done
      else if d.sweepFinal = true ∧ b.current.sweepQualified = false then some .notQualified
      else if 4 ≤ (b.modes.filter active).length then some .full
      else if d.group ≠ 0 ∧ (∃ e ∈ b.modes, active e = true ∧ b.profile.modes[e.mode].group = d.group) then some .group
      else if 8 ≤ b.modes.length then some .tableFull
      else none
    (∀ r, refusal = some r → Leaves .mode s (refusedWith b f r))
    ∧ (refusal = none →
        Leaves .mode s
          { (if d.sweepFinal then withCurrent b { b.current with sweepQualified := false } else b) with
            modes := b.modes ++
              [{ mode := m, player := b.currentPlayer
                 state := if d.noPause = false ∧ pause = true then .paused else .running
                 remaining := d.duration, progress := 0 }] })

/-- R78, R79: HOLD set and HOLD clear. -/
def Obligations.Hold : Prop :=
  ∀ (s : State) (f : Frame) (v : Byte), TakesNext s f → PassesGate s f → f.payload = .hold v →
    let b := s.table.heard f.sender
    (v ≠ 0#8 → s.table.phase = .play ∧ s.table.tilted = false →
      Leaves .holdSet s (withHold b f.sender (some (b.tick + 50#16))))
    ∧ (v ≠ 0#8 → ¬(s.table.phase = .play ∧ s.table.tilted = false) → Leaves .holdSet s b)
    ∧ (v = 0#8 → s.table.holds[f.sender].isSome = true → Leaves .holdClear s (withHold b f.sender none))
    ∧ (v = 0#8 → s.table.holds[f.sender] = none → Leaves .holdClear s (refusedWith b f .notHeld))

/-- R27, R28: a TICK that is stale or taken in ATTRACT changes nothing; one that applies advances the tick, expires holds
and counts down, where it ends no roll call, no ball end and no member is found silent. -/
def Obligations.Tick : Prop :=
  ∀ (s : State) (f : Frame) (number : Word16), TakesNext s f → PassesGate s f → f.payload = .tick number →
    let b := s.table.heard f.sender
    let held := vmap (fun _ x => if x = some number then none else x) b.holds
    let advanced := { b with tick := number, holds := held }
    (s.table.phase = .attract ∨ number ≠ s.table.tick + 1#16 → Leaves .tick s b)
    ∧ (number = s.table.tick + 1#16 → NoneSilent b number →
        (s.table.phase = .rollcall → 1 < s.table.rollcallRemaining →
          Leaves .tick s { advanced with rollcallRemaining := b.rollcallRemaining - 1 })
        ∧ (s.table.phase = .play →
          Leaves .tick s
            (entryChecked
              { advanced with
                saveWindow := if held.toList.all Option.isNone then b.saveWindow - 1 else b.saveWindow
                modes := b.modes.filterMap fun e =>
                  if e.state = .running ∧ 0 < e.remaining then
                    if e.remaining = 1 then none else some { e with remaining := e.remaining - 1 }
                  else some e }))
        ∧ (s.table.phase = .ballEnd → 1 < s.table.ballEndRemaining →
          Leaves .tick s { advanced with ballEndRemaining := b.ballEndRemaining - 1 }))

/-- R34, R35: ROLLCALL_END: the roll call succeeds and play begins, or it fails, is recorded and the game is over. (That the
row is the whole TICK that ends the roll call, with the tick advanced and the holds expired, is log entry 9.) -/
def Obligations.RollcallEnd : Prop :=
  ∀ (s : State) (f : Frame), TakesNext s f → PassesGate s f → f.payload = .tick (s.table.tick + 1#16) →
    s.table.phase = .rollcall → s.table.rollcallRemaining ≤ 1 →
    let b := s.table.heard f.sender
    let member := fun k : Station => s.table.members[k].state = .member
    let mismatch := ∃ k : Station, s.table.members[k].state = .mismatched
    let trough := fun k : Station => member k ∧ s.table.members[k].trough = true
    (¬mismatch → (∃ k, trough k ∧ ∀ j, trough j → j = k) → NoneSilent b (s.table.tick + 1#16) →
      Leaves .rollcallEnd s
        { b with
          tick := b.tick + 1#16, rollcallRemaining := 0, phase := .play, servePending := 1, launchSeen := false
          holds := vmap (fun _ x => if x = some (b.tick + 1#16) then none else x) b.holds })
    ∧ (mismatch ∨ ¬(∃ k, trough k ∧ ∀ j, trough j → j = k) →
      ∃ t, exec .rollcallEnd s = .next t ∧ ApplicationFrame s t ∧ t.table.phase = .attract
        ∧ (∀ n : Slot, t.table.slots[n] = .absent) ∧ t.table.modes = []
        ∧ t.table.inPlay = 0 ∧ t.table.returning = 0 ∧ t.table.servePending = 0 ∧ t.table.members = b.members
        ∧ t.table.refusal = some
          { kind := .tick, sender := f.sender, reason := .rollcallFailed, argument := none
            ordinal := s.table.ordinal + 1#32
            sub := some (if s.table.members.toList.any (fun m => m.state == .mismatched) then .mismatch
              else if s.table.members.toList.any (fun m => m.state == .member && m.trough) then .twoTroughs
              else .noTrough) })

/-- The TICK seen by what it brings about (log entry 9): HOLD_EXPIRY, SAVE_WINDOW_CLOSE, MODE_EXPIRY, BALL_END_LIMIT, and
SILENCE with R38's table. (The game over that a silent trough or the last ball's end brings makes every slot ABSENT, R47.) -/
def Obligations.TickBringsAbout : Prop :=
  ∀ (s : State) (f : Frame), TakesNext s f → PassesGate s f → f.payload = .tick (s.table.tick + 1#16) →
    s.table.phase ≠ .attract →
    (∀ k : Station, s.table.holds[k] = some (s.table.tick + 1#16) →
      ∃ t, exec .holdExpiry s = .next t ∧ exec .tick s = .next t ∧ t.table.holds[k] = none)
    ∧ (s.table.phase = .play → s.table.saveWindow = 1 → (∀ k : Station, s.table.holds[k] = none) →
      ∃ t, exec .saveWindowClose s = .next t ∧ exec .tick s = .next t ∧ t.table.saveWindow = 0)
    ∧ (∀ e ∈ s.table.modes, s.table.phase = .play → e.state = .running → e.remaining = 1 →
      ∃ t, exec .modeExpiry s = .next t ∧ exec .tick s = .next t
        ∧ (t.table.modes.filter fun d => d.mode == e.mode && d.player == e.player).length
          < (s.table.modes.filter fun d => d.mode == e.mode && d.player == e.player).length)
    ∧ (s.table.phase = .ballEnd → s.table.ballEndRemaining = 1 →
      ∃ t, exec .ballEndLimit s = .next t ∧ exec .tick s = .next t
        ∧ t.table.phase ≠ .ballEnd ∧ t.table.returning = 0 ∧ t.table.ballEndRemaining = 0)
    ∧ (∀ k : Station, (s.table.phase = .play ∨ s.table.phase = .rollcall ∧ 1 < s.table.rollcallRemaining
        ∨ s.table.phase = .ballEnd ∧ 1 < s.table.ballEndRemaining) → k ≠ f.sender →
      s.table.members[k].state = .member →
      30 ≤ (s.table.tick + 1#16 - s.table.members[k].lastHeard).toNat →
      ∃ t, exec .silence s = .next t ∧ exec .tick s = .next t ∧ t.table.members[k].state = .silent
        ∧ (s.table.members[k].trough = true → t.table.phase = .attract ∧ t.table.modes = [])
        ∧ (∀ n : Slot, s.table.slots[n].owner = some k →
            t.table.slots[n] =
              if t.table.phase = .attract then .absent
              else match s.table.slots[n] with
                | .held o p => .strandedHeld o p
                | .releasing o c | .jammed o c => .strandedReleasing o c
                | .dark _ | .opened _ | .absent => .absent
                | .strandedHeld o p => .strandedHeld o p
                | .strandedReleasing o c => .strandedReleasing o c))

/-- R36: a PRESENCE that passes the gate changes nothing but its sender's last-heard tick, and its faults are reported
where the sender is another station. (That the Table Engine's notices come before those of the other blocks at the
hand-off, so that this one takes the next number, is log entry 10.) -/
def Obligations.Presence : Prop :=
  ∀ (s : State) (f : Frame) (basis digest : Word16) (summary : Byte), TakesNext s f → PassesGate s f →
    f.payload = .presence basis digest summary →
    Leaves .presence s
      (withMember s.table f.sender { s.table.members[f.sender] with lastHeard := s.table.tick })
    ∧ (summary ≠ 0#8 → f.sender ≠ s.ctl.station → s.rpt.enabled = true → s.rpt.fifo.length < 32 →
        ∃ t, exec .presence s = .next t ∧ ∃ n ∈ t.rpt.fifo, n.number = s.rpt.number
          ∧ n.body = .fault f.sender summary)

/-- R31 to R33: JOIN. -/
def Obligations.Join : Prop :=
  ∀ (s : State) (f : Frame) (digest : Word16) (declared occupied roles : Byte), TakesNext s f →
    f.payload = .join digest declared occupied roles →
    let b := s.table.heard f.sender
    let m := b.members[f.sender]
    let entry := fun st : MemberState =>
      { m with
        state := st, declared := declared, trough := roles.getLsbD 0, start := roles.getLsbD 1, digest := some digest }
    let referenced := { b with referenceDigest := some (b.referenceDigest.getD digest) }
    let matched := s.table.referenceDigest = none ∨ s.table.referenceDigest = some digest
    let free := ∀ n : Slot, declared.getLsbD n.val = true → s.table.slots[n] = .absent
    let reported := (indices 8).filter fun n : Slot => (declared &&& occupied).getLsbD n.val
    let admitted := fun n : Slot =>
      s.table.countedTotal + (reported.filter fun k => decide (k < n)).length < s.table.profile.ballsInstalled
    (s.table.phase ≠ .rollcall → Leaves .join s (refusedWith b f .lateJoin))
    ∧ (s.table.phase = .rollcall → m.state = .member →
        Leaves .join s (withMember b f.sender { m with state := .mismatched }))
    ∧ (s.table.phase = .rollcall → m.state = .mismatched ∨ m.state = .silent → Leaves .join s b)
    ∧ (s.table.phase = .rollcall → m.state = .absent → ¬(matched ∧ free) →
        Leaves .join s (withMember referenced f.sender (entry .mismatched)))
    ∧ (s.table.phase = .rollcall → m.state = .absent → matched → free →
        Leaves .join s
          { withMember referenced f.sender (entry .member) with
            slots := vmap (fun n r =>
              if declared.getLsbD n.val = false then r
              else if n ∈ reported ∧ admitted n then .releasing f.sender .clear
              else .dark f.sender) b.slots
            refusal := match (reported.filter fun n => !decide (admitted n)).getLast? with
              | some n => some
                { kind := .join, sender := f.sender, reason := .stray, sub := none
                  ordinal := b.ordinal + 1#32, argument := some n }
              | none => b.refusal })

/-- R42 to R47, R88: the ball-end entry check, and the completion check with the next ball or the game over. -/
def Obligations.BallEndChecks : Prop :=
  (∀ t : GameTable,
    let ballOver := t.phase = .play ∧ t.inPlay = 0 ∧ t.servePending = 0
      ∧ ∀ (n : Slot) (o : Station), t.slots[n] ≠ .releasing o .multiball
    (¬ballOver → entryChecked t = t)
    ∧ (ballOver → entryChecked t =
        { t with
          phase := .ballEnd
          slots := vmap (fun _ r => match r with | .held o _ => .releasing o .ballEnd | r => r) t.slots
          modes := t.modes.filterMap fun e =>
            if e.player = t.currentPlayer ∧ e.state ≠ .suspended then
              if t.profile.modes[e.mode].carry then some { e with state := .suspended } else none
            else some e
          holds := Vector.replicate 16 none, saveWindow := 0, multiball := false, ballEndRemaining := 100 }))
  ∧ (∀ t : GameTable,
    let done := t.phase = .ballEnd ∧ t.returning = 0
      ∧ ∀ n : Slot, t.slots[n].isHeld = false ∧ t.slots[n].isReleasing = false
    let last := playerNumber t.currentPlayer < t.playerCount
    let advanced := { t with
      tilted := false, nudgeCount := 0, ballEndRemaining := 0
      currentPlayer := if last then t.currentPlayer + 1 else 0
      ballNumber := if last then t.ballNumber else t.ballNumber + 1 }
    (¬done → completionChecked t = t)
    ∧ (done → advanced.ballNumber ≤ t.profile.ballsPerGame → completionChecked t =
        { advanced with
          phase := .play, servePending := 1, launchSeen := false
          modes := t.modes.map fun e =>
            if e.player = advanced.currentPlayer ∧ e.state = .suspended then { e with state := .running } else e })
    ∧ (done → t.profile.ballsPerGame < advanced.ballNumber → completionChecked t =
        { advanced with
          phase := .attract, modes := [], slots := Vector.replicate 8 .absent
          inPlay := 0, returning := 0, servePending := 0, saveWindow := 0, rollcallRemaining := 0
          multiball := false, launchSeen := false, jackpot := 0, holds := Vector.replicate 16 none }))

/-- R14, R16, R22, R23: what an application leaves of the Table Engine and the inbound queue, where the replica stays
VALID. -/
def Obligations.ApplicationRecorded : Prop :=
  ∀ (s : State) (f : Frame), Undisturbed s f → s.eng.history.length ≤ 16 →
    let begins := f.payload = .start ∧ s.table.phase = .attract
    let ring := if begins then [] else s.eng.history
    ∃ t, exec (commandOf f) s = .next t
      ∧ t.table.ordinal = (if begins then 1#32 else s.table.ordinal + 1#32)
      ∧ t.eng.history = (if ring.length = 16 then ring.drop 1 else ring) ++ [(t.table.ordinal, t.table.digest)]
      ∧ (∀ known digest, Compares s f known digest →
          t.eng.tally = if known = digest then 0 else min 2 (s.eng.tally + 1))
      ∧ ((∀ known digest, ¬Compares s f known digest) → t.eng.tally = s.eng.tally)
      ∧ t.isValid = true ∧ t.eng.inFlight = none
      ∧ t.bus.inbound = (if s.eng.inFlight.isSome then s.bus.inbound else s.bus.inbound.drop 1)

/-- R19, R20, R25, R29, R31, R37, R51, R54, R78, R90, R103, R182: the notices of an application that leaves the replica VALID,
where no notice finds the FIFO full: what joins it, by sort. LOCK and PHASE notices lead from what the table held to what it
holds; every instance removed, and every one that is new, has changed its state or progress or counted down to a multiple of
10, has its MODE notice, every changed membership entry its MEMBER notice, the last refusal its REFUSED notice, a changed
score its SCORE notice, and a change of the counts, or a HOLD set that stops an open save window from counting (R78), its one
BALLS notice behind all others of the Table Engine. (That other blocks' notices come behind the Table Engine's: log entry 10.
The notices of a START that begins a game are in Start; what they leave out: log entry 32. The order of LOCK and MEMBER
notices at a silence: log entry 33. Which HOLD sets stop the save window: log entry 34.) -/
def Obligations.ApplicationNotices : Prop :=
  ∀ (s : State) (f : Frame), Undisturbed s f → s.rpt.enabled = true →
    ∃ t, exec (commandOf f) s = .next t ∧ (t.rpt.fifo.length < 32 →
      let b := s.table
      let a := t.table
      let begins := f.payload = .start ∧ b.phase = .attract
      let new := (t.rpt.fifo.drop s.rpt.fifo.length).map Notice.body
      let p := b.currentPlayer
      let counts := fun k : GameTable =>
        (k.inPlay, k.returning, k.servePending, (k.slots.toList.filter SlotRecord.occupied).length, k.multiball,
          decide (0 < k.saveWindow))
      let values := fun k : GameTable =>
        (k.phase, k.playerCount, k.currentPlayer, k.ballNumber, k.tilted, k.nudgeCount)
      let ballsNotice : NoticeBody :=
        .balls a.inPlay a.returning a.servePending (a.slots.toList.filter SlotRecord.occupied).length a.multiball
          a.saveWindow
      let m := min 5 (1 + (b.modes.filter fun e =>
        e.player == p && e.state != .suspended && b.profile.modes[e.mode].multiply).length)
      let phases := new.filterMap fun x => match x with
        | .phase ph count cur ball tilted nudges => some (ph, count, cur, ball, tilted, nudges)
        | _ => none
      let locks := fun n : Slot => new.filterMap fun x => match x with
        | .lock k r => if k = n then some r else none
        | _ => none
      let refusals := new.filterMap fun x => match x with
        | .refused kind sender reason sub argument => some (kind, sender, reason, sub, argument)
        | _ => none
      let balls := new.filter fun x => match x with
        | .balls _ _ _ _ _ _ => true
        | _ => false
      let scores := new.filter fun x => match x with
        | .score _ _ _ _ _ _ _ _ _ => true
        | _ => false
      let halts := f.payload.kind = .hold ∧ (∀ k : Station, b.holds[k] = none) ∧ a.holds[f.sender] ≠ none
        ∧ 0 < b.saveWindow
      (∀ x ∈ t.rpt.fifo.drop s.rpt.fifo.length, x.ordinal = a.ordinal.truncate 16)
      ∧ balls = (if counts a ≠ counts b ∨ halts then [ballsNotice] else [])
      ∧ (counts a ≠ counts b ∨ halts → ∀ x ∈ (new.dropWhile fun y => y != ballsNotice).drop 1,
          (∃ kind argument origin cause, x = .claimLost kind argument origin cause) ∨ ∃ k v, x = .fault k v)
      ∧ (¬begins → Reports (values b) phases (values a))
      ∧ (¬begins → ∀ n : Slot, Reports b.slots[n] (locks n) a.slots[n])
      ∧ (¬begins → ∀ e ∈ b.modes, (∀ d ∈ a.modes, d.mode ≠ e.mode ∨ d.player ≠ e.player) →
          ∃ x ∈ new, ∃ report remaining progress sweep, x = .mode e.mode e.player report remaining progress sweep
            ∧ (report = .completed ∨ report = .expired ∨ report = .aborted ∨ report = .ended))
      ∧ (∀ e ∈ a.modes,
          (∀ d ∈ b.modes, d.mode = e.mode → d.player = e.player → d.state = e.state → d.progress = e.progress →
            d.remaining ≠ e.remaining ∧ e.remaining % 10 = 0 ∧ e.remaining ≠ 0) →
          ∃ x ∈ new, ∃ sweep, x = .mode e.mode e.player
              (match e.state with | .running => .running | .paused => .paused | .suspended => .suspended)
              e.remaining e.progress sweep
            ∧ (f.payload.kind ≠ .hit → sweep = a.players[e.player].sweepQualified))
      ∧ (refusals = [] → begins ∨ a.refusal = b.refusal)
      ∧ (∀ kind sender reason sub argument, refusals.getLast? = some (kind, sender, reason, sub, argument) →
          a.refusal = some
            { kind := kind, sender := sender, reason := reason, sub := sub, ordinal := a.ordinal, argument := argument })
      ∧ (refusals.length ≤ 1 ∨ f.payload.kind = .join)
      ∧ (¬begins → ∀ k : Station, a.members[k].state ≠ b.members[k].state →
          let e := a.members[k]
          .member k e.state e.declared e.trough e.start e.digest ∈ new)
      ∧ (∀ sw base tag flags, f.payload = .hit sw base tag flags →
          scores = if a.players[p].score = b.players[p].score then [] else
            [.score p a.players[p].score (a.players[p].score - b.players[p].score) m
              (if flags.getLsbD 1 = true ∧ b.multiball = true then b.jackpot * m else 0) a.jackpot f.sender sw tag])
      ∧ (f.payload.kind ≠ .hit → scores = []))

/-- R18, R179, R137, R134, R135, R139, R140: the hand-off of an application that leaves the replica VALID: what becomes of
the station state, of this station's own claim, of the latches, of the tick timer and the presence count, and what the
reconciliation and the timers build, the BOUNCE duty of a rejected ball (R140, R166), and the launches unapplied (R170). (That
Station Control acts before the Claim Unit and that before the Driver Unit, so that a station which becomes MEMBER at this
hand-off reconciles its slots, builds its timers' claims and counts in the same one, is log entry 10; that of several ACCEPTED
claims the oldest is the one accepted first is log entry 15; that the queue is in its order is kept: ClaimQueueKept.) -/
def Obligations.HandOff : Prop :=
  ∀ (s : State) (f : Frame), Undisturbed s f → ClaimQueueOrdered s →
    let outcome := (applyFrame s.ctl.station false f s.table).2
    let ticked := f.payload.kind = .tick ∧ outcome = .applied
    let barred := s.ctl.listener = true ∨ s.bus.muted = true
    let own := s.ctl.station
    ∃ t, exec (commandOf f) s = .next t
      ∧ (let entry := t.table.members[own].state
        let finished := t.table.phase = .attract
        (s.ctl.state = .member → t.ctl.state =
          if finished then .ready else if entry = .silent ∨ entry = .mismatched then .bystander else .member)
        ∧ (s.ctl.state = .bystander → t.ctl.state = if finished then .ready else .bystander)
        ∧ (s.ctl.state = .ready → t.ctl.state =
          if finished then .ready
          else if entry = .member ∧ ¬barred then .member
          else if barred then .bystander
          else if t.table.phase = .rollcall then .ready
          else .bystander))
      ∧ (∀ (c : Claim) (k : Nat), f.sender = own → c ∈ s.claim.queue → c.state = .accepted k →
          (∀ d ∈ s.claim.queue, ∀ j, d.state = .accepted j → d.created = c.created ∨ k < j) →
          (∀ d ∈ t.claim.queue, d.created ≠ c.created)
          ∧ (∀ d ∈ s.claim.queue, ∀ j, d.state = .accepted j → d.created ≠ c.created → d ∈ t.claim.queue)
          ∧ (∀ n r, c.payload = .lock n → outcome = .refused r → s.boundState n ≠ some .absent →
              t.claim.reject[n] = true))
      ∧ (f.sender ≠ own → ∀ d ∈ s.claim.queue, ∀ j, d.state = .accepted j → d ∈ t.claim.queue)
      ∧ (∀ n : Slot, t.claim.reject[n] = true → s.claim.reject[n] = true
          ∨ f.sender = own ∧ (∃ r, outcome = .refused r)
            ∧ ∃ c ∈ s.claim.queue, ∃ j, c.state = .accepted j ∧ c.payload = .lock n)
      ∧ (∀ (number k : Word16) (d : Claim), f.payload = .tick number → ticked → d ∈ t.claim.queue →
          d.state = .waiting → d.payload = .tick k → 32768 ≤ (number - k).toNat)
      ∧ t.claim.tickTimer =
          (if (t.ctl.state = .ready ∨ t.ctl.state = .member) ∧ ¬barred ∧ t.table.phase ≠ .attract then
            if ticked ∨ s.claim.tickTimer = .stopped then .running (s.now + (100 + own.val) * Config.ms)
            else s.claim.tickTimer
          else .stopped)
      ∧ (t.ctl.state = .member →
          let count := if s.ctl.state = .member then s.claim.presence else 0
          t.claim.presence = if f.sender = own then 0 else if ticked then min 10 (count + 1) else count)
      ∧ (∀ n : Slot, t.ctl.state = .member → t.table.slots[n].owner = some own →
          let room := ¬barred ∧ (s.claim.queue.length + n.val < 8
            ∨ t.claim.queue.length < 8
              ∧ ∀ m : Slot, n < m → s.boundState m = some .absent → t.table.slots[m].isLightable = false)
          (s.boundState n = some .present → t.table.slots[n].isLightable = true → t.claim.reject[n] = false → room →
            ∃ c ∈ t.claim.queue, c.payload = .lock n)
          ∧ (s.boundState n = some .present → t.table.slots[n].isLightable = true → t.claim.reject[n] = true →
            ∃ y, t.drv.ejects[n] = some y ∧ y.kind = .bounce)
          ∧ (s.boundState n = some .absent → t.claim.reject[n] = false
            ∧ (t.table.slots[n].isLightable = true → ∀ c ∈ t.claim.queue, c.payload = .lock n → c.state ≠ .waiting)
            ∧ (t.table.slots[n].isHeld = true → room → ∃ c ∈ t.claim.queue, c.payload = .lost n)
            ∧ (t.table.slots[n].isLeaving = true → room → ∃ c ∈ t.claim.queue, c.payload = .released n)))
      ∧ (t.ctl.state = .member → ¬barred → t.claim.queue.length < 8 →
          (t.claim.tickTimer = .expired → ∃ c ∈ t.claim.queue, c.payload.kind = .tick)
          ∧ (t.claim.presence = 10 → ∃ c ∈ t.claim.queue, c.payload.kind = .presence))
      ∧ (TroughMember t → t.drv.serve.launches =
          s.drv.serve.launches - (launchedIn s.claim.queue - launchedIn t.claim.queue))
      ∧ (¬TroughMember t → t.drv.serve.launches = 0)

/-- R23, R24, R3: the disagreement that brings the tally to its threshold: the application completes, then the station has
DIVERGED. -/
def Obligations.Diverged : Prop :=
  ∀ (s : State) (f : Frame) (basis digest known : Word16) (summary : Byte), TakesNext s f →
    f.payload = .presence basis digest summary → f.sender ≠ s.ctl.station → s.ctl.state ≠ .quiet →
    lookupBasis s.eng.history basis = some known → known ≠ digest →
    (1 ≤ s.eng.tally ∨ (s.table.members.toList.filter fun m => m.state == .member).length = 2) →
    ∃ t, exec .presence s = .next t ∧ t.table = (applyFrame s.ctl.station false f s.table).1.table
      ∧ t.isValid = false ∧ t.hasFault .diverged = true ∧ t.ctl.state = .syncing
      ∧ t.eng.history = [] ∧ t.eng.tally = 0 ∧ t.bus.inbound = [] ∧ t.claim.tickTimer = .stopped
      ∧ (∀ c ∈ t.claim.queue, c.isInFlight = true)

/-! ### Claims -/

/-- R134, R135: TICK_TIMER_EXPIRY, TICK_CLAIM_BUILD and PRESENCE_CLAIM_BUILD. (Local time moves to the timer's end: log
entry 2; an event without its condition: log entry 5.) -/
def Obligations.TimersClaims : Prop :=
  ∀ s : State,
    let entered := fun payload : Payload =>
      { s with
        claim := { s.claim with
          queue := insertClaim
            { payload := payload, state := .waiting, attempts := 0, origin := .timer, created := s.claim.serial }
            s.claim.queue
          serial := s.claim.serial + 1 } }
    let free := s.ctl.state = .member ∧ s.ctl.listener = false ∧ s.bus.muted = false ∧ s.isValid = true
      ∧ s.claim.queue.length < 8
    (∀ due, s.claim.tickTimer = .running due →
      exec .tickTimerExpiry s = .next
        { atTime s (max s.now due) with claim := { s.claim with tickTimer := .expired } })
    ∧ ((∀ due, s.claim.tickTimer ≠ .running due) → exec .tickTimerExpiry s = .next s)
    ∧ (s.claim.tickTimer = .expired → free → (∀ c ∈ s.claim.queue, c.payload.isTick = false) →
      exec .tickClaimBuild s = .next (entered (.tick (s.table.tick + 1#16))))
    ∧ (s.claim.tickTimer ≠ .expired ∨ ¬free ∨ (∃ c ∈ s.claim.queue, c.payload.isTick = true) →
      exec .tickClaimBuild s = .next s)
    ∧ (∀ ordinal digest, s.claim.presence = 10 → free → (∀ c ∈ s.claim.queue, c.payload.isPresence = false) →
      s.eng.history.getLast? = some (ordinal, digest) →
      exec .presenceClaimBuild s = .next (entered (.presence (ordinal.truncate 16) digest s.ctl.faults)))
    ∧ (s.claim.presence ≠ 10 ∨ ¬free ∨ (∃ c ∈ s.claim.queue, c.payload.isPresence = true) ∨ s.eng.history = [] →
      exec .presenceClaimBuild s = .next s)

/-- R129 to R132: SWITCH_EVENT_TAKE: the claims of the event's rule, as the station may build them, each entered in its turn
into a queue with room or without, and the hand-on of a scoop and of a launch confirm, with what R169 to R171 end: the attempts
of the duty, its request, DRIVE. (That a launch confirm stops the serve retry timer is log entry 20; the order of creation is
log entry 14; with no event waiting, or without running units, nothing changes: log entry 5. That the claims of the queue have
distinct creation numbers is kept: ClaimQueueKept.) -/
def Obligations.SwitchEventTaken : Prop :=
  (∀ s : State, s.sw.events = [] ∨ s.unitsRun = false → exec .switchEventTake s = .next s)
  ∧ ∀ (s : State) (e : SwitchEvent) (rest : List SwitchEvent), s.sw.events = e :: rest → s.unitsRun = true →
    ClaimQueueOrdered s →
    let r := s.cfg.rules[e.switch]
    let mode := match r.mode with
      | some m => [Payload.mode m]
      | none => []
    let hit := Payload.hit e.switch r.base r.tag (BitVec.ofNat 8 (r.lightLock.toNat + 2 * r.jackpot.toNat))
    let onEdge : List Payload := match r.kind with
      | .none => []
      | .score => hit :: mode
      | .start => [.start]
      | .tilt => [.tilt]
      | .nudge => [.nudge]
      | .drain => [.drain]
      | .launchConfirm => [.launched]
      | .scoop => hit :: .hold 1#8 :: mode
    let claims := if r.edge = e.level then onEdge else if r.kind = .scoop then [.hold 0#8] else []
    let allowed :=
      if s.ctl.listener = true ∨ s.bus.muted = true ∨ s.isValid = false then []
      else if s.ctl.state = .member then claims
      else if s.ctl.state = .ready then claims.filter fun p => p == .start
      else []
    ∃ t, exec .switchEventTake s = .next t
      ∧ t.sw = { s.sw with events := rest }
      ∧ (allowed = [] → t.claim = s.claim)
      ∧ (∃ lost : List (Claim × LostCause),
          EnteredAll (.switch e.switch) allowed s.claim.queue s.claim.serial t.claim.queue lost
          ∧ (s.rpt.enabled = true → s.rpt.fifo.length + lost.length ≤ 32 →
              ∀ x ∈ lost, ∃ n ∈ t.rpt.fifo,
                n.body = .claimLost x.1.payload.kind x.1.payload.argument x.1.origin x.2)
          ∧ (r.kind = .launchConfirm → r.edge = e.level → t.drv.serve.launches =
              if TroughMember s then
                if allowed ≠ [] ∧ ∀ x ∈ lost, x.2 ≠ .discarded then min 8 (s.drv.serve.launches + 1)
                else s.drv.serve.launches
              else 0))
      ∧ (s.ctl.listener = false → s.bus.muted = false → s.isValid = true → s.ctl.state = .member →
          s.claim.queue.length + claims.length ≤ 8 →
          (∀ p : Payload, (t.claim.queue.map Claim.payload).count p
              = (s.claim.queue.map Claim.payload).count p + claims.count p)
          ∧ ∀ c ∈ t.claim.queue, c ∈ s.claim.queue
              ∨ (c.payload ∈ claims ∧ c.state = .waiting ∧ c.attempts = 0 ∧ c.origin = .switch e.switch))
      ∧ (r.kind = .scoop → r.edge = e.level →
          t.drv.scoops[e.switch] = some
            { driver := r.driver, dwellDue := some (s.now + r.dwell * Config.ms), want := false, await := false
              pulses := 0 })
      ∧ (r.kind = .scoop → r.edge ≠ e.level → t.drv.scoops[e.switch] = none)
      ∧ (r.kind = .scoop → ¬RequestWaits t (.scoop e.switch) ∧ ¬AttemptOpen t (.scoop e.switch))
      ∧ (r.kind = .launchConfirm → r.edge = e.level →
          t.drv.serve.failed = 0 ∧ t.drv.serve.retryDue = none
          ∧ (t.hasFault .drive = true ↔ TroughMember s ∧ 0 < s.table.servePending
              ∧ ∀ o : Output, s.cfg.outputs[o].role ≠ .serve ∨ s.cfg.outputs[o].disabled = true)
          ∧ ∀ o : Output, s.drv.outputs[o].attemptOpen = true → s.drv.outputs[o].duty = some .serve →
              (s.drv.outputs[o].state = .pulse → t.drv.outputs[o] = { s.drv.outputs[o] with attemptOpen := false })
              ∧ (s.drv.outputs[o].state = .verify → GoesOn s t o))
      ∧ t.table = s.table ∧ t.eng = s.eng ∧ t.bus = s.bus ∧ t.sen = s.sen ∧ t.cfg = s.cfg ∧ t.now = s.now
      ∧ t.pending = s.pending ∧ t.ctl = { s.ctl with faults := t.ctl.faults }

/-- R139, R140, R160, R166: a measurement that changes the state of a channel bound to a slot this MEMBER station owns builds
what brings the slot in step: LOCK, LOST, RELEASED or a BOUNCE duty; an ABSENT decision clears the reject latch. R167, R168:
at any station an ABSENT or FAULT decision closes the verified attempts of the slot's eject duty, with success or failure, and
a third failure of a RELEASE asks for its JAMMED. (The Claim Unit takes a delivery before the Driver Unit: log entry 10; local
time moves to the window's end: log entry 2.) -/
def Obligations.SlotReconciled : Prop :=
  (∀ (s : State) (ch : Channel) (rest : List Channel) (edges : Nat) (n : Slot) (o : Output),
    s.sen.sweep = ch :: rest → s.cfg.channels[ch].binding = some (n, o) → s.cfg.boundTo n = some (ch, o) →
    s.ctl.state = .member → s.ctl.listener = false → s.bus.muted = false → s.isValid = true →
    s.table.slots[n].owner = some s.ctl.station → s.claim.queue.length < 8 →
    let new := (s.sen.channels[ch].measured s.cfg.channels[ch] edges).state
    new ≠ s.sen.channels[ch].state →
    ∃ t, exec (.measurementEnd edges) s = .next t ∧ t.table = s.table
      ∧ (new = .present → s.table.slots[n].isLightable = true → s.claim.reject[n] = false →
          ∃ c ∈ t.claim.queue, c.payload = .lock n)
      ∧ (new = .present → s.table.slots[n].isLightable = true → s.claim.reject[n] = true →
          t.claim.queue = s.claim.queue ∧ ∃ y, t.drv.ejects[n] = some y ∧ y.kind = .bounce)
      ∧ (new = .absent → t.claim.reject[n] = false)
      ∧ (new = .absent → s.table.slots[n].isHeld = true → ∃ c ∈ t.claim.queue, c.payload = .lost n)
      ∧ (new = .absent → s.table.slots[n].isLeaving = true → ∃ c ∈ t.claim.queue, c.payload = .released n)
      ∧ (new = .unknown → t.claim = s.claim))
  ∧ (∀ (s : State) (ch : Channel) (rest : List Channel) (edges : Nat) (n : Slot) (b : Output),
    s.sen.sweep = ch :: rest → s.cfg.channels[ch].binding = some (n, b) →
    let new := (s.sen.channels[ch].measured s.cfg.channels[ch] edges).state
    new ≠ s.sen.channels[ch].state → new = .absent ∨ new = .fault →
    let verified := fun o : Output =>
      s.drv.outputs[o].attemptOpen && s.drv.outputs[o].duty == some (.eject n) && s.cfg.outputs[o].role == .eject
    let closed := ((indices 8).filter verified).length
    ∃ t, exec (.measurementEnd edges) s = .next t
      ∧ (∀ o : Output, verified o = true →
          (s.drv.outputs[o].state = .pulse → t.drv.outputs[o] = { s.drv.outputs[o] with attemptOpen := false })
          ∧ (s.drv.outputs[o].state = .verify → GoesOn s t o))
      ∧ (∀ x : EjectDuty, s.drv.ejects[n] = some x → x.kind = .release → s.cfg.boundTo n = some (ch, b) →
          s.isValid = true → 0 < closed →
          (∃ c, s.table.slots[n] = .releasing s.ctl.station c ∨ s.table.slots[n] = .jammed s.ctl.station c) →
          ∃ y, t.drv.ejects[n] = some y ∧ y.kind = .release
            ∧ (new = .absent → y.count = 0 ∧ y.phase = .attempting)
            ∧ (new = .fault → y.count = min 3 (x.count + closed)
                ∧ (x.count + closed < 3 → y.phase = x.phase)
                ∧ (3 ≤ x.count + closed →
                    y.phase = .retrying ∧ y.retryDue = some (t.now + 5000 * Config.ms) ∧ JammedAsked s t n))))

/-! ### Switches -/

/-- R143, R144, R152: SWITCH_SAMPLE. An event that finds 16 waiting is discarded, with a SWITCH_LOST notice. (Local time moves
to the sample: log entry 2; without running units: log entry 5; the pins of one sample in ascending order: log entry 19.) -/
def Obligations.SwitchSample : Prop :=
  ∀ (pins : Byte) (s : State),
    let read := fun n : Fin 8 => if pins.getLsbD n.val then Level.opened else Level.closed
    let old := fun n : Fin 8 => s.sw.levels[pinSwitch n]
    let time := fun n : Fin 8 => match s.cfg.rules[pinSwitch n].debounce with
      | .fast => 2
      | .normal => 8
      | .slow => 32
    let accepts := fun n : Fin 8 => read n ≠ old n ∧ time n ≤ s.sw.counts[n] + 1
    let changed := (indices 8).filter fun n => decide (accepts n)
    (s.unitsRun = false → exec (.switchSample pins) s = .next s)
    ∧ (s.unitsRun = true → s.sw.pinsSampled = false →
        ∃ t, exec (.switchSample pins) s = .next t ∧ (∀ n : Fin 8, t.sw.levels[pinSwitch n] = read n)
          ∧ (∀ k : Switch, 8 ≤ k.val → t.sw.levels[k] = s.sw.levels[k])
          ∧ t = { atTime s (max s.now s.sw.sampleDue) with
              sw := { s.sw with
                sampleDue := s.sw.sampleDue + 1 * Config.ms, pinsSampled := true, levels := t.sw.levels } })
    ∧ (s.unitsRun = true → s.sw.pinsSampled = true →
        ∃ t, exec (.switchSample pins) s = .next t
          ∧ (∀ n : Fin 8, t.sw.levels[pinSwitch n] = (if accepts n then read n else old n)
              ∧ t.sw.counts[n] = (if read n = old n ∨ accepts n then 0 else s.sw.counts[n] + 1))
          ∧ (∀ k : Switch, 8 ≤ k.val → t.sw.levels[k] = s.sw.levels[k])
          ∧ (s.sw.events.length ≤ 16 →
              t.sw.events = (s.sw.events ++ changed.map
                (fun n => ({ switch := pinSwitch n, level := read n } : SwitchEvent))).take 16
              ∧ NoticesJoin s t ((changed.drop (16 - s.sw.events.length)).map
                fun n => .switchLost (pinSwitch n) (read n)))
          ∧ t = { atTime s (max s.now s.sw.sampleDue) with
              sw := { s.sw with
                sampleDue := s.sw.sampleDue + 1 * Config.ms, levels := t.sw.levels, counts := t.sw.counts
                events := t.sw.events }
              rpt := t.rpt })

/-- R145, R147 to R149: ATTN_TAKE, ATTN_RELEASE, REFRESH_TIMER, PENDING_CHANGE_DUE and SCANNER_WORK, whose read begins with
the expander's address and the read direction. (Local time moves to a
timer's end: log entry 2; an event without its condition: log entry 5; the level of ATTN: log entry 24.) -/
def Obligations.ScannerWork : Prop :=
  ∀ (s : State) (attn : Bool),
    (s.unitsRun = true → s.cfg.anyExpander = true → s.sw.attnTaken = false →
      exec .attnTake s = .next { s with sw := { s.sw with attention := true, attnTaken := true } })
    ∧ (s.sw.attnTaken = true → exec .attnTake s = .next s
        ∧ exec .attnRelease s = .next { s with sw := { s.sw with attnTaken := false } })
    ∧ (s.unitsRun = true →
      exec .refreshTimer s = .next
        { atTime s (max s.now s.sw.refreshDue) with
          sw := { s.sw with refresh := true, refreshDue := s.sw.refreshDue + 50 * Config.ms } })
    ∧ (∀ (e : Expander) (i : Fin 8) (due : Nat), s.sw.expanders[e].changes[i] = some due →
      exec (.pendingChangeDue e i) s = .next
        { atTime s (max s.now due) with
          sw := { s.sw with
            expanders := vmap (fun k x => if k = e then { x with reread := true } else x) s.sw.expanders } })
    ∧ (∀ (e : Expander) (i : Fin 8), s.sw.expanders[e].changes[i] = none →
      exec (.pendingChangeDue e i) s = .next s)
    ∧ (s.unitsRun = true → s.cfg.anyExpander = true → s.sw.scan = .idle →
      let wanted := fun e : Expander =>
        s.cfg.expanders[e] && s.sw.expanders[e].reread && s.sw.expanders[e].status == .ok
      let covered := (indices 3).filter fun e : Expander =>
        s.cfg.expanders[e] && (s.sw.refresh || s.sw.expanders[e].status == .ok)
      let call := fun e : Expander => ({ address := s.cfg.addresses[e], read := true } : ScanCall)
      (∀ e : Expander, wanted e = true → (∀ k, k < e → wanted k = false) →
        exec (.scannerWork attn) s = .next { s with sw := { s.sw with scan := .reread e, call := some (call e) } })
      ∧ ((∀ e, wanted e = false) → s.sw.refresh = true ∨ s.sw.attention = true →
        exec (.scannerWork attn) s = .next
          { s with
            sw := { s.sw with
              refresh := false
              attention := covered.isEmpty && attn
              scan := if covered.isEmpty then .idle else .pass covered
              call := covered.head?.map call } })
      ∧ ((∀ e, wanted e = false) → s.sw.refresh = false → s.sw.attention = false →
        exec (.scannerWork attn) s = .next s))

/-- R145, R146, R147, R150, R151, R152: EXPANDER_READ. An event that finds 16 waiting is discarded, with a SWITCH_LOST notice.
(The level of ATTN is an operand: log entry 24; a request taken in the course of a pass stays: log entry 39; SWITCH_LOST
notices come before a FAULT notice of the same read: log entry 10.) -/
def Obligations.ExpanderRead : Prop :=
  ∀ (first retry : Option Byte) (attn : Bool) (s : State) (e : Expander) (rest : List Expander) (inPass : Bool),
    s.sw.scan = (if inPass then .pass (e :: rest) else .reread e) →
    ∃ t, exec (.expanderRead first retry attn) s = .next t
      ∧ t.sw.scan = (if inPass = true ∧ rest ≠ [] then .pass rest else .idle)
      ∧ t.sw.call = (if inPass then rest.head?.map fun k => { address := s.cfg.addresses[k], read := true } else none)
      ∧ t.sw.attention = (s.sw.attention || (inPass && rest.isEmpty && attn))
      ∧ (first = none → retry = none →
          t.sw.expanders[e].status = .failed ∧ t.sw.expanders[e].reread = false
            ∧ (∀ i : Fin 8, t.sw.expanders[e].changes[i] = none)
            ∧ t.sw.expanders[e].primed = s.sw.expanders[e].primed
            ∧ t.sw.levels = s.sw.levels ∧ t.sw.events = s.sw.events ∧ t.hasFault .expander = true
            ∧ NoticesJoin s t (ownFaultNotice s t))
      ∧ (∀ v : Byte, first = some v ∨ first = none ∧ retry = some v →
          let read := fun i : Fin 8 => if v.getLsbD i.val then Level.opened else Level.closed
          let old := fun i : Fin 8 => s.sw.levels[expanderSwitch e i]
          let change := fun i : Fin 8 => s.sw.expanders[e].changes[i]
          let time := fun i : Fin 8 => match s.cfg.rules[expanderSwitch e i].debounce with
            | .fast => 2
            | .normal => 8
            | .slow => 32
          let confirms := fun i : Fin 8 => decide (read i ≠ old i) && (match change i with
            | some due => decide (due ≤ s.now)
            | none => false)
          let changed := if s.sw.expanders[e].primed = true then (indices 8).filter confirms else []
          t.sw.expanders[e].status = .ok ∧ t.sw.expanders[e].primed = true
          ∧ (t.sw.expanders[e].reread = true ↔ s.sw.expanders[e].reread = true
              ∧ ∃ i : Fin 8, ∃ due, t.sw.expanders[e].changes[i] = some due ∧ due ≤ s.now)
          ∧ (s.sw.expanders[e].primed = false → t.sw.expanders[e].changes = s.sw.expanders[e].changes)
          ∧ (s.sw.expanders[e].primed = false →
              ∀ i : Fin 8, t.sw.levels[expanderSwitch e i] = read i)
          ∧ (s.sw.expanders[e].primed = true →
              ∀ i : Fin 8, t.sw.levels[expanderSwitch e i] = (if confirms i then read i else old i)
                ∧ t.sw.expanders[e].changes[i] =
                  (if read i = old i ∨ confirms i then none
                  else some ((change i).getD (s.now + time i * Config.ms))))
          ∧ (s.sw.events.length ≤ 16 →
              t.sw.events = (s.sw.events ++ changed.map
                (fun i => ({ switch := expanderSwitch e i, level := read i } : SwitchEvent))).take 16
              ∧ NoticesJoin s t (((changed.drop (16 - s.sw.events.length)).map
                fun i => .switchLost (expanderSwitch e i) (read i)) ++ ownFaultNotice s t))
          ∧ (s.sw.expanders[e].status = .ok → t.ctl = s.ctl)
          ∧ (s.sw.expanders[e].status = .failed →
              (∀ k : Expander, k ≠ e → s.cfg.expanders[k] = true → s.sw.expanders[k].status = .ok) →
              t.hasFault .expander = false))
      ∧ (∀ k : Expander, k ≠ e → t.sw.expanders[k] = s.sw.expanders[k])
      ∧ (∀ k : Switch, (∀ i : Fin 8, k ≠ expanderSwitch e i) → t.sw.levels[k] = s.sw.levels[k])
      ∧ t.table = s.table ∧ t.eng = s.eng ∧ t.bus = s.bus ∧ t.claim = s.claim ∧ t.sen = s.sen ∧ t.drv = s.drv
      ∧ t.cfg = s.cfg ∧ t.now = s.now ∧ t.pending = s.pending
      ∧ t.ctl = { s.ctl with faults := t.ctl.faults } ∧ t.ctl.faults &&& 0xEF#8 = s.ctl.faults &&& 0xEF#8

/-! ### Sensors -/

/-- R156 to R159. MEASUREMENT_END: the count as R157 stores it, and what its class does to the channel's runs, its state and
the SENSOR fault; the sweep's rest, and the bus but for R109's passing of time, are as they were. (Local time moves to the
window's end: log entry 2.) -/
def Obligations.MeasurementDecision : Prop :=
  ∀ (s : State) (edges : Nat) (ch : Channel) (rest : List Channel), s.sen.sweep = ch :: rest →
    let r := s.sen.channels[ch]
    let c := s.cfg.channels[ch]
    let invalid := edges = 0 ∨ 65535 < edges
    ∃ t, exec (.measurementEnd edges) s = .next t
      ∧ t.sen.sweep = rest
      ∧ (∀ k : Channel, k ≠ ch → t.sen.channels[k] = s.sen.channels[k])
      ∧ t.sen.channels[ch].count = min 65535 edges
      ∧ t.sen.channels[ch].overrange = decide (65535 < edges)
      ∧ (r.state ≠ .fault → t.sen.channels[ch] = { r with
            count := min 65535 edges
            overrange := decide (65535 < edges)
            lowRun := if ¬invalid ∧ edges < c.lower then min 3 (r.lowRun + 1) else 0
            highRun := if ¬invalid ∧ c.lower ≤ edges ∧ c.upper < edges then min 3 (r.highRun + 1) else 0
            invalidRun := if invalid ∧ r.invalidRun < 2 then r.invalidRun + 1 else 0
            validRun := if invalid ∧ 2 ≤ r.invalidRun then 0 else r.validRun
            state :=
              if invalid then if 2 ≤ r.invalidRun then .fault else r.state
              else if edges < c.lower then if 2 ≤ r.lowRun then .present else r.state
              else if c.upper < edges then if 2 ≤ r.highRun then .absent else r.state
              else r.state })
      ∧ (r.state = .fault → t.sen.channels[ch] =
            if invalid then
              { r with count := min 65535 edges, overrange := decide (65535 < edges), validRun := 0 }
            else if r.validRun < 2 then
              { r with count := min 65535 edges, overrange := decide (65535 < edges), validRun := r.validRun + 1 }
            else
              { r with
                count := min 65535 edges, overrange := decide (65535 < edges), validRun := 0, lowRun := 0
                highRun := 0, invalidRun := 0, state := .unknown })
      ∧ (t.sen.channels[ch].state = .fault → r.state ≠ .fault → t.hasFault .sensor = true)
      ∧ (r.state = .fault → t.sen.channels[ch].state ≠ .fault →
          (∀ k : Channel, k ≠ ch → s.sen.channels[k].state ≠ .fault) → t.hasFault .sensor = false)
      ∧ t.table = s.table ∧ t.eng = s.eng ∧ t.bus = (atTime s (max s.now s.sen.windowDue)).bus ∧ t.sw = s.sw
      ∧ t.cfg = s.cfg ∧ t.pending = s.pending

/-! ### Drivers -/

/-- R163: PULSE_END and RECYCLE_END: the pin goes off, a verified pulse whose duty still holds is verified, any other
recycles, or passes straight on with a recycle of 0; a recycle that has ended leaves the output QUEUED if a request for it
waits and IDLE otherwise, unless the arbiter has granted that request. Nothing outside the Driver Unit changes but DRIVE, the
lamps and the report port. (Local time moves to a timer's end: log entry 2; an event without its condition: log entry 5.) -/
def Obligations.PulseAndRecycleEnd : Prop :=
  ∀ (o : Output) (s : State),
    let r := s.drv.outputs[o]
    let ends := max s.now r.due
    (r.state = .pulse →
      ∃ t, exec (.pulseEnd o) s = .next t ∧ t.now = ends ∧ DriverFrame s t ∧ t.claim = s.claim
        ∧ (∀ n : Slot, ∀ x : EjectDuty, r.attemptOpen = true → r.duty = some (.eject n) →
            s.cfg.outputs[o].role = .eject → s.drv.ejects[n] = some x → s.ejectHolds n = some x.kind →
            t.drv.drvPin o = false
              ∧ t.drv.outputs[o] = { r with state := .verify, due := ends + s.cfg.outputs[o].verify * Config.ms })
        ∧ (r.attemptOpen = true → r.duty = some .serve → s.cfg.outputs[o].role = .serve → s.serveHolds = true →
            t.drv.drvPin o = false
              ∧ t.drv.outputs[o] = { r with state := .verify, due := ends + s.cfg.outputs[o].verify * Config.ms })
        ∧ (r.attemptOpen = false ∨ r.duty = none ∨ (∀ id, r.duty = some id → s.cfg.verifies o id = false) →
            GoesOn s t o ∧ (0 < s.cfg.outputs[o].recycle → t.drv.drvPin o = false)))
    ∧ (r.state = .recycle →
      ∃ t, exec (.recycleEnd o) s = .next t ∧ t.now = ends ∧ DriverFrame s t ∧ t.claim = s.claim
        ∧ t.drv.outputs[o].state ≠ .recycle ∧ t.drv.outputs[o].state ≠ .verify
        ∧ ((s.drv.requests.map Request.output).Nodup →
            PassedOn t o
            ∧ (∀ q ∈ s.drv.requests, q.output = o →
                ((∃ n, q.duty = .scoop n) ∨ (q.duty = .serve ∧ s.serveHolds = true)
                  ∨ ∃ n x, q.duty = .eject n ∧ s.drv.ejects[n] = some x ∧ s.ejectHolds n = some x.kind
                    ∧ s.boundState n = some .present) →
                t.drv.outputs[o].state ≠ .idle)))
    ∧ (r.state ≠ .pulse → exec (.pulseEnd o) s = .next s)
    ∧ (r.state ≠ .recycle → exec (.recycleEnd o) s = .next s)

/-- R163, R167, R168, R170: VERIFY_TIMEOUT: a success with the channel ABSENT, one more failure otherwise, the third of which
takes an eject duty to RETRYING, with a RELEASE's JAMMED asked for, and a serve to DRIVE; the output recycles, or passes
straight on. Nothing outside the Driver Unit changes but that claim, DRIVE, the lamps and the report port. (Local time: log
entry 2; an event without its condition: log entry 5.) -/
def Obligations.VerifyTimeout : Prop :=
  ∀ (o : Output) (s : State),
    let r := s.drv.outputs[o]
    let ends := max s.now r.due
    (r.state = .verify →
      ∃ t, exec (.verifyTimeout o) s = .next t ∧ t.now = ends ∧ DriverFrame s t ∧ GoesOn s t o
        ∧ ((∀ n, r.duty ≠ some (.eject n)) → t.claim = s.claim)
        ∧ (∀ n : Slot, r.duty = some (.eject n) → ∀ c ∈ t.claim.queue, c ∈ s.claim.queue ∨ c.payload = .jammed n)
        ∧ (∀ (n : Slot) (x : EjectDuty), r.duty = some (.eject n) → s.drv.ejects[n] = some x →
            s.ejectHolds n = some x.kind →
            ∃ y, t.drv.ejects[n] = some y ∧ y.kind = x.kind
              ∧ (s.boundState n = some .absent → y.count = 0 ∧ y.phase = .attempting ∧ t.claim = s.claim)
              ∧ (s.boundState n ≠ some .absent →
                  y.count = min 3 (x.count + 1) ∧ y.phase = (if x.count + 1 < 3 then x.phase else .retrying)
                    ∧ (x.count + 1 < 3 ∨ x.kind ≠ .release → t.claim = s.claim)
                    ∧ (3 ≤ x.count + 1 → y.retryDue = some (ends + 5000 * Config.ms)
                        ∧ (x.kind = .release → JammedAsked s t n))))
        ∧ (r.duty = some .serve → s.serveHolds = true → s.drv.serve.failed + 1 < 3 →
            t.drv.serve.failed = s.drv.serve.failed + 1)
        ∧ (r.duty = some .serve → s.serveHolds = true → 2 ≤ s.drv.serve.failed →
            t.drv.serve.failed = 3 ∧ t.drv.serve.retryDue = some (ends + 5000 * Config.ms)
              ∧ t.hasFault .drive = true))
    ∧ (r.state ≠ .verify → exec (.verifyTimeout o) s = .next s)

/-- R167, R168, R170, R171: EJECT_RETRY_TIMER, SERVE_RETRY_TIMER and SCOOP_DWELL_END: the timer has ended and its duty wants
its pulse, or has counted its failure, and a RELEASE whose count stands at 3 asks for its JAMMED. Nothing outside the Driver
Unit changes but that claim, DRIVE, the lamps and the report port. (Local time: log entry 2; an event without its condition:
log entry 5.) -/
def Obligations.DutyTimers : Prop :=
  ∀ s : State,
    (∀ (n : Slot) (x : EjectDuty) (o : Output) (due : Nat), s.drv.ejects[n] = some x → x.retryDue = some due →
      s.cfg.ejectOutput n = some o →
      ∃ t, exec (.ejectRetryTimer n) s = .next t ∧ t.now = max s.now due ∧ DriverFrame s t
        ∧ (x.kind ≠ .release → t.claim = s.claim)
        ∧ (∀ c ∈ t.claim.queue, c ∈ s.claim.queue ∨ c.payload = .jammed n)
        ∧ (s.ejectHolds n = some x.kind →
          ∃ y, t.drv.ejects[n] = some y ∧ y.kind = x.kind
          ∧ (x.phase = .attempting →
              y.count = min 3 (x.count + 1) ∧ y.phase = (if x.count + 1 < 3 then .attempting else .retrying)
              ∧ (x.kind = .release → 3 ≤ x.count + 1 → JammedAsked s t n))
          ∧ (x.phase = .retrying → s.boundState n = some .present → s.cfg.outputs[o].disabled = false →
              y.phase = .retrying ∧ y.retryDue = none
                ∧ (y.want = true ∨ t.drv.hasRequest (.eject n) = true ∨ t.drv.hasOpenAttempt (.eject n) = true))
          ∧ (x.phase = .retrying → s.boundState n ≠ some .present ∨ s.cfg.outputs[o].disabled = true →
              y.phase = .retrying ∧ y.retryDue = some (max s.now due + 5000 * Config.ms))
          ∧ (x.phase = .retrying → x.kind = .release → x.count = 3 →
              s.boundState n = some .unknown ∨ s.boundState n = some .fault ∨ s.cfg.outputs[o].disabled = true →
              JammedAsked s t n)
          ∧ (x.phase = .retrying → s.boundState n = some .present ∨ s.boundState n = some .absent →
              s.cfg.outputs[o].disabled = false → t.claim = s.claim)))
    ∧ (∀ due, s.drv.serve.retryDue = some due →
      ∃ t, exec .serveRetryTimer s = .next t ∧ t.now = max s.now due ∧ DriverFrame s t ∧ t.claim = s.claim
        ∧ (s.serveHolds = true → t.drv.serve.retryDue = none
          ∧ (t.drv.serve.retryReady = true ∨ t.drv.hasRequest .serve = true ∨ t.drv.hasOpenAttempt .serve = true)))
    ∧ (∀ (n : Switch) (x : ScoopDuty) (due : Nat), s.drv.scoops[n] = some x → x.dwellDue = some due →
      ∃ t, exec (.scoopDwellEnd n) s = .next t ∧ t.now = max s.now due ∧ DriverFrame s t ∧ t.claim = s.claim
        ∧ (x.await = false → ∃ y, t.drv.scoops[n] = some y ∧ y.dwellDue = none
          ∧ (y.want = true ∨ t.drv.hasRequest (.scoop n) = true ∨ x.pulses < y.pulses)))
    ∧ (s.drv.serve.retryDue = none → exec .serveRetryTimer s = .next s)
    ∧ (∀ n : Slot, s.drv.ejects[n] = none → exec (.ejectRetryTimer n) s = .next s)
    ∧ (∀ n : Switch, s.drv.scoops[n] = none → exec (.scoopDwellEnd n) s = .next s)

/-- R171: the life of a SCOOP_KICK behind its hand-on and its dwell: its unverified pulse waits for the output's recycle, the
recycle's end reads the switch, and a tilt or a game over cancels it while its dwell runs or its request waits or has still to
be entered (log entry 23), creating it anew with no dwell, behind the requests that wait, where the switch is CLOSED. (That
its request stands behind the eject and serve requests entered at the same hand-off too is log entry 10. Local time moves
to a timer's end: log entry 2. `settled`: the output of a kick that waits for its recycle has no attempt open, since
an attempt is open only in PULSE or VERIFY, R163, PulseBudgetKept.) -/
def Obligations.ScoopKick : Prop :=
  (∀ (s : State) (n : Switch) (x : ScoopDuty) (o : Output), s.drv.scoops[n] = some x → x.driver = o →
    s.drv.outputs[o].state = .pulse → s.drv.outputs[o].attemptOpen = true → s.drv.outputs[o].duty = some (.scoop n) →
    ∃ t, exec (.pulseEnd o) s = .next t
      ∧ (0 < s.cfg.outputs[o].recycle → Recycles t o
          ∧ ∃ y, t.drv.scoops[n] = some y ∧ y.driver = o ∧ y.await = true ∧ x.pulses ≤ y.pulses)
      ∧ (s.cfg.outputs[o].recycle = 0 → ScoopReads s t n x))
  ∧ (∀ (s : State) (n : Switch) (x : ScoopDuty) (o : Output), s.drv.scoops[n] = some x → x.driver = o →
    x.await = true → s.drv.outputs[o].state = .recycle →
    ∃ t, exec (.recycleEnd o) s = .next t ∧ ScoopReads s t n x)
  ∧ (∀ (s : State) (f : Frame), Undisturbed s f → ∀ (n : Switch) (x : ScoopDuty), s.drv.scoops[n] = some x →
    ∃ t, exec (commandOf f) s = .next t
      ∧ (let ends := (s.table.tilted = false ∧ t.table.tilted = true)
          ∨ (s.table.phase ≠ .attract ∧ t.table.phase = .attract)
        let waits := x.dwellDue.isSome = true ∨ x.want = true ∨ RequestWaits s (.scoop n)
        let request : Request := { output := x.driver, duty := .scoop n }
        let settled := x.await = true → s.drv.outputs[x.driver].attemptOpen = false
        (¬(ends ∧ waits) → settled →
          ∃ y, t.drv.scoops[n] = some y ∧ y.driver = x.driver ∧ y.dwellDue = x.dwellDue ∧ y.await = x.await
            ∧ x.pulses ≤ y.pulses ∧ (¬waits → y = x))
        ∧ (ends → waits → s.sw.levels[n] = .opened → settled →
            t.drv.scoops[n] = none ∧ ¬RequestWaits t (.scoop n) ∧ ¬AttemptOpen t (.scoop n))
        ∧ (ends → waits → s.sw.levels[n] = .closed → settled →
            (∃ y, t.drv.scoops[n] = some y ∧ y.driver = x.driver ∧ y.dwellDue = none ∧ y.await = false
              ∧ (y.want = true ∨ RequestWaits t (.scoop n) ∨ 0 < y.pulses))
            ∧ (request ∈ t.drv.requests → ∀ q ∈ t.drv.requests, (∀ k, q.duty ≠ .scoop k) →
                [q, request].Sublist t.drv.requests))))

/-- R164 to R170: how the duties stand behind every end of a Driver Unit timer, every sensor decision delivered, every scoop and
launch-confirm hand-on and every application; that a duty which has
ended keeps no request and no attempt (R169); and the arbiter's grant of the oldest request that can be granted (R165). (That
the Driver Unit derives behind the Claim Unit at a hand-off and at a delivery, by the latches and BOUNCE requests as that left
them, is log entry 10; the moments of a derivation are log entry 25, the waits for an output to recycle log entry 20; that a
BOUNCE request which no longer stands is forgotten is log entry 45, and that a duty in RETRYING whose channel leaves PRESENT
gives up a pulse it has not asked for log entry 47; that an attempt is open only at an output in
PULSE or VERIFY is kept: PulseBudgetKept.) -/
def Obligations.DutiesDerived : Prop :=
  (∀ (c : Instr) (s : State), PulseBudget s →
    ((∃ o, c = .pulseEnd o ∧ s.drv.outputs[o].state = .pulse)
      ∨ (∃ o, c = .verifyTimeout o ∧ s.drv.outputs[o].state = .verify)
      ∨ (∃ o, c = .recycleEnd o ∧ s.drv.outputs[o].state = .recycle)
      ∨ (∃ n x, c = .ejectRetryTimer n ∧ s.drv.ejects[n] = some x ∧ x.retryDue ≠ none ∧ s.cfg.boundTo n ≠ none)
      ∨ (c = .serveRetryTimer ∧ s.drv.serve.retryDue ≠ none)
      ∨ (∃ n x, c = .scoopDwellEnd n ∧ s.drv.scoops[n] = some x ∧ x.dwellDue ≠ none)
      ∨ (∃ edges ch rest, c = .measurementEnd edges ∧ s.sen.sweep = ch :: rest
          ∧ (s.sen.channels[ch].measured s.cfg.channels[ch] edges).state ≠ s.sen.channels[ch].state)
      ∨ (∃ e rest, c = .switchEventTake ∧ s.unitsRun = true ∧ s.sw.events = e :: rest
          ∧ (s.cfg.rules[e.switch].kind = .scoop
            ∨ s.cfg.rules[e.switch].kind = .launchConfirm ∧ s.cfg.rules[e.switch].edge = e.level))
      ∨ (∃ f, c = commandOf f ∧ TakesNext s f)) →
    ∃ t, exec c s = .next t ∧ DutiesStand t
      ∧ (∀ n : Slot, s.drv.ejects[n] ≠ none → t.drv.ejects[n] = none →
          ¬RequestWaits t (.eject n) ∧ ¬AttemptOpen t (.eject n))
      ∧ (s.drv.serve.holds = true → t.drv.serve.holds = false → ¬RequestWaits t .serve ∧ ¬AttemptOpen t .serve))
  ∧ (∀ (s : State) (older newer : List Request) (r : Request), s.drv.requests = older ++ r :: newer →
    (∀ q ∈ older ++ newer, q.output ≠ r.output) →
    (∀ q ∈ older, ¬(s.drv.outputs[q.output].state = .queued ∧ WithinBudget s q.output)) →
    s.drv.outputs[r.output].state = .queued → WithinBudget s r.output →
    r ∉ s.arbiter.drv.requests
      ∧ s.arbiter.drv.outputs[r.output] =
        { state := .pulse, duty := some r.duty, attemptOpen := true
          due := s.now + s.cfg.outputs[r.output].pulse * Config.ms })

/-! ### Lamps and the report port -/

/-- R172, R173, R156, R157: the lamps by their bindings behind an application, and the periods of local time (log entry 2).
ATTRACT_HALF_CYCLE: the even lamps light in the first half and
the odd ones in the second, but for those bound to FAULT. SWEEP_DUE: a sweep begins, or is skipped (or, with the units not
running, nothing changes: log entry 5). MEASUREMENT_END: the next window begins with no gap. -/
def Obligations.PeriodicEvents : Prop :=
  (∀ s : State, s.lamp.manner = .attract → s.lampManner = .attract →
    ∃ t, exec .attractHalfCycle s = .next t ∧ t.now = max s.now s.lamp.halfDue
      ∧ t.lamp.manner = .attract ∧ t.lamp.secondHalf = !s.lamp.secondHalf
      ∧ t.lamp.halfDue = s.lamp.halfDue + 500 * Config.ms
      ∧ (∀ n : Lamp, s.cfg.lamps[n].source ≠ .fault →
          t.lamp.levels[n] = (if s.lamp.secondHalf then n.val % 2 == 0 else n.val % 2 == 1))
      ∧ (∀ n : Lamp, s.cfg.lamps[n].source = .fault →
          t.lamp.levels[n] = ((s.ctl.faults != 0#8) != s.cfg.lamps[n].invert))
      ∧ t = { atTime s t.now with lamp := t.lamp })
  ∧ (∀ (s : State) (f : Frame), TakesNext s f →
    ∃ t, exec (commandOf f) s = .next t
      ∧ (t.isValid = true → t.table.phase ≠ .attract → t.ctl.state ≠ .loading → t.ctl.state ≠ .unconfigured →
        let b := t.table
        let player := b.players[b.currentPlayer]
        let slow := decide (b.tick.toNat % 8 ≤ 3)
        let fast := decide (b.tick.toNat % 2 = 0)
        let lit : LampSource → Bool := fun
          | .slot n => match b.slots[n] with
            | .opened _ => slow
            | .held _ _ => true
            | .releasing _ _ | .jammed _ _ | .strandedHeld _ _ | .strandedReleasing _ _ => fast
            | .dark _ | .absent => false
          | .mode m =>
            match (b.modes.filter fun e => e.mode == m && e.player == b.currentPlayer && e.state != .suspended).head? with
            | some e => if e.state = .paused then true else if 1 ≤ e.remaining ∧ e.remaining ≤ 49 then fast else slow
            | none => player.completed.getLsbD m.val
          | .locksLit v => decide (v ≤ player.locksLit)
          | .multiball => b.multiball
          | .jackpot => b.multiball && fast
          | .playerUp q => decide (b.phase = .play ∧ b.currentPlayer = q)
          | .save => decide (0 < b.saveWindow) && slow
          | .sweep => player.sweepQualified && slow
          | .fault => decide (t.ctl.faults ≠ 0#8)
          | .none => false
        ∀ n : Lamp, t.lamp.levels[n] = (lit t.cfg.lamps[n].source != t.cfg.lamps[n].invert)))
  ∧ (∀ s : State,
    let at' := max s.now s.sen.sweepDue
    let next := s.sen.sweepDue + s.cfg.sweepPeriod * Config.ms
    (s.unitsRun = true → s.sen.sweep = [] → ∀ (ch : Channel) (rest : List Channel),
      (s.cfg.scanList.filter fun k => s.cfg.channels[k].inUse) = ch :: rest →
      exec .sweepDue s = .next
        { atTime s at' with
          sen := { s.sen with
            sweep := ch :: rest, windowDue := at' + s.cfg.channels[ch].window * 256, sweepDue := next } })
    ∧ (s.unitsRun = true → s.sen.sweep ≠ [] →
      exec .sweepDue s = .next { atTime s at' with sen := { s.sen with sweepDue := next } })
    ∧ (s.unitsRun = false → exec .sweepDue s = .next s))
  ∧ (∀ (s : State) (edges : Nat) (ch next : Channel) (more : List Channel), s.sen.sweep = ch :: next :: more →
      ∃ t, exec (.measurementEnd edges) s = .next t ∧ t.now = max s.now s.sen.windowDue
        ∧ t.sen.windowDue = t.now + s.cfg.channels[next].window * 256 ∧ t.sen.sweepDue = s.sen.sweepDue)

/-- R182 to R184: creating a notice, NOTICE_SEND, and the bytes of every kind of notice. (The ordinal is the table's in
every state, also behind an adoption of the ATTRACT defaults: log entry 40. The line is held as the bytes of the notice, with the time of their end: log entry 27. A number
of several bytes goes out most significant byte first: log entry 43. Local time moves to the end of the notice being
sent: log entry 2; with an empty FIFO nothing changes: log entry 5.) -/
def Obligations.ReportPort : Prop :=
  (∀ (s : State) (body : NoticeBody),
    (s.rpt.enabled = false → s.notify body = s)
    ∧ (s.rpt.enabled = true →
        s.notify body = { s with
          rpt := { s.rpt with
            number := s.rpt.number + 1#8
            fifo := if s.rpt.fifo.length < 32 then
                s.rpt.fifo ++ [{ number := s.rpt.number, ordinal := s.table.ordinal.truncate 16, body := body }]
              else s.rpt.fifo } }))
  ∧ (∀ (s : State) (n : Notice) (rest : List Notice), s.rpt.fifo = n :: rest →
      exec .noticeSend s = .next
        { atTime s (max s.now s.rpt.busyUntil) with
          rpt := { s.rpt with
            fifo := rest
            line := n.bytes
            busyUntil := max s.now s.rpt.busyUntil + Config.uartTime n.bytes.length } })
  ∧ (∀ s : State, s.rpt.fifo = [] → exec .noticeSend s = .next s)
  ∧ (∀ n : Notice,
      let code := (noticeLayout n.body).1
      let fields := (noticeLayout n.body).2
      let checked := [n.number, BitVec.ofNat 8 code] ++ bigEndian 2 n.ordinal.toNat
        ++ [BitVec.ofNat 8 fields.length] ++ fields
      n.bytes = [0x7E#8] ++ checked ++ [crc8 (bytesToBits checked)])

/-! ### Laws that every step keeps -/

/-- R1, R2: the table of station states and replica validity is kept by every step. -/
def Obligations.ReplicaFollowsStateKept : Prop :=
  ∀ s t : State, ReplicaFollowsState s → step s = .next t → ReplicaFollowsState t

/-- R50: the ball law is kept by every step. -/
def Obligations.BallLawKept : Prop :=
  ∀ s t : State, ReplicaFollowsState s → BallLaw s → step s = .next t → BallLaw t

/-- R165, R163: the pulse budget is kept by every step, and no attempt is open at an output that neither pulses nor waits
for its verification. -/
def Obligations.PulseBudgetKept : Prop :=
  ∀ s t : State, PulseBudget s → step s = .next t → PulseBudget t

/-- R120, R128, R152, R182, R22, R11, R164: no step brings a buffer past its capacity. -/
def Obligations.CapacitiesKept : Prop :=
  ∀ s t : State, WithinCapacity s → step s = .next t → WithinCapacity t

/-- R127, R128: every step keeps the claim queue in its order, with at most one claim IN_FLIGHT, and that only while this
station transmits. -/
def Obligations.ClaimQueueKept : Prop :=
  ∀ s t : State, ClaimQueueOrdered s → step s = .next t → ClaimQueueOrdered t

/-- R52, R53: every step keeps every HELD slot the current player's, in PLAY, and every OPEN slot lit. -/
def Obligations.LockTableKept : Prop :=
  ∀ s t : State, HeldByCurrent s → OpenOnlyWhileLit s.table → step s = .next t →
    HeldByCurrent t ∧ OpenOnlyWhileLit t.table
end

