-- ==== Sys2Proof/Laws/State.lean ====
section
/-! SUPPORT. Laws/State.lean: one lemma for each block of the state under each setter, true by rfl, so that no later proof
unfolds an update of the state. -/

namespace Sys2Proof.Machine.State

variable (s : State)

@[simp] theorem setPending_pending (x : List Instr) : (s.setPending x).pending = x := rfl
@[simp] theorem setPending_now (x : List Instr) : (s.setPending x).now = s.now := rfl
@[simp] theorem setPending_ctl (x : List Instr) : (s.setPending x).ctl = s.ctl := rfl
@[simp] theorem setPending_cfg (x : List Instr) : (s.setPending x).cfg = s.cfg := rfl
@[simp] theorem setPending_table (x : List Instr) : (s.setPending x).table = s.table := rfl
@[simp] theorem setPending_eng (x : List Instr) : (s.setPending x).eng = s.eng := rfl
@[simp] theorem setPending_bus (x : List Instr) : (s.setPending x).bus = s.bus := rfl
@[simp] theorem setPending_claim (x : List Instr) : (s.setPending x).claim = s.claim := rfl
@[simp] theorem setPending_sw (x : List Instr) : (s.setPending x).sw = s.sw := rfl
@[simp] theorem setPending_sen (x : List Instr) : (s.setPending x).sen = s.sen := rfl
@[simp] theorem setPending_drv (x : List Instr) : (s.setPending x).drv = s.drv := rfl
@[simp] theorem setPending_lamp (x : List Instr) : (s.setPending x).lamp = s.lamp := rfl
@[simp] theorem setPending_rpt (x : List Instr) : (s.setPending x).rpt = s.rpt := rfl
@[simp] theorem setNow_pending (x : Nat) : (s.setNow x).pending = s.pending := rfl
@[simp] theorem setNow_now (x : Nat) : (s.setNow x).now = x := rfl
@[simp] theorem setNow_ctl (x : Nat) : (s.setNow x).ctl = s.ctl := rfl
@[simp] theorem setNow_cfg (x : Nat) : (s.setNow x).cfg = s.cfg := rfl
@[simp] theorem setNow_table (x : Nat) : (s.setNow x).table = s.table := rfl
@[simp] theorem setNow_eng (x : Nat) : (s.setNow x).eng = s.eng := rfl
@[simp] theorem setNow_bus (x : Nat) : (s.setNow x).bus = s.bus := rfl
@[simp] theorem setNow_claim (x : Nat) : (s.setNow x).claim = s.claim := rfl
@[simp] theorem setNow_sw (x : Nat) : (s.setNow x).sw = s.sw := rfl
@[simp] theorem setNow_sen (x : Nat) : (s.setNow x).sen = s.sen := rfl
@[simp] theorem setNow_drv (x : Nat) : (s.setNow x).drv = s.drv := rfl
@[simp] theorem setNow_lamp (x : Nat) : (s.setNow x).lamp = s.lamp := rfl
@[simp] theorem setNow_rpt (x : Nat) : (s.setNow x).rpt = s.rpt := rfl
@[simp] theorem setCtl_pending (x : Control) : (s.setCtl x).pending = s.pending := rfl
@[simp] theorem setCtl_now (x : Control) : (s.setCtl x).now = s.now := rfl
@[simp] theorem setCtl_ctl (x : Control) : (s.setCtl x).ctl = x := rfl
@[simp] theorem setCtl_cfg (x : Control) : (s.setCtl x).cfg = s.cfg := rfl
@[simp] theorem setCtl_table (x : Control) : (s.setCtl x).table = s.table := rfl
@[simp] theorem setCtl_eng (x : Control) : (s.setCtl x).eng = s.eng := rfl
@[simp] theorem setCtl_bus (x : Control) : (s.setCtl x).bus = s.bus := rfl
@[simp] theorem setCtl_claim (x : Control) : (s.setCtl x).claim = s.claim := rfl
@[simp] theorem setCtl_sw (x : Control) : (s.setCtl x).sw = s.sw := rfl
@[simp] theorem setCtl_sen (x : Control) : (s.setCtl x).sen = s.sen := rfl
@[simp] theorem setCtl_drv (x : Control) : (s.setCtl x).drv = s.drv := rfl
@[simp] theorem setCtl_lamp (x : Control) : (s.setCtl x).lamp = s.lamp := rfl
@[simp] theorem setCtl_rpt (x : Control) : (s.setCtl x).rpt = s.rpt := rfl
@[simp] theorem setCfg_pending (x : StationConfig) : (s.setCfg x).pending = s.pending := rfl
@[simp] theorem setCfg_now (x : StationConfig) : (s.setCfg x).now = s.now := rfl
@[simp] theorem setCfg_ctl (x : StationConfig) : (s.setCfg x).ctl = s.ctl := rfl
@[simp] theorem setCfg_cfg (x : StationConfig) : (s.setCfg x).cfg = x := rfl
@[simp] theorem setCfg_table (x : StationConfig) : (s.setCfg x).table = s.table := rfl
@[simp] theorem setCfg_eng (x : StationConfig) : (s.setCfg x).eng = s.eng := rfl
@[simp] theorem setCfg_bus (x : StationConfig) : (s.setCfg x).bus = s.bus := rfl
@[simp] theorem setCfg_claim (x : StationConfig) : (s.setCfg x).claim = s.claim := rfl
@[simp] theorem setCfg_sw (x : StationConfig) : (s.setCfg x).sw = s.sw := rfl
@[simp] theorem setCfg_sen (x : StationConfig) : (s.setCfg x).sen = s.sen := rfl
@[simp] theorem setCfg_drv (x : StationConfig) : (s.setCfg x).drv = s.drv := rfl
@[simp] theorem setCfg_lamp (x : StationConfig) : (s.setCfg x).lamp = s.lamp := rfl
@[simp] theorem setCfg_rpt (x : StationConfig) : (s.setCfg x).rpt = s.rpt := rfl
@[simp] theorem setTable_pending (x : GameTable) : (s.setTable x).pending = s.pending := rfl
@[simp] theorem setTable_now (x : GameTable) : (s.setTable x).now = s.now := rfl
@[simp] theorem setTable_ctl (x : GameTable) : (s.setTable x).ctl = s.ctl := rfl
@[simp] theorem setTable_cfg (x : GameTable) : (s.setTable x).cfg = s.cfg := rfl
@[simp] theorem setTable_table (x : GameTable) : (s.setTable x).table = x := rfl
@[simp] theorem setTable_eng (x : GameTable) : (s.setTable x).eng = s.eng := rfl
@[simp] theorem setTable_bus (x : GameTable) : (s.setTable x).bus = s.bus := rfl
@[simp] theorem setTable_claim (x : GameTable) : (s.setTable x).claim = s.claim := rfl
@[simp] theorem setTable_sw (x : GameTable) : (s.setTable x).sw = s.sw := rfl
@[simp] theorem setTable_sen (x : GameTable) : (s.setTable x).sen = s.sen := rfl
@[simp] theorem setTable_drv (x : GameTable) : (s.setTable x).drv = s.drv := rfl
@[simp] theorem setTable_lamp (x : GameTable) : (s.setTable x).lamp = s.lamp := rfl
@[simp] theorem setTable_rpt (x : GameTable) : (s.setTable x).rpt = s.rpt := rfl
@[simp] theorem setEng_pending (x : Engine) : (s.setEng x).pending = s.pending := rfl
@[simp] theorem setEng_now (x : Engine) : (s.setEng x).now = s.now := rfl
@[simp] theorem setEng_ctl (x : Engine) : (s.setEng x).ctl = s.ctl := rfl
@[simp] theorem setEng_cfg (x : Engine) : (s.setEng x).cfg = s.cfg := rfl
@[simp] theorem setEng_table (x : Engine) : (s.setEng x).table = s.table := rfl
@[simp] theorem setEng_eng (x : Engine) : (s.setEng x).eng = x := rfl
@[simp] theorem setEng_bus (x : Engine) : (s.setEng x).bus = s.bus := rfl
@[simp] theorem setEng_claim (x : Engine) : (s.setEng x).claim = s.claim := rfl
@[simp] theorem setEng_sw (x : Engine) : (s.setEng x).sw = s.sw := rfl
@[simp] theorem setEng_sen (x : Engine) : (s.setEng x).sen = s.sen := rfl
@[simp] theorem setEng_drv (x : Engine) : (s.setEng x).drv = s.drv := rfl
@[simp] theorem setEng_lamp (x : Engine) : (s.setEng x).lamp = s.lamp := rfl
@[simp] theorem setEng_rpt (x : Engine) : (s.setEng x).rpt = s.rpt := rfl
@[simp] theorem setBus_pending (x : Bus) : (s.setBus x).pending = s.pending := rfl
@[simp] theorem setBus_now (x : Bus) : (s.setBus x).now = s.now := rfl
@[simp] theorem setBus_ctl (x : Bus) : (s.setBus x).ctl = s.ctl := rfl
@[simp] theorem setBus_cfg (x : Bus) : (s.setBus x).cfg = s.cfg := rfl
@[simp] theorem setBus_table (x : Bus) : (s.setBus x).table = s.table := rfl
@[simp] theorem setBus_eng (x : Bus) : (s.setBus x).eng = s.eng := rfl
@[simp] theorem setBus_bus (x : Bus) : (s.setBus x).bus = x := rfl
@[simp] theorem setBus_claim (x : Bus) : (s.setBus x).claim = s.claim := rfl
@[simp] theorem setBus_sw (x : Bus) : (s.setBus x).sw = s.sw := rfl
@[simp] theorem setBus_sen (x : Bus) : (s.setBus x).sen = s.sen := rfl
@[simp] theorem setBus_drv (x : Bus) : (s.setBus x).drv = s.drv := rfl
@[simp] theorem setBus_lamp (x : Bus) : (s.setBus x).lamp = s.lamp := rfl
@[simp] theorem setBus_rpt (x : Bus) : (s.setBus x).rpt = s.rpt := rfl
@[simp] theorem setClaim_pending (x : ClaimUnit) : (s.setClaim x).pending = s.pending := rfl
@[simp] theorem setClaim_now (x : ClaimUnit) : (s.setClaim x).now = s.now := rfl
@[simp] theorem setClaim_ctl (x : ClaimUnit) : (s.setClaim x).ctl = s.ctl := rfl
@[simp] theorem setClaim_cfg (x : ClaimUnit) : (s.setClaim x).cfg = s.cfg := rfl
@[simp] theorem setClaim_table (x : ClaimUnit) : (s.setClaim x).table = s.table := rfl
@[simp] theorem setClaim_eng (x : ClaimUnit) : (s.setClaim x).eng = s.eng := rfl
@[simp] theorem setClaim_bus (x : ClaimUnit) : (s.setClaim x).bus = s.bus := rfl
@[simp] theorem setClaim_claim (x : ClaimUnit) : (s.setClaim x).claim = x := rfl
@[simp] theorem setClaim_sw (x : ClaimUnit) : (s.setClaim x).sw = s.sw := rfl
@[simp] theorem setClaim_sen (x : ClaimUnit) : (s.setClaim x).sen = s.sen := rfl
@[simp] theorem setClaim_drv (x : ClaimUnit) : (s.setClaim x).drv = s.drv := rfl
@[simp] theorem setClaim_lamp (x : ClaimUnit) : (s.setClaim x).lamp = s.lamp := rfl
@[simp] theorem setClaim_rpt (x : ClaimUnit) : (s.setClaim x).rpt = s.rpt := rfl
@[simp] theorem setSw_pending (x : SwitchUnit) : (s.setSw x).pending = s.pending := rfl
@[simp] theorem setSw_now (x : SwitchUnit) : (s.setSw x).now = s.now := rfl
@[simp] theorem setSw_ctl (x : SwitchUnit) : (s.setSw x).ctl = s.ctl := rfl
@[simp] theorem setSw_cfg (x : SwitchUnit) : (s.setSw x).cfg = s.cfg := rfl
@[simp] theorem setSw_table (x : SwitchUnit) : (s.setSw x).table = s.table := rfl
@[simp] theorem setSw_eng (x : SwitchUnit) : (s.setSw x).eng = s.eng := rfl
@[simp] theorem setSw_bus (x : SwitchUnit) : (s.setSw x).bus = s.bus := rfl
@[simp] theorem setSw_claim (x : SwitchUnit) : (s.setSw x).claim = s.claim := rfl
@[simp] theorem setSw_sw (x : SwitchUnit) : (s.setSw x).sw = x := rfl
@[simp] theorem setSw_sen (x : SwitchUnit) : (s.setSw x).sen = s.sen := rfl
@[simp] theorem setSw_drv (x : SwitchUnit) : (s.setSw x).drv = s.drv := rfl
@[simp] theorem setSw_lamp (x : SwitchUnit) : (s.setSw x).lamp = s.lamp := rfl
@[simp] theorem setSw_rpt (x : SwitchUnit) : (s.setSw x).rpt = s.rpt := rfl
@[simp] theorem setSen_pending (x : SensorUnit) : (s.setSen x).pending = s.pending := rfl
@[simp] theorem setSen_now (x : SensorUnit) : (s.setSen x).now = s.now := rfl
@[simp] theorem setSen_ctl (x : SensorUnit) : (s.setSen x).ctl = s.ctl := rfl
@[simp] theorem setSen_cfg (x : SensorUnit) : (s.setSen x).cfg = s.cfg := rfl
@[simp] theorem setSen_table (x : SensorUnit) : (s.setSen x).table = s.table := rfl
@[simp] theorem setSen_eng (x : SensorUnit) : (s.setSen x).eng = s.eng := rfl
@[simp] theorem setSen_bus (x : SensorUnit) : (s.setSen x).bus = s.bus := rfl
@[simp] theorem setSen_claim (x : SensorUnit) : (s.setSen x).claim = s.claim := rfl
@[simp] theorem setSen_sw (x : SensorUnit) : (s.setSen x).sw = s.sw := rfl
@[simp] theorem setSen_sen (x : SensorUnit) : (s.setSen x).sen = x := rfl
@[simp] theorem setSen_drv (x : SensorUnit) : (s.setSen x).drv = s.drv := rfl
@[simp] theorem setSen_lamp (x : SensorUnit) : (s.setSen x).lamp = s.lamp := rfl
@[simp] theorem setSen_rpt (x : SensorUnit) : (s.setSen x).rpt = s.rpt := rfl
@[simp] theorem setDrv_pending (x : DriverUnit) : (s.setDrv x).pending = s.pending := rfl
@[simp] theorem setDrv_now (x : DriverUnit) : (s.setDrv x).now = s.now := rfl
@[simp] theorem setDrv_ctl (x : DriverUnit) : (s.setDrv x).ctl = s.ctl := rfl
@[simp] theorem setDrv_cfg (x : DriverUnit) : (s.setDrv x).cfg = s.cfg := rfl
@[simp] theorem setDrv_table (x : DriverUnit) : (s.setDrv x).table = s.table := rfl
@[simp] theorem setDrv_eng (x : DriverUnit) : (s.setDrv x).eng = s.eng := rfl
@[simp] theorem setDrv_bus (x : DriverUnit) : (s.setDrv x).bus = s.bus := rfl
@[simp] theorem setDrv_claim (x : DriverUnit) : (s.setDrv x).claim = s.claim := rfl
@[simp] theorem setDrv_sw (x : DriverUnit) : (s.setDrv x).sw = s.sw := rfl
@[simp] theorem setDrv_sen (x : DriverUnit) : (s.setDrv x).sen = s.sen := rfl
@[simp] theorem setDrv_drv (x : DriverUnit) : (s.setDrv x).drv = x := rfl
@[simp] theorem setDrv_lamp (x : DriverUnit) : (s.setDrv x).lamp = s.lamp := rfl
@[simp] theorem setDrv_rpt (x : DriverUnit) : (s.setDrv x).rpt = s.rpt := rfl
@[simp] theorem setLamp_pending (x : LampUnit) : (s.setLamp x).pending = s.pending := rfl
@[simp] theorem setLamp_now (x : LampUnit) : (s.setLamp x).now = s.now := rfl
@[simp] theorem setLamp_ctl (x : LampUnit) : (s.setLamp x).ctl = s.ctl := rfl
@[simp] theorem setLamp_cfg (x : LampUnit) : (s.setLamp x).cfg = s.cfg := rfl
@[simp] theorem setLamp_table (x : LampUnit) : (s.setLamp x).table = s.table := rfl
@[simp] theorem setLamp_eng (x : LampUnit) : (s.setLamp x).eng = s.eng := rfl
@[simp] theorem setLamp_bus (x : LampUnit) : (s.setLamp x).bus = s.bus := rfl
@[simp] theorem setLamp_claim (x : LampUnit) : (s.setLamp x).claim = s.claim := rfl
@[simp] theorem setLamp_sw (x : LampUnit) : (s.setLamp x).sw = s.sw := rfl
@[simp] theorem setLamp_sen (x : LampUnit) : (s.setLamp x).sen = s.sen := rfl
@[simp] theorem setLamp_drv (x : LampUnit) : (s.setLamp x).drv = s.drv := rfl
@[simp] theorem setLamp_lamp (x : LampUnit) : (s.setLamp x).lamp = x := rfl
@[simp] theorem setLamp_rpt (x : LampUnit) : (s.setLamp x).rpt = s.rpt := rfl
@[simp] theorem setRpt_pending (x : ReportPort) : (s.setRpt x).pending = s.pending := rfl
@[simp] theorem setRpt_now (x : ReportPort) : (s.setRpt x).now = s.now := rfl
@[simp] theorem setRpt_ctl (x : ReportPort) : (s.setRpt x).ctl = s.ctl := rfl
@[simp] theorem setRpt_cfg (x : ReportPort) : (s.setRpt x).cfg = s.cfg := rfl
@[simp] theorem setRpt_table (x : ReportPort) : (s.setRpt x).table = s.table := rfl
@[simp] theorem setRpt_eng (x : ReportPort) : (s.setRpt x).eng = s.eng := rfl
@[simp] theorem setRpt_bus (x : ReportPort) : (s.setRpt x).bus = s.bus := rfl
@[simp] theorem setRpt_claim (x : ReportPort) : (s.setRpt x).claim = s.claim := rfl
@[simp] theorem setRpt_sw (x : ReportPort) : (s.setRpt x).sw = s.sw := rfl
@[simp] theorem setRpt_sen (x : ReportPort) : (s.setRpt x).sen = s.sen := rfl
@[simp] theorem setRpt_drv (x : ReportPort) : (s.setRpt x).drv = s.drv := rfl
@[simp] theorem setRpt_lamp (x : ReportPort) : (s.setRpt x).lamp = s.lamp := rfl
@[simp] theorem setRpt_rpt (x : ReportPort) : (s.setRpt x).rpt = x := rfl

/-! ### Local time moves (R109) -/

@[simp] theorem passTo_pending (t : Nat) : (s.passTo t).pending = s.pending := rfl
@[simp] theorem passTo_ctl (t : Nat) : (s.passTo t).ctl = s.ctl := rfl
@[simp] theorem passTo_cfg (t : Nat) : (s.passTo t).cfg = s.cfg := rfl
@[simp] theorem passTo_table (t : Nat) : (s.passTo t).table = s.table := rfl
@[simp] theorem passTo_eng (t : Nat) : (s.passTo t).eng = s.eng := rfl
@[simp] theorem passTo_claim (t : Nat) : (s.passTo t).claim = s.claim := rfl
@[simp] theorem passTo_sw (t : Nat) : (s.passTo t).sw = s.sw := rfl
@[simp] theorem passTo_sen (t : Nat) : (s.passTo t).sen = s.sen := rfl
@[simp] theorem passTo_drv (t : Nat) : (s.passTo t).drv = s.drv := rfl
@[simp] theorem passTo_lamp (t : Nat) : (s.passTo t).lamp = s.lamp := rfl
@[simp] theorem passTo_rpt (t : Nat) : (s.passTo t).rpt = s.rpt := rfl
@[simp] theorem passTo_now (t : Nat) : (s.passTo t).now = t := rfl
@[simp] theorem passTo_bus (t : Nat) : (s.passTo t).bus = s.bus.passedAt t := rfl
@[simp] theorem advanceTo_now (due : Nat) : (s.advanceTo due).now = max s.now due := rfl
@[simp] theorem advanceTo_bus (due : Nat) : (s.advanceTo due).bus = s.bus.passedAt (max s.now due) := rfl

/-- All that the passing of local time can do to the Bus Controller: the link of a contender becomes SENDING. -/
theorem passedAt_spec (b : Bus) (t : Nat) :
    b.passedAt t = b ∨ (b.link = .contending ∧ b.senderPassDue ≤ t ∧ b.passedAt t = { b with link := .sending }) := by
  unfold Bus.passedAt
  by_cases h : b.link = .contending ∧ b.senderPassDue ≤ t
  · exact Or.inr ⟨h.1, h.2, by simp [h]⟩
  · exact Or.inl (by simp [h])

/-- A station that does not contend only has its local time moved. -/
theorem passTo_of_not_contending (t : Nat) (h : s.bus.link ≠ .contending) : s.passTo t = s.setNow t := by
  have hb : s.bus.passedAt t = s.bus := by simp [Bus.passedAt, h]
  unfold State.passTo
  rw [hb]
  rfl

end Sys2Proof.Machine.State
end

