-- ==== Sys2Proof/Laws/Kept.lean ====
section
/-! SUPPORT. Laws/Kept.lean: what the operations of the Claim, Driver and Lamp Units, of the fault set and of the Report
Port leave unchanged: one lemma for each, which proofs cite instead of unfolding them. -/

namespace Sys2Proof.Machine

/-- The waiting commands, local time, the configuration, the game table, the Table Engine, the Bus Controller, the Switch
Unit, the Sensor Unit and all of Station Control but the fault set are as they were. -/
structure Kept (s t : State) : Prop where
  pending : t.pending = s.pending
  now     : t.now = s.now
  cfg     : t.cfg = s.cfg
  table   : t.table = s.table
  eng     : t.eng = s.eng
  bus     : t.bus = s.bus
  sw      : t.sw = s.sw
  sen     : t.sen = s.sen
  ctl     : t.ctl = { s.ctl with faults := t.ctl.faults }

namespace Kept

theorem refl (s : State) : Kept s s := ⟨rfl, rfl, rfl, rfl, rfl, rfl, rfl, rfl, rfl⟩

theorem trans {s t u : State} (h : Kept s t) (g : Kept t u) : Kept s u :=
  ⟨g.pending.trans h.pending, g.now.trans h.now, g.cfg.trans h.cfg, g.table.trans h.table, g.eng.trans h.eng,
    g.bus.trans h.bus, g.sw.trans h.sw, g.sen.trans h.sen, by rw [g.ctl, h.ctl]⟩

theorem state {s t : State} (h : Kept s t) : t.ctl.state = s.ctl.state := by rw [h.ctl]
theorem station {s t : State} (h : Kept s t) : t.ctl.station = s.ctl.station := by rw [h.ctl]
theorem listener {s t : State} (h : Kept s t) : t.ctl.listener = s.ctl.listener := by rw [h.ctl]

theorem ite {s t u : State} {p : Prop} [Decidable p] (h : Kept s t) (g : Kept s u) : Kept s (if p then t else u) := by
  split <;> assumption

theorem foldl {α : Type} {f : State → α → State} (hf : ∀ s a, Kept s (f s a)) (l : List α) (s : State) :
    Kept s (l.foldl f s) := by
  induction l generalizing s with
  | nil => exact refl s
  | cons a l ih => exact (hf s a).trans (ih (f s a))

end Kept

variable (s : State)

theorem kept_setClaim (x : ClaimUnit) : Kept s (s.setClaim x) := ⟨rfl, rfl, rfl, rfl, rfl, rfl, rfl, rfl, rfl⟩
theorem kept_setDrv (x : DriverUnit) : Kept s (s.setDrv x) := ⟨rfl, rfl, rfl, rfl, rfl, rfl, rfl, rfl, rfl⟩
theorem kept_setLamp (x : LampUnit) : Kept s (s.setLamp x) := ⟨rfl, rfl, rfl, rfl, rfl, rfl, rfl, rfl, rfl⟩
theorem kept_setRpt (x : ReportPort) : Kept s (s.setRpt x) := ⟨rfl, rfl, rfl, rfl, rfl, rfl, rfl, rfl, rfl⟩
theorem kept_updDrv (f : DriverUnit → DriverUnit) : Kept s (s.updDrv f) := kept_setDrv s _

theorem kept_notify (b : NoticeBody) : Kept s (s.notify b) := kept_setRpt s _
theorem kept_notifyAll (l : List NoticeBody) : Kept s (s.notifyAll l) := Kept.foldl kept_notify l s

theorem kept_setFaults (x : Byte) : Kept s (s.setCtl { s.ctl with faults := x }) :=
  ⟨rfl, rfl, rfl, rfl, rfl, rfl, rfl, rfl, rfl⟩

theorem kept_putFaults (x : Byte) : Kept s (s.putFaults x) := by
  unfold State.putFaults
  exact Kept.ite (Kept.refl s) ((kept_setFaults s x).trans (kept_notify _ _))

theorem kept_setFault (f : StationFault) : Kept s (s.setFault f) := kept_putFaults s _
theorem kept_clearFault (f : StationFault) : Kept s (s.clearFault f) := kept_putFaults s _
theorem kept_refreshLamps : Kept s s.refreshLamps := kept_setLamp s _

/-! ### The Claim Unit -/

theorem kept_setQueue (q : List Claim) : Kept s (s.setQueue q) := (kept_setClaim s _).trans (kept_setDrv _ _)

theorem kept_claimLost (p : Payload) (o : Origin) (c : LostCause) : Kept s (s.claimLost p o c) := kept_notify s _

theorem kept_addClaim (p : Payload) (o : Origin) : Kept s (s.addClaim p o) :=
  (kept_setQueue s _).trans (kept_setClaim _ _)

theorem kept_enterClaim (p : Payload) (o : Origin) : Kept s (s.enterClaim p o) := by
  unfold State.enterClaim
  split
  · exact kept_addClaim s p o
  · split
    · exact ((kept_setQueue s _).trans (kept_claimLost _ _ _ _)).trans (kept_addClaim _ p o)
    · exact kept_claimLost s p o _

theorem kept_build (p : Payload) (o : Origin) : Kept s (s.build p o) :=
  Kept.ite (kept_enterClaim s p o) (Kept.refl s)

theorem kept_launchHead : Kept s s.launchHead := by
  unfold State.launchHead
  split
  · exact kept_setQueue s _
  · exact Kept.refl s

theorem kept_reported (f : Claim → State) (hf : ∀ c, Kept s (f c)) : Kept s (s.reported f) := by
  unfold State.reported
  split
  · exact Kept.refl s
  · exact Kept.ite (kept_setQueue s _) (hf _)

theorem kept_reportReturned : Kept s s.reportReturned := kept_reported s _ fun _ => kept_setQueue s _

theorem kept_reportAccepted : Kept s s.reportAccepted :=
  kept_reported s _ fun _ => (kept_setQueue s _).trans (kept_setClaim _ _)

theorem kept_reportVetoed : Kept s s.reportVetoed :=
  kept_reported s _ fun _ => Kept.ite (kept_setQueue s _) ((kept_setQueue s _).trans (kept_claimLost _ _ _ _))

theorem kept_discardWaiting : Kept s s.discardWaiting := kept_setQueue s _
theorem kept_flushClaims : Kept s s.flushClaims := kept_setQueue s _
theorem kept_removeAccepted : Kept s s.removeAccepted := kept_setQueue s _
theorem kept_setTickTimer (t : TickTimer) : Kept s (s.setTickTimer t) := kept_setClaim s _
theorem kept_setPresence (n : Nat) : Kept s (s.setPresence n) := kept_setClaim s _

theorem kept_judgeTickTimer : Kept s s.judgeTickTimer := by
  unfold State.judgeTickTimer
  exact Kept.ite (Kept.ite (kept_setTickTimer s _) (Kept.refl s)) (kept_setTickTimer s _)

theorem kept_restartTickTimer : Kept s s.restartTickTimer := by
  unfold State.restartTickTimer
  exact Kept.ite (kept_setTickTimer s _) (kept_setTickTimer s _)

theorem kept_buildTick : Kept s s.buildTick := Kept.ite (kept_build s _ _) (Kept.refl s)

theorem kept_buildPresence : Kept s s.buildPresence := by
  unfold State.buildPresence
  split
  · exact Kept.ite (kept_build s _ _) (Kept.refl s)
  · exact Kept.refl s

theorem kept_setLatch (n : Slot) (b : Bool) : Kept s (s.setLatch n b) := kept_setClaim s _
theorem kept_requestBounce (n : Slot) : Kept s (s.requestBounce n) := kept_setDrv s _
theorem kept_withdrawLock (n : Slot) : Kept s (s.withdrawLock n) := kept_setQueue s _

theorem kept_reconcilePresent (n : Slot) : Kept s (s.reconcilePresent n) := by
  unfold State.reconcilePresent
  exact Kept.ite (Kept.ite (kept_requestBounce s n) (Kept.ite (Kept.refl s) (kept_build s _ _))) (Kept.refl s)

theorem kept_reconcileAbsent (n : Slot) : Kept s (s.reconcileAbsent n) := by
  unfold State.reconcileAbsent
  exact (Kept.ite (kept_withdrawLock s n)
    (Kept.ite (kept_build s _ _) (Kept.ite (kept_build s _ _) (Kept.refl s)))).trans (kept_setLatch _ n false)

theorem kept_reconcile (n : Slot) : Kept s (s.reconcile n) := by
  unfold State.reconcile
  refine Kept.ite ?_ (Kept.refl s)
  split
  · exact kept_reconcilePresent s n
  · exact kept_reconcileAbsent s n
  all_goals exact Kept.refl s

theorem kept_claimDelivery (n : Slot) (st : ChannelState) : Kept s (s.claimDelivery n st) :=
  (Kept.ite (kept_setLatch s n false) (Kept.refl s)).trans (kept_reconcile _ n)

theorem kept_requestJammed (n : Slot) : Kept s (s.requestJammed n) := Kept.ite (Kept.refl s) (kept_build s _ _)

theorem kept_latchRefused (p : Payload) (o : AppOutcome) : Kept s (s.latchRefused p o) := by
  unfold State.latchRefused
  split
  · exact kept_setLatch s _ _
  · exact Kept.refl s

theorem kept_takeOwnClaim (f : Frame) (o : AppOutcome) : Kept s (s.takeOwnClaim f o) := by
  unfold State.takeOwnClaim
  refine Kept.ite ?_ (Kept.refl s)
  split
  · exact (kept_setQueue s _).trans (kept_latchRefused _ _ _)
  · exact Kept.refl s

theorem kept_ticksAfter (f : Frame) (o : AppOutcome) : Kept s (s.ticksAfter f o) := by
  unfold State.ticksAfter
  split
  · exact (kept_setQueue s _).trans (kept_restartTickTimer _)
  · exact kept_judgeTickTimer s

theorem kept_presenceAfter (f : Frame) (o : AppOutcome) : Kept s (s.presenceAfter f o) := by
  unfold State.presenceAfter
  exact Kept.ite (Kept.ite (kept_setPresence s _) (Kept.ite (kept_setPresence s _) (Kept.refl s))) (Kept.refl s)

theorem kept_claimHandOff (f : Frame) (o : AppOutcome) (began : Bool) : Kept s (s.claimHandOff f o began) := by
  unfold State.claimHandOff
  have h6 := (((kept_takeOwnClaim s f o).trans (kept_ticksAfter _ f o)).trans (kept_presenceAfter _ f o)).trans
    (Kept.foldl kept_reconcile (indices 8) _)
  exact ((h6.trans (Kept.ite (kept_build _ _ _) (Kept.refl _))).trans (kept_buildTick _)).trans (kept_buildPresence _)

/-! ### The Driver Unit -/

theorem kept_leaveRecycle (o : Output) : Kept s (s.leaveRecycle o) := kept_updDrv s _

theorem kept_enterRecycle (o : Output) : Kept s (s.enterRecycle o) := by
  unfold State.enterRecycle
  exact Kept.ite (kept_leaveRecycle s o) (kept_updDrv s _)

theorem kept_closeAttempt (o : Output) : Kept s (s.closeAttempt o) := by
  unfold State.closeAttempt
  exact Kept.ite (kept_enterRecycle s o) (kept_updDrv s _)

theorem kept_endDuty (id : DutyId) : Kept s (s.endDuty id) := by
  unfold State.endDuty
  exact (kept_updDrv s _).trans (Kept.foldl (fun t o => Kept.ite (kept_closeAttempt t o) (Kept.refl t)) _ _)

theorem kept_jammedAfter (n : Slot) : Kept s (s.jammedAfter n) := by
  unfold State.jammedAfter
  split
  · exact Kept.ite (kept_requestJammed s n) (Kept.refl s)
  · exact Kept.refl s

theorem kept_failEject (n : Slot) : Kept s (s.failEject n) := (kept_updDrv s _).trans (kept_jammedAfter _ n)
theorem kept_succeedEject (n : Slot) : Kept s (s.succeedEject n) := kept_updDrv s _

theorem kept_failServe : Kept s s.failServe := by
  unfold State.failServe
  exact Kept.ite (kept_updDrv s _) ((kept_updDrv s _).trans (kept_setFault _ _))

theorem kept_settleBounce (n : Slot) : Kept s (s.settleBounce n) := by
  unfold State.settleBounce
  exact Kept.ite (Kept.refl s) (kept_updDrv s _)

theorem kept_settleEject (n : Slot) : Kept s (s.settleEject n) := by
  unfold State.settleEject
  have h0 := kept_settleBounce s n
  exact Kept.ite h0 ((Kept.ite (h0.trans (kept_endDuty _ _)) h0).trans (kept_updDrv _ _))

theorem kept_tendEject (n : Slot) : Kept s (s.tendEject n) := by
  unfold State.tendEject
  have h0 := Kept.ite (p := s.boundState n = some .present) (Kept.refl s)
    (kept_updDrv s fun d => d.dropRequest (.eject n))
  split
  · dsimp only
    split
    · exact h0.trans (kept_updDrv _ _)
    · exact Kept.ite (h0.trans (kept_updDrv _ _)) h0
  · exact Kept.refl s

theorem kept_askEject (n : Slot) : Kept s (s.askEject n) := by
  unfold State.askEject
  split
  · exact Kept.ite (kept_updDrv s _) (Kept.refl s)
  · exact Kept.refl s

theorem kept_settleServe : Kept s s.settleServe := by
  unfold State.settleServe
  have h1 := Kept.ite (p := (s.isValid && s.table.isTrough s.ctl.station) = true) (Kept.refl s)
    (kept_updDrv s fun d => d.updServe fun v => { v with launches := 0 })
  refine Kept.ite (Kept.ite ((h1.trans (kept_updDrv _ _)).trans (kept_setFault _ _)) (h1.trans (kept_updDrv _ _))) ?_
  refine Kept.ite ?_ h1
  have h2 := (h1.trans (kept_endDuty _ .serve)).trans (kept_updDrv _ fun d => d.updServe fun v =>
    { v with holds := false, failed := 0, retryDue := none, retryReady := false, await := false })
  exact Kept.ite (h2.trans (kept_clearFault _ _)) h2

theorem kept_askServe : Kept s s.askServe := by
  unfold State.askServe
  split
  · exact Kept.refl s
  · exact Kept.ite (kept_updDrv s _) (Kept.refl s)

theorem kept_askScoop (n : Switch) : Kept s (s.askScoop n) := by
  unfold State.askScoop
  split
  · exact Kept.ite (kept_updDrv s _) (Kept.refl s)
  · exact Kept.refl s

theorem kept_arbiter : Kept s s.arbiter := kept_setDrv s _

theorem kept_deriveDuties : Kept s s.deriveDuties := by
  unfold State.deriveDuties
  have h1 := (Kept.foldl kept_settleEject (indices 8) s).trans (kept_settleServe _)
  have h2 := h1.trans (Kept.foldl kept_tendEject (indices 8) _)
  have h3 := (h2.trans (Kept.foldl kept_askEject (indices 8) _)).trans (kept_askServe _)
  exact (h3.trans (Kept.foldl kept_askScoop (indices 32) _)).trans (kept_arbiter _)

theorem kept_scoopHandOn (n : Switch) (o : Output) (dwell : Nat) : Kept s (s.scoopHandOn n o dwell) :=
  ((kept_endDuty s _).trans (kept_updDrv _ _)).trans (kept_deriveDuties _)

theorem kept_scoopEmptied (n : Switch) : Kept s (s.scoopEmptied n) :=
  ((kept_endDuty s _).trans (kept_updDrv _ _)).trans (kept_deriveDuties _)

theorem kept_cancelScoop (n : Switch) : Kept s (s.cancelScoop n) := by
  unfold State.cancelScoop
  split
  · exact Kept.ite ((kept_endDuty s _).trans (kept_updDrv _ _)) (Kept.refl s)
  · exact Kept.refl s

theorem kept_cancelScoops : Kept s s.cancelScoops := Kept.foldl kept_cancelScoop _ s

theorem kept_confirmServe : Kept s s.confirmServe :=
  Kept.foldl (fun t o => Kept.ite (kept_closeAttempt t o) (Kept.refl t)) _ s

theorem kept_launchHandOn (entered : Bool) : Kept s (s.launchHandOn entered) := by
  unfold State.launchHandOn
  have h1 := (kept_updDrv s fun d => d.updServe fun v =>
    { v with
      launches := if entered then min 8 (v.launches + 1) else v.launches
      failed := 0, retryDue := none, retryReady := false }).trans (kept_confirmServe _)
  exact (Kept.ite h1 (h1.trans (kept_clearFault _ _))).trans (kept_deriveDuties _)

theorem kept_ejectDelivery (n : Slot) (st : ChannelState) : Kept s (s.ejectDelivery n st) := by
  unfold State.ejectDelivery
  refine Kept.foldl (fun t o => Kept.ite ?_ (Kept.refl t)) _ s
  split
  · exact (kept_succeedEject t n).trans (kept_closeAttempt _ o)
  · exact (kept_failEject t n).trans (kept_closeAttempt _ o)
  all_goals exact Kept.refl t

theorem kept_driverDelivery (n : Slot) (st : ChannelState) : Kept s (s.driverDelivery n st) :=
  (kept_ejectDelivery s n st).trans (kept_deriveDuties _)

end Sys2Proof.Machine
end

