-- ==== Sys2Proof/Laws/Exec.lean ====
section
/-! SUPPORT. Laws/Exec.lean: every command answers a next state, what the derivation of duties leaves of the Claim Unit, and
what the scanner's work changes. -/

namespace Sys2Proof.Machine

/-- No command ends in a fault or a refusal. -/
theorem exec_next (c : Instr) (s : State) : ∃ t, exec c s = .next t := by
  cases c <;> simp only [exec] <;>
    first
    | exact ⟨_, rfl⟩
    | (simp only [execConfigurationRead, execBusFree, execYieldTimeout, execContention, execStartMark,
        execArbitrationLost, execLateLoss, execStrayMark, execEndMark, execMissingEndMark, execCut, execQuietExit,
        execStuck, execStuckClear, execSyncSilenceExpiry, execLossOfValidity, execTickTimerExpiry,
        execSwitchEventTake, execSwitchSample, execAttnTake, execRefreshTimer, execPendingChangeDue,
        execScannerWork, execExpanderRead, execSweepDue, execMeasurementEnd, execPulseEnd, execVerifyTimeout,
        execRecycleEnd, execEjectRetryTimer, execServeRetryTimer, execScoopDwellEnd, execAttractHalfCycle,
        execNoticeSend, execAttnRelease]
       repeat' split
       all_goals exact ⟨_, rfl⟩)

/-- Every step answers a next state. -/
theorem step_next (s : State) : ∃ t, step s = .next t := by
  unfold step
  split
  · exact exec_next _ _
  · exact ⟨_, rfl⟩

/-! ### The derivation of duties leaves the Claim Unit as it is (R166) -/

/-- The Claim Unit is as it was. -/
structure ClaimsKept (s t : State) : Prop where
  claim : t.claim = s.claim

namespace ClaimsKept

theorem refl (s : State) : ClaimsKept s s := ⟨rfl⟩

theorem trans {s t u : State} (h : ClaimsKept s t) (g : ClaimsKept t u) : ClaimsKept s u := ⟨g.claim.trans h.claim⟩

theorem ite {s t u : State} {p : Prop} [Decidable p] (h : ClaimsKept s t) (g : ClaimsKept s u) :
    ClaimsKept s (if p then t else u) := by
  split <;> assumption

theorem foldl {α : Type} {f : State → α → State} (hf : ∀ s a, ClaimsKept s (f s a)) (l : List α) (s : State) :
    ClaimsKept s (l.foldl f s) := by
  induction l generalizing s with
  | nil => exact refl s
  | cons a l ih => exact (hf s a).trans (ih _)

end ClaimsKept

variable (s : State)

theorem claims_updDrv (f : DriverUnit → DriverUnit) : ClaimsKept s (s.updDrv f) := ⟨rfl⟩

theorem claims_putFaults (x : Byte) : ClaimsKept s (s.putFaults x) := by
  unfold State.putFaults
  exact ClaimsKept.ite (ClaimsKept.refl s) ⟨rfl⟩

theorem claims_setFault (f : StationFault) : ClaimsKept s (s.setFault f) := claims_putFaults s _
theorem claims_clearFault (f : StationFault) : ClaimsKept s (s.clearFault f) := claims_putFaults s _
theorem claims_leaveRecycle (o : Output) : ClaimsKept s (s.leaveRecycle o) := ⟨rfl⟩
theorem claims_arbiter : ClaimsKept s s.arbiter := ⟨rfl⟩

theorem claims_enterRecycle (o : Output) : ClaimsKept s (s.enterRecycle o) := by
  unfold State.enterRecycle
  exact ClaimsKept.ite (claims_leaveRecycle s o) (claims_updDrv s _)

theorem claims_closeAttempt (o : Output) : ClaimsKept s (s.closeAttempt o) := by
  unfold State.closeAttempt
  exact ClaimsKept.ite (claims_enterRecycle s o) (claims_updDrv s _)

theorem claims_endDuty (id : DutyId) : ClaimsKept s (s.endDuty id) := by
  unfold State.endDuty
  exact (claims_updDrv s _).trans (ClaimsKept.foldl (fun t o => ClaimsKept.ite (claims_closeAttempt t o) (ClaimsKept.refl t)) _ _)

theorem claims_settleBounce (n : Slot) : ClaimsKept s (s.settleBounce n) := by
  unfold State.settleBounce
  exact ClaimsKept.ite (ClaimsKept.refl s) (claims_updDrv s _)

theorem claims_settleEject (n : Slot) : ClaimsKept s (s.settleEject n) := by
  unfold State.settleEject
  have h0 := claims_settleBounce s n
  exact ClaimsKept.ite h0 ((ClaimsKept.ite (h0.trans (claims_endDuty _ _)) h0).trans (claims_updDrv _ _))

theorem claims_tendEject (n : Slot) : ClaimsKept s (s.tendEject n) := by
  unfold State.tendEject
  have h0 := ClaimsKept.ite (p := s.boundState n = some .present) (ClaimsKept.refl s)
    (claims_updDrv s fun d => d.dropRequest (.eject n))
  split
  · dsimp only
    split
    · exact h0.trans (claims_updDrv _ _)
    · exact ClaimsKept.ite (h0.trans (claims_updDrv _ _)) h0
  · exact ClaimsKept.refl s

theorem claims_askEject (n : Slot) : ClaimsKept s (s.askEject n) := by
  unfold State.askEject
  split
  · exact ClaimsKept.ite (claims_updDrv s _) (ClaimsKept.refl s)
  · exact ClaimsKept.refl s

theorem claims_settleServe : ClaimsKept s s.settleServe := by
  unfold State.settleServe
  have h1 := ClaimsKept.ite (p := (s.isValid && s.table.isTrough s.ctl.station) = true) (ClaimsKept.refl s)
    (claims_updDrv s fun d => d.updServe fun v => { v with launches := 0 })
  refine ClaimsKept.ite (ClaimsKept.ite ((h1.trans (claims_updDrv _ _)).trans (claims_setFault _ _)) (h1.trans (claims_updDrv _ _))) ?_
  refine ClaimsKept.ite ?_ h1
  have h2 := (h1.trans (claims_endDuty _ .serve)).trans (claims_updDrv _ fun d => d.updServe fun v =>
    { v with holds := false, failed := 0, retryDue := none, retryReady := false, await := false })
  exact ClaimsKept.ite (h2.trans (claims_clearFault _ _)) h2

theorem claims_askServe : ClaimsKept s s.askServe := by
  unfold State.askServe
  split
  · exact ClaimsKept.refl s
  · exact ClaimsKept.ite (claims_updDrv s _) (ClaimsKept.refl s)

theorem claims_askScoop (n : Switch) : ClaimsKept s (s.askScoop n) := by
  unfold State.askScoop
  split
  · exact ClaimsKept.ite (claims_updDrv s _) (ClaimsKept.refl s)
  · exact ClaimsKept.refl s

/-- R166: one derivation enters requests and changes duties, and leaves the claims as they are. -/
theorem claims_deriveDuties : ClaimsKept s s.deriveDuties := by
  unfold State.deriveDuties
  have h1 := (ClaimsKept.foldl claims_settleEject (indices 8) s).trans (claims_settleServe _)
  have h2 := h1.trans (ClaimsKept.foldl claims_tendEject (indices 8) _)
  have h3 := (h2.trans (ClaimsKept.foldl claims_askEject (indices 8) _)).trans (claims_askServe _)
  exact (h3.trans (ClaimsKept.foldl claims_askScoop (indices 32) _)).trans (claims_arbiter _)

/-! ### The read of the configuration memory (R176) -/

/-- All that the read leaves on the memory's port: CCS# high again, behind the four bytes sent and the 526 clocked in. -/
theorem memoryPort_read (p : MemoryPort) :
    p.read = { selected := false, sent := [0x03#8, 0x00#8, 0x00#8, 0x00#8], clocked := 526 } := by
  simp [MemoryPort.read, MemoryPort.select, MemoryPort.send, MemoryPort.clockIn, MemoryPort.release, readBytes]

/-- The bytes go out, and the image comes in, while CCS# is low. -/
theorem memoryPort_selected (p : MemoryPort) (bytes : List Byte) (n : Nat) :
    p.select.selected = true ∧ (p.select.send bytes).selected = true
      ∧ ((p.select.send bytes).clockIn n).selected = true := ⟨rfl, rfl, rfl⟩

/-- With CCS# high nothing is sent and nothing is clocked in. -/
theorem memoryPort_unselected (p : MemoryPort) (bytes : List Byte) (n : Nat) (h : p.selected = false) :
    p.send bytes = p ∧ p.clockIn n = p := by simp [MemoryPort.send, MemoryPort.clockIn, h]

/-- All that the read changes of the station: the memory's port. -/
theorem readMemory_eq : s.readMemory = s.setCtl { s.ctl with memory := s.ctl.memory.read } := rfl

@[simp] theorem readMemory_state : s.readMemory.ctl.state = s.ctl.state := rfl
@[simp] theorem readMemory_station : s.readMemory.ctl.station = s.ctl.station := rfl
@[simp] theorem readMemory_faults : s.readMemory.ctl.faults = s.ctl.faults := rfl
@[simp] theorem readMemory_memory : s.readMemory.ctl.memory = s.ctl.memory.read := rfl

/-! ### The scanner's work -/

@[simp] theorem setScan_scan (x : Scan) : (s.setScan x).sw.scan = x := rfl
@[simp] theorem setScan_call (x : Scan) : (s.setScan x).sw.call = x.reading.map s.cfg.callTo := rfl

/-- All that the scanner's work changes when it moves on: itself and the call of its next read (R145). -/
theorem setScan_eq (x : Scan) :
    s.setScan x = s.setSw { s.sw with scan := x, call := x.reading.map s.cfg.callTo } := rfl

end Sys2Proof.Machine
end

