-- ==== Sys2Proof/Laws/Image.lean ====
section
/-! SUPPORT. Laws/Image.lean: which codes of the configuration image have a meaning, and the two ways in which a switch's
rule is read. -/

namespace Sys2Proof.Machine

theorem ruleKind_ofCode_eq_none (n : Nat) : RuleKind.ofCode n = none ↔ 7 < n := by
  unfold RuleKind.ofCode; split <;> simp_all
  omega

theorem debounce_ofCode_eq_none (n : Nat) : Debounce.ofCode n = none ↔ 2 < n := by
  unfold Debounce.ofCode; split <;> simp_all
  omega

theorem driverRole_ofCode_eq_none (n : Nat) : DriverRole.ofCode n = none ↔ 3 < n := by
  unfold DriverRole.ofCode; split <;> simp_all
  omega

theorem natIndex_eq_none (n k : Nat) : natIndex n k = none ↔ n ≤ k := by
  unfold natIndex; split <;> simp_all

/-- R172: the sources with a meaning, by code and argument. -/
theorem lampSource_ofCode_eq_none (code arg : Nat) :
    LampSource.ofCode code arg = none ↔
      9 < code ∨ (code ≤ 1 ∧ 7 < arg) ∨ ((code = 2 ∨ code = 5) ∧ (arg = 0 ∨ 4 < arg)) := by
  unfold LampSource.ofCode
  split <;> (try split) <;> simp_all [natIndex_eq_none] <;> omega

/-- R142: the rule of a switch that is not present is not read. -/
theorem readSwitch_absent {image : List Byte} {n : Switch} (h : switchPresent image n = false) :
    readSwitch image n = (SwitchRule.blank, false) := by simp [readSwitch, h]

theorem readSwitch_present {image : List Byte} {n : Switch} (h : switchPresent image n = true) :
    readSwitch image n = readRule image (8 + 9 * n.val) := by simp [readSwitch, h]

end Sys2Proof.Machine
end

