-- ==== Sys2Proof/Laws/Tables.lean ====
section
/-! SUPPORT. Laws/Tables.lean: what the one update of a table of fixed size does, entry by entry. -/

namespace Sys2Proof

variable {α β : Type} {n : Nat}

@[simp] theorem vmap_get (f : Fin n → α → β) (v : Vector α n) (i : Nat) (h : i < n) :
    (vmap f v)[i] = f ⟨i, h⟩ v[i] := by
  simp [vmap, Vector.getElem_mk, List.getElem_toArray]

@[simp] theorem vmap_get_fin (f : Fin n → α → β) (v : Vector α n) (i : Fin n) : (vmap f v)[i] = f i v[i] := by
  simp [Fin.getElem_fin]

@[simp] theorem vtab_get (f : Fin n → α) (i : Nat) (h : i < n) : (vtab f)[i] = f ⟨i, h⟩ := by
  simp [vtab, Vector.getElem_mk, List.getElem_toArray]

@[simp] theorem vtab_get_fin (f : Fin n → α) (i : Fin n) : (vtab f)[i] = f i := by
  simp [Fin.getElem_fin]

/-- An update that changes no entry is no update. -/
theorem vmap_id (f : Fin n → α → α) (v : Vector α n) (h : ∀ i : Fin n, f i v[i] = v[i]) : vmap f v = v := by
  apply Vector.ext
  intro i hi
  rw [vmap_get]
  exact h ⟨i, hi⟩

/-- The entries of an updated table, in order. -/
theorem vmap_toList (f : Fin n → α → β) (v : Vector α n) :
    (vmap f v).toList = (indices n).map fun i => f i v[i] := by
  apply List.ext_getElem
  · simp
  · intro i h1 h2
    simp

end Sys2Proof
end

