-- ==== Sys2Proof/Laws/Kinds.lean ====
section
/-! SUPPORT. Laws/Kinds.lean: the table that the shared changes of an application leave, each said once: the checks and the
recomputation look at the table alone, and the recomputation is `RecomputedFrom`. -/

namespace Sys2Proof.Machine

variable (w : Work)

@[simp] theorem upd_table (f : GameTable → GameTable) : (w.upd f).table = f w.table := rfl
@[simp] theorem note_table (n : NoticeBody) : (w.note n).table = w.table := rfl
@[simp] theorem notePhase_table : w.notePhase.table = w.table := rfl
@[simp] theorem mapSlots_table (g : Slot → SlotRecord → SlotRecord) :
    (w.mapSlots g).table = { w.table with slots := vmap g w.table.slots } := rfl
@[simp] theorem mapModes_table (f : ModeEntry → ModeStep) :
    (w.mapModes f).table =
      { w.table with modes := ((w.table.modes.map f).filter ModeStep.stays).map ModeStep.entry } := rfl
@[simp] theorem setSlot_table (n : Slot) (r : SlotRecord) : (w.setSlot n r).table = withSlot w.table n r := rfl
@[simp] theorem recordRefusal_table (k : FrameKind) (sender : Station) (r : Reason) (sub : Option SubReason)
    (a : Option (Fin 8)) :
    (w.recordRefusal k sender r sub a).table =
      { w.table with
        refusal := some
          { kind := k, sender := sender, reason := r, sub := sub, ordinal := w.table.ordinal + 1#32,
            argument := a } } := rfl
@[simp] theorem updPlayer_table (f : Player → Player) :
    (w.updPlayer f).table =
      { w.table with players := vmap (fun k p => if k = w.table.currentPlayer then f p else p) w.table.players } := rfl

/-- Entries that a change keeps one for one. -/
theorem mapModes_of_stays (f : ModeEntry → ModeStep) (l : List ModeEntry) (h : ∀ e, (f e).stays = true) :
    ((l.map f).filter ModeStep.stays).map ModeStep.entry = l.map fun e => (f e).entry := by
  induction l with
  | nil => rfl
  | cons e l ih => simp [h e, ih]

/-! ### The checks look at the table alone -/

theorem gameOver_table : w.gameOver.table = (Work.gameOver { table := w.table, notices := [] }).table := rfl
theorem nextBall_table : w.nextBall.table = (Work.nextBall { table := w.table, notices := [] }).table := rfl

theorem completeBallEnd_table :
    w.completeBallEnd.table = (Work.completeBallEnd { table := w.table, notices := [] }).table := by
  unfold Work.completeBallEnd
  rw [apply_ite Work.table, apply_ite Work.table]
  rfl

theorem enterBallEnd_table : w.enterBallEnd.table = (Work.enterBallEnd { table := w.table, notices := [] }).table := rfl

theorem completionCheck_table : w.completionCheck.table = completionChecked w.table := by
  unfold completionChecked Work.completionCheck
  split
  · rw [completeBallEnd_table]
  · rfl

theorem ballEndEntryCheck_table : w.ballEndEntryCheck.table = entryChecked w.table := by
  unfold entryChecked Work.ballEndEntryCheck
  split
  · rw [enterBallEnd_table]
  · rfl

/-- The completion check does nothing outside BALL_END. -/
theorem completionChecked_of_ne (t : GameTable) (h : t.phase ≠ .ballEnd) : completionChecked t = t := by
  simp [completionChecked, Work.completionCheck, h]

/-- The entry check does nothing outside PLAY. -/
theorem entryChecked_of_ne (t : GameTable) (h : t.phase ≠ .play) : entryChecked t = t := by
  simp [entryChecked, Work.ballEndEntryCheck, h]

/-! ### Derived recomputation -/

/-- R77: an entry of the mode table with the pause state that the table gives it. -/
def repaused (t : GameTable) (e : ModeEntry) : ModeEntry :=
  if e.active ∧ (t.modeDef e.mode).noPause = false then
    { e with state := if t.pauseCondition then .paused else .running }
  else e

theorem pauseStep_stays (t : GameTable) (e : ModeEntry) : (pauseStep t e).stays = true := by
  unfold pauseStep
  dsimp only
  split <;> split <;> rfl

theorem pauseStep_entry (t : GameTable) (e : ModeEntry) : (pauseStep t e).entry = repaused t e := by
  unfold pauseStep repaused
  cases hs : e.state <;> cases hp : t.pauseCondition <;> cases hn : (t.modeDef e.mode).noPause <;>
    simp [ModeEntry.active, hs, ModeStep.move, ModeStep.keep] <;> cases e <;> simp_all

theorem repaused_congr {t u : GameTable} (hp : t.pauseCondition = u.pauseCondition) (hm : t.profile = u.profile) :
    repaused t = repaused u := by
  funext e
  unfold repaused GameTable.modeDef
  rw [hp, hm]

theorem endMultiball_table :
    w.endMultiball.table = { w.table with multiball := w.table.multiball && !w.table.multiballOver } := by
  unfold Work.endMultiball
  split
  · rename_i h
    simp [h]
  · rename_i h
    simp [h]

theorem recompute_table :
    w.recompute.table =
      { w.table with
        multiball := w.table.multiball && !w.table.multiballOver
        slots := vmap
          (fun _ r => light (GameTable.lit { w.table with multiball := w.table.multiball && !w.table.multiballOver }) r)
          w.table.slots
        modes := w.table.modes.map (repaused w.table) } := by
  unfold Work.recompute Work.pauseModes Work.lightSlots
  simp only [mapModes_table, mapSlots_table, endMultiball_table]
  rw [mapModes_of_stays _ _ (pauseStep_stays _)]
  simp only [pauseStep_entry]
  congr 1

theorem stopsSaveWindow_iff (b a : GameTable) :
    b.stopsSaveWindow a = true ↔ b.holdsEmpty = true ∧ a.holdsEmpty = false ∧ 0 < a.saveWindow := by
  simp [GameTable.stopsSaveWindow, and_assoc]

theorem noteBalls_table (t : GameTable) : (w.noteBalls t).table = w.table := by
  unfold Work.noteBalls
  split <;> rfl

/-! ### The recomputation in the words of the statements -/

theorem multiballReleasing_iff (t : GameTable) :
    t.multiballReleasing = true ↔ ∃ (n : Slot) (o : Station), t.slots[n] = .releasing o .multiball := by
  unfold GameTable.multiballReleasing
  rw [Vector.any_toList, Vector.any_eq_true]
  constructor
  · rintro ⟨i, hi, h⟩
    generalize hr : t.slots[i] = r at h
    cases r <;> try cases h
    rename_i o c
    cases c <;> try cases h
    exact ⟨⟨i, hi⟩, o, hr⟩
  · rintro ⟨n, o, h⟩
    exact ⟨n.val, n.isLt, by rw [show t.slots[n.val] = _ from h]; rfl⟩

theorem multiballGoesOn_iff (t : GameTable) :
    MultiballGoesOn t ↔ (t.multiball && !t.multiballOver) = true := by
  have h := multiballReleasing_iff t
  unfold GameTable.multiballOver MultiballGoesOn
  cases hm : t.multiball <;> cases hr : t.multiballReleasing <;> simp_all
  omega

/-- R68: the multiball that a kind stage's table leaves. -/
theorem multiball_eq (t : GameTable) : decide (MultiballGoesOn t) = (t.multiball && !t.multiballOver) := by
  rw [Bool.eq_iff_iff, decide_eq_true_iff]
  exact multiballGoesOn_iff t

theorem slotsLit_iff (t : GameTable) :
    SlotsLit t ↔ GameTable.lit { t with multiball := t.multiball && !t.multiballOver } = true := by
  have h := multiballGoesOn_iff t
  unfold SlotsLit GameTable.lit GameTable.current
  rw [h]
  cases t.multiball && !t.multiballOver <;> simp [and_assoc]

theorem instancesPaused_iff (t : GameTable) : InstancesPaused t ↔ t.pauseCondition = true := by
  unfold InstancesPaused GameTable.pauseCondition GameTable.holdsEmpty
  rw [Bool.or_eq_true, Bool.not_eq_true', Bool.and_eq_true, beq_iff_eq, beq_iff_eq]
  refine or_congr ?_ Iff.rfl
  rw [Bool.eq_false_iff, ne_eq, Vector.all_toList, Vector.all_eq_true]
  simp only [not_forall, Option.isNone_iff_eq_none]
  exact ⟨fun ⟨j, h⟩ => ⟨j.val, j.isLt, h⟩, fun ⟨i, hi, h⟩ => ⟨⟨i, hi⟩, h⟩⟩

/-- The recomputation, said with the model's own conditions. -/
theorem recomputedFrom_iff (k after : GameTable) :
    RecomputedFrom k after ↔
      after =
        { k with
          ordinal := k.ordinal + 1#32
          multiball := k.multiball && !k.multiballOver
          slots := vmap (fun _ r => light (GameTable.lit { k with multiball := k.multiball && !k.multiballOver }) r) k.slots
          modes := k.modes.map (repaused k) } := by
  have hs : (fun (_ : Slot) (r : SlotRecord) => match r with
        | .dark o | .opened o => if SlotsLit k then .opened o else .dark o
        | r => r) =
      fun _ r => light (GameTable.lit { k with multiball := k.multiball && !k.multiballOver }) r := by
    funext _ r
    cases r <;> simp [light, ← slotsLit_iff]
  have he : (fun e : ModeEntry =>
        if e.state ≠ .suspended ∧ k.profile.modes[e.mode].noPause = false then
          { e with state := if InstancesPaused k then .paused else .running }
        else e) = repaused k := by
    funext e
    simp [repaused, ModeEntry.active, GameTable.modeDef, instancesPaused_iff]
  unfold RecomputedFrom
  rw [multiball_eq, he]
  exact hs ▸ Iff.rfl

/-- R17, R16: the table that an application leaves is the kind stage's, recomputed, its ordinal one higher. -/
theorem applyFrame_recomputed (own : Station) (sync : Bool) (f : Frame) (t : GameTable) :
    RecomputedFrom (kindStage own sync f (Work.begin t f)).1.table (applyFrame own sync f t).1.table := by
  rw [recomputedFrom_iff]
  simp only [applyFrame, Work.countOrdinal, upd_table, noteBalls_table, recompute_table]

/-- The table of the kind stage is that of the checks and effects behind the gate, with the completion check. -/
theorem kindStage_table (own : Station) (sync : Bool) (f : Frame) :
    (kindStage own sync f w).1.table = completionChecked (gatedStage own sync f w).1.table := by
  unfold kindStage
  exact completionCheck_table _

@[simp] theorem begin_table (t : GameTable) (f : Frame) : (Work.begin t f).table = t.heard f.sender := rfl

end Sys2Proof.Machine
end

