-- ==== Sys2Proof/Laws/Moves.lean ====
section
/-! SUPPORT. Laws/Moves.lean: what the moves of the station state, the losses of validity and a whole application leave
unchanged, and the table that an application leaves. -/

namespace Sys2Proof.Machine

/-- The waiting commands, local time, the configuration, the game table, the Switch Unit, the Sensor Unit, and of Station
Control the straps, the number, the listener role, the mask and the profile digest are as they were, and so is all of the
Bus Controller but the inbound queue. -/
structure SameGame (s t : State) : Prop where
  pending  : t.pending = s.pending
  now      : t.now = s.now
  cfg      : t.cfg = s.cfg
  table    : t.table = s.table
  sw       : t.sw = s.sw
  sen      : t.sen = s.sen
  ctl      : t.ctl = { s.ctl with state := t.ctl.state, faults := t.ctl.faults }
  bus      : t.bus = { s.bus with inbound := t.bus.inbound }

namespace SameGame

theorem refl (s : State) : SameGame s s := ⟨rfl, rfl, rfl, rfl, rfl, rfl, rfl, rfl⟩

theorem trans {s t u : State} (h : SameGame s t) (g : SameGame t u) : SameGame s u :=
  ⟨g.pending.trans h.pending, g.now.trans h.now, g.cfg.trans h.cfg, g.table.trans h.table, g.sw.trans h.sw,
    g.sen.trans h.sen, by rw [g.ctl, h.ctl], by rw [g.bus, h.bus]⟩

theorem station {s t : State} (h : SameGame s t) : t.ctl.station = s.ctl.station := by rw [h.ctl]
theorem listener {s t : State} (h : SameGame s t) : t.ctl.listener = s.ctl.listener := by rw [h.ctl]

theorem ite {s t u : State} {p : Prop} [Decidable p] (h : SameGame s t) (g : SameGame s u) :
    SameGame s (if p then t else u) := by
  split <;> assumption

end SameGame

theorem Kept.game {s t : State} (h : Kept s t) : SameGame s t :=
  ⟨h.pending, h.now, h.cfg, h.table, h.sw, h.sen, by rw [h.ctl], by rw [h.bus]⟩

variable (s : State)

theorem game_updEng (f : Engine → Engine) : SameGame s (s.updEng f) := ⟨rfl, rfl, rfl, rfl, rfl, rfl, rfl, rfl⟩
theorem game_startSync : SameGame s s.startSync := game_updEng s _
theorem game_stopSync : SameGame s s.stopSync := game_updEng s _
theorem game_restartSync : SameGame s s.restartSync := SameGame.ite (SameGame.refl s) (game_startSync s)

theorem game_setState (st : StationState) : SameGame s (s.setCtl { s.ctl with state := st }) :=
  ⟨rfl, rfl, rfl, rfl, rfl, rfl, rfl, rfl⟩

theorem game_moveStation (st : StationState) : SameGame s (s.moveStation st) := by
  unfold State.moveStation
  refine SameGame.ite (SameGame.refl s) ?_
  have h1 : SameGame s (if s.ctl.state = .member then s.flushClaims.setPresence 0 else s) :=
    SameGame.ite ((kept_flushClaims s).trans (kept_setPresence _ 0)).game (SameGame.refl s)
  have h2 := SameGame.ite (p := st = .member) (h1.trans (kept_setPresence _ 0).game) h1
  have h3 := h2.trans (game_setState _ st)
  have h4 := SameGame.ite (p := st = .syncing) (h3.trans (game_startSync _))
    (SameGame.ite (p := s.ctl.state = .syncing) (h3.trans (game_stopSync _)) h3)
  exact h4.trans (kept_judgeTickTimer _).game

theorem game_changeStation (st : StationState) : SameGame s (s.changeStation st) := by
  unfold State.changeStation
  exact SameGame.ite (SameGame.refl s)
    (((game_moveStation s st).trans (kept_deriveDuties _).game).trans (kept_refreshLamps _).game)

theorem game_validated : SameGame s s.validated := by
  unfold State.validated
  have h := (game_updEng s fun e => { e with replica := .valid }).trans (kept_clearFault _ .diverged).game
  exact SameGame.ite (h.trans (game_moveStation _ _)) h

theorem game_invalidate : SameGame s s.invalidate := by
  unfold State.invalidate
  have h1 := game_updEng s fun e => { e with replica := .unknown, history := [], tally := 0, loss := none }
  refine (h1.trans (?_ : SameGame _ _)).trans
    (((kept_flushClaims _).trans (kept_removeAccepted _)).trans (kept_judgeTickTimer _)).game
  exact ⟨rfl, rfl, rfl, rfl, rfl, rfl, rfl, rfl⟩

theorem game_performLoss : SameGame s s.performLoss := by
  unfold State.performLoss
  have h := game_invalidate s
  exact ((SameGame.ite h (h.trans (game_moveStation _ _))).trans (kept_deriveDuties _).game).trans
    (kept_refreshLamps _).game

theorem game_causeLoss (c : LossCause) : SameGame s (s.causeLoss c) :=
  SameGame.ite (game_updEng s _) (game_performLoss s)

theorem game_takeLoss (d : Bool) : SameGame s (s.takeLoss d) := by
  unfold State.takeLoss
  exact SameGame.ite ((kept_setFault s _).game.trans (game_performLoss _))
    (SameGame.ite (game_performLoss s) (SameGame.refl s))

theorem game_handOff (f : Frame) (o : AppOutcome) (began : Bool) (before : GameTable) :
    SameGame s (s.handOff f o began before) := by
  unfold State.handOff
  have h2 := (game_moveStation s s.stateAfter).trans (kept_claimHandOff _ f o began).game
  exact ((SameGame.ite (h2.trans (kept_cancelScoops _).game) h2).trans (kept_deriveDuties _).game).trans
    (kept_refreshLamps _).game

/-- The table that an admitted frame's application leaves. -/
def State.appliedTable (s : State) (f : Frame) : GameTable :=
  (applyFrame s.ctl.station (s.syncStart f) f s.table).1.table

theorem game_completed (f : Frame) : SameGame (s.setTable (s.appliedTable f)) (s.completed f) := by
  unfold State.completed
  have h0 : SameGame (s.setTable (s.appliedTable f)) (s.afterStages f) := ⟨rfl, rfl, rfl, rfl, rfl, rfl, rfl, rfl⟩
  have h1 := h0.trans (kept_notifyAll _ (applyFrame s.ctl.station (s.syncStart f) f s.table).1.notices).game
  exact (SameGame.ite (h1.trans (game_validated _)) h1).trans (game_handOff _ _ _ _ _)

/-- What an application of an admitted frame leaves unchanged, and the table it leaves. -/
theorem game_application (f : Frame) (h : s.admits f = true) :
    SameGame (s.setTable (s.appliedTable f)) (s.application f) := by
  unfold State.application
  rw [if_pos h]
  exact (game_completed s f).trans (game_takeLoss _ _)

theorem application_table (f : Frame) (h : s.admits f = true) : (s.application f).table = s.appliedTable f :=
  (game_application s f h).table

/-- A frame that is not admitted is discarded (R4). -/
theorem application_discarded (f : Frame) (h : s.admits f = false) : s.application f = s := by
  simp [State.application, h]

/-! ### Taking the frame -/

theorem taken_table : s.taken.table = s.table := by unfold State.taken; split <;> rfl
theorem taken_ctl : s.taken.ctl = s.ctl := by unfold State.taken; split <;> rfl
theorem taken_game : SameGame s s.taken := by unfold State.taken; split <;> exact ⟨rfl, rfl, rfl, rfl, rfl, rfl, rfl, rfl⟩
theorem taken_isValid : s.taken.isValid = s.isValid := by unfold State.taken; split <;> rfl
theorem taken_syncCounted : s.taken.syncCounted = s.syncCounted := by unfold State.taken; split <;> rfl
theorem taken_syncStart (f : Frame) : s.taken.syncStart f = s.syncStart f := by
  unfold State.syncStart
  rw [taken_isValid, taken_ctl, taken_syncCounted]
theorem taken_appliedTable (f : Frame) : s.taken.appliedTable f = s.appliedTable f := by
  unfold State.appliedTable
  rw [taken_syncStart, taken_ctl, taken_table]

/-- A frame's command applies the next frame where it is of the command's sort. -/
theorem applyNext_eq (sort : Frame → Bool) (f : Frame) (h : s.nextFrame = some f) (hs : sort f = true) :
    s.applyNext sort = s.taken.application f := by
  simp [State.applyNext, h, hs]

/-- What a frame's command leaves unchanged, and the table it leaves, with the replica VALID. -/
theorem applyNext_game (sort : Frame → Bool) (f : Frame) (h : s.nextFrame = some f) (hs : sort f = true)
    (hv : s.isValid = true) : SameGame (s.setTable (s.appliedTable f)) (s.applyNext sort) := by
  rw [applyNext_eq s sort f h hs, ← taken_appliedTable]
  have ha : s.taken.admits f = true := by simp [State.admits, taken_isValid, hv]
  have hk : SameGame (s.setTable (s.taken.appliedTable f)) (s.taken.setTable (s.taken.appliedTable f)) := by
    have := taken_game s
    exact ⟨this.pending, this.now, this.cfg, rfl, this.sw, this.sen, this.ctl, this.bus⟩
  exact hk.trans (game_application s.taken f ha)

theorem applyNext_table (sort : Frame → Bool) (f : Frame) (h : s.nextFrame = some f) (hs : sort f = true)
    (hv : s.isValid = true) : (s.applyNext sort).table = s.appliedTable f :=
  (applyNext_game s sort f h hs hv).table

end Sys2Proof.Machine
end

