-- ==== Sys2Proof/Laws/Profile.lean ====
section
/-! SUPPORT. Laws/Profile.lean: the profile stays as it was loaded through every application (R12). -/

namespace Sys2Proof.Machine

/-- The profile is as it was. -/
structure ProfileKept (v w : Work) : Prop where
  profile : w.table.profile = v.table.profile

namespace ProfileKept

theorem refl (w : Work) : ProfileKept w w := ⟨rfl⟩

theorem trans {u v w : Work} (h : ProfileKept u v) (g : ProfileKept v w) : ProfileKept u w :=
  ⟨g.profile.trans h.profile⟩

theorem ite {u v w : Work} {p : Prop} [Decidable p] (h : ProfileKept u v) (g : ProfileKept u w) :
    ProfileKept u (if p then v else w) := by
  split <;> assumption

theorem foldl {α : Type} {f : Work → α → Work} (hf : ∀ w a, ProfileKept w (f w a)) (l : List α) (w : Work) :
    ProfileKept w (l.foldl f w) := by
  induction l generalizing w with
  | nil => exact refl w
  | cons a l ih => exact (hf w a).trans (ih _)

end ProfileKept

variable (w : Work)

theorem profile_upd (f : GameTable → GameTable) (h : ∀ t, (f t).profile = t.profile) : ProfileKept w (w.upd f) :=
  ⟨h w.table⟩

theorem profile_note (n : NoticeBody) : ProfileKept w (w.note n) := ⟨rfl⟩
theorem profile_mapModes (f : ModeEntry → ModeStep) : ProfileKept w (w.mapModes f) := ⟨rfl⟩
theorem profile_mapSlots (g : Slot → SlotRecord → SlotRecord) : ProfileKept w (w.mapSlots g) := ⟨rfl⟩
theorem profile_award (n : Nat) : ProfileKept w (w.award n) := ⟨rfl⟩
theorem profile_updPlayer (f : Player → Player) : ProfileKept w (w.updPlayer f) := ⟨rfl⟩
theorem profile_refuse (f : Frame) (r : Reason) : ProfileKept w (w.refuse f r).1 := ⟨rfl⟩
theorem profile_updMember (k : Station) (g : Member → Member) : ProfileKept w (w.updMember k g) := ⟨rfl⟩

theorem profile_memberBecomes (k : Station) (st : MemberState) : ProfileKept w (w.memberBecomes k st) :=
  (profile_updMember w k _).trans (profile_note _ _)

theorem profile_admission (k : Station) (declared occupied : Byte) : ProfileKept w (w.admission k declared occupied) := by
  unfold Work.admission
  exact ((profile_memberBecomes w k .member).trans (profile_mapSlots _ _)).trans
    (ProfileKept.foldl (fun v n => by
      unfold Work.clearOccupied
      exact ProfileKept.ite ⟨rfl⟩ ⟨rfl⟩) _ _)

theorem profile_tiltEffects : ProfileKept w w.tiltEffects := ⟨rfl⟩
theorem profile_countNudge : ProfileKept w w.countNudge := ⟨rfl⟩
theorem profile_gameOver : ProfileKept w w.gameOver := ⟨rfl⟩
theorem profile_nextBall : ProfileKept w w.nextBall := ⟨rfl⟩

theorem profile_completeBallEnd : ProfileKept w w.completeBallEnd := by
  unfold Work.completeBallEnd
  exact ProfileKept.ite ⟨rfl⟩ ⟨rfl⟩

theorem profile_completionCheck : ProfileKept w w.completionCheck := by
  unfold Work.completionCheck
  exact ProfileKept.ite (profile_completeBallEnd w) (ProfileKept.refl w)

theorem profile_ballEndEntryCheck : ProfileKept w w.ballEndEntryCheck := by
  unfold Work.ballEndEntryCheck
  exact ProfileKept.ite ⟨rfl⟩ ⟨rfl⟩

theorem profile_silenceCheck : ProfileKept w w.silenceCheck := by
  unfold Work.silenceCheck
  exact ProfileKept.ite ⟨rfl⟩ ⟨rfl⟩

theorem profile_silenceStage : ProfileKept w w.silenceStage := by
  unfold Work.silenceStage
  exact ProfileKept.ite ⟨rfl⟩ (profile_silenceCheck w)

theorem profile_lockEffects (n : Slot) (k : Station) : ProfileKept w (w.lockEffects n k) := by
  unfold Work.lockEffects
  exact ProfileKept.ite ⟨rfl⟩ (ProfileKept.ite ⟨rfl⟩ ⟨rfl⟩)

theorem profile_judgeJoin (k : Station) (d : Word16) (dec occ roles : Byte) :
    ProfileKept w (w.judgeJoin k d dec occ roles) := by
  unfold Work.judgeJoin
  have h := (profile_updMember w k fun m =>
    { m with declared := dec, trough := roles.getLsbD 0, start := roles.getLsbD 1, digest := some d }).trans
    (profile_upd _ (fun t => { t with referenceDigest := some (t.referenceDigest.getD d) }) fun _ => rfl)
  exact ProfileKept.ite (h.trans (profile_memberBecomes _ _ _))
    (ProfileKept.ite (h.trans (profile_memberBecomes _ _ _)) (h.trans (profile_admission _ _ _ _)))

theorem profile_goalHits (m : Nat) (tag : Byte) (l kept : List ModeEntry) :
    ProfileKept w (goalHits m tag kept l w) := by
  induction l generalizing kept w with
  | nil => exact ⟨rfl⟩
  | cons e l ih =>
    unfold goalHits
    refine ProfileKept.ite ?_ (ih w _)
    refine ProfileKept.ite ?_ ?_
    · refine ProfileKept.trans ?_ (ih _ _)
      exact ((profile_award w _).trans (profile_award _ _)).trans ((profile_updPlayer _ _).trans (profile_note _ _))
    · refine ProfileKept.trans ?_ (ih _ _)
      exact (profile_award w _).trans (profile_note _ _)

theorem profile_jackpotStage (m : Nat) (flags : Byte) : ProfileKept w (w.jackpotStage m flags) := by
  unfold Work.jackpotStage
  exact ProfileKept.ite ⟨rfl⟩ ⟨rfl⟩

theorem profile_lightLock (flags : Byte) : ProfileKept w (w.lightLock flags) := by
  unfold Work.lightLock
  exact ProfileKept.ite ⟨rfl⟩ ⟨rfl⟩

theorem profile_hitEffects (k : Station) (sw : Switch) (base : BitVec 24) (tag flags : Byte) :
    ProfileKept w (w.hitEffects k sw base tag flags) := by
  unfold Work.hitEffects
  have h := (((profile_award w (base.toNat * w.table.multiplierOf w.table.modes)).trans
    (profile_goalHits _ (w.table.multiplierOf w.table.modes) tag
      (w.award (base.toNat * w.table.multiplierOf w.table.modes)).table.modes [])).trans
    (profile_lightLock _ flags)).trans (profile_jackpotStage _ (w.table.multiplierOf w.table.modes) flags)
  exact ProfileKept.ite h (h.trans (profile_note _ _))

theorem profile_countdown (k : Station) : ProfileKept w (w.countdown k) := by
  unfold Work.countdown
  split
  · exact ⟨rfl⟩
  · unfold Work.rollcallCountdown
    have h := profile_upd w (fun t => { t with rollcallRemaining := t.rollcallRemaining - 1 }) fun _ => rfl
    refine ProfileKept.ite (h.trans ?_) h
    generalize (w.upd fun t => { t with rollcallRemaining := t.rollcallRemaining - 1 }) = v
    unfold Work.endRollcall
    split <;> exact ⟨rfl⟩
  · exact ⟨rfl⟩
  · unfold Work.ballEndCountdown
    have h := profile_upd w (fun t => { t with ballEndRemaining := t.ballEndRemaining - 1 }) fun _ => rfl
    refine ProfileKept.ite ?_ h
    exact (h.trans (profile_upd _ (fun t => { t with returning := 0 }) fun _ => rfl)).trans (profile_completeBallEnd _)

theorem profile_tickEffects (k : Station) : ProfileKept w (w.tickEffects k) := by
  unfold Work.tickEffects
  have h : ProfileKept w w.advanceTick.expireHolds := ⟨rfl⟩
  exact ((h.trans (profile_countdown _ k)).trans (profile_silenceStage _)).trans (profile_ballEndEntryCheck _)

/-- R12: no kind's checks and effects change the profile. -/
theorem profile_kindChecks (own : Station) (sync : Bool) (f : Frame) :
    ProfileKept w (kindChecks own sync f w).1 := by
  unfold kindChecks
  split
  · unfold tiltStage; repeat' split
    all_goals exact ⟨rfl⟩
  · unfold nudgeStage
    split
    · exact profile_refuse _ _ _
    · split
      · exact ProfileKept.refl w
      · split
        · exact (profile_countNudge w).trans (profile_tiltEffects _)
        · exact profile_countNudge w
  · unfold lockStage; repeat' split
    all_goals first | exact profile_refuse _ _ _ | exact profile_lockEffects _ _ _
  · unfold lostStage; repeat' split
    all_goals exact ⟨rfl⟩
  · unfold releasedStage
    split
    · refine ⟨?_⟩
      show ((w.setSlot _ _).table.countRelease _).profile = _
      unfold GameTable.countRelease
      split <;> rfl
    · exact ⟨rfl⟩
  · unfold jammedStage
    split
    · split
      · refine ProfileKept.trans ?_ (profile_ballEndEntryCheck _)
        exact ProfileKept.ite ⟨rfl⟩ ⟨rfl⟩
      · exact ⟨rfl⟩
    · exact ⟨rfl⟩
  · unfold drainStage
    split
    · exact ⟨rfl⟩
    · split
      · exact ⟨rfl⟩
      · split
        · dsimp only
          split
          · exact ⟨rfl⟩
          · refine ProfileKept.trans ?_ (profile_ballEndEntryCheck _)
            exact ⟨rfl⟩
        · exact ⟨rfl⟩
  · unfold launchedStage; repeat' split
    all_goals exact ⟨rfl⟩
  · unfold startStage addPlayerStage; repeat' split
    all_goals exact ⟨rfl⟩
  · unfold hitStage; repeat' split
    all_goals first | exact profile_refuse _ _ _ | exact profile_hitEffects _ _ _ _ _ _
  · unfold modeStage
    split
    · exact ⟨rfl⟩
    · split
      · exact ⟨rfl⟩
      · split
        · exact ⟨rfl⟩
        · unfold Work.modeEffects
          refine ProfileKept.trans ?_ (profile_note _ _)
          exact ProfileKept.ite ⟨rfl⟩ ⟨rfl⟩
  · split
    · unfold holdClearStage; split <;> exact ⟨rfl⟩
    · unfold holdSetStage; split <;> exact ⟨rfl⟩
  · unfold tickStage
    split
    · exact profile_tickEffects _ _
    · exact ⟨rfl⟩
  · unfold presenceStage; split <;> exact ⟨rfl⟩
  · unfold joinStage
    split
    · exact ⟨rfl⟩
    · split
      · exact profile_judgeJoin _ _ _ _ _ _
      all_goals exact ⟨rfl⟩

/-- R12: an application leaves the profile as it was. -/
theorem applyFrame_profile (own : Station) (sync : Bool) (f : Frame) (t : GameTable) :
    (applyFrame own sync f t).1.table.profile = t.profile := by
  have hg : ProfileKept (Work.begin t f) (gatedStage own sync f (Work.begin t f)).1 := by
    unfold gatedStage
    split
    · exact ⟨rfl⟩
    · exact profile_kindChecks _ own sync f
  have hk : ProfileKept (Work.begin t f) (kindStage own sync f (Work.begin t f)).1 :=
    hg.trans (profile_completionCheck _)
  have hr := applyFrame_recomputed own sync f t
  unfold RecomputedFrom at hr
  rw [hr]
  exact hk.profile

end Sys2Proof.Machine
end

