-- ==== Sys2Proof/Laws/Report.lean ====
section
/-! SUPPORT. Laws/Report.lean: what one notice, and a list of them, makes of the report port, and the bytes of a number. -/

namespace Sys2Proof.Machine

theorem toBytes_eq_bigEndian (k v : Nat) : toBytes k v = bigEndian k v := by
  induction k with
  | zero => rfl
  | succ k ih =>
    simp only [toBytes, ih, bigEndian, List.range_succ, List.reverse_append, List.reverse_singleton, List.map_cons,
      List.singleton_append, Nat.shiftRight_eq_div_pow, Nat.pow_mul]

/-- What is cut from a list does not come back: a bound may be kept at every step or at the end. -/
theorem take_take_append {α : Type} (n : Nat) (l r : List α) : (l.take n ++ r).take n = (l ++ r).take n := by
  by_cases h : l.length ≤ n
  · rw [List.take_of_length_le h]
  · have h' : n ≤ l.length := by omega
    rw [List.take_append_of_le_length (by simp; omega), List.take_append_of_le_length h', List.take_take, Nat.min_self]

/-- R182: one notice, with the port enabled. -/
theorem notify_rpt (s : State) (b : NoticeBody) (h : s.rpt.enabled = true) (hl : s.rpt.fifo.length ≤ 32) :
    (s.notify b).rpt = { s.rpt with
      number := s.rpt.number + 1#8
      fifo :=
        (s.rpt.fifo ++ [({ number := s.rpt.number, ordinal := s.table.ordinal.truncate 16, body := b } : Notice)]).take 32 } := by
  have e : (s.notify b).rpt = s.rpt.create s.table.ordinal b := rfl
  rw [e, ReportPort.create, if_pos h]
  by_cases hf : s.rpt.fifo.length < Config.noticeCapacity
  · simp only [if_pos hf]
    rw [List.take_of_length_le (by simp only [List.length_append, List.length_singleton]; exact hf)]
  · simp only [if_neg hf]
    have h32 : s.rpt.fifo.length = 32 := Nat.le_antisymm hl (Nat.not_lt.mp hf)
    rw [List.take_append_of_le_length (Nat.le_of_eq h32.symm), List.take_of_length_le hl]

/-- R182: notices handed over in order join the FIFO as `NoticesJoin` says. -/
theorem noticesJoin_notifyAll (s : State) (bodies : List NoticeBody) : NoticesJoin s (s.notifyAll bodies) bodies := by
  induction bodies generalizing s with
  | nil =>
    refine ⟨fun _ => rfl, fun _ h => ?_⟩
    simp [State.notifyAll, List.take_of_length_le h]
  | cons b bs ih =>
    have hs : s.notifyAll (b :: bs) = (s.notify b).notifyAll bs := rfl
    obtain ⟨i1, i2⟩ := ih (s.notify b)
    rw [hs]
    constructor
    · intro h
      have hn : (s.notify b).rpt = s.rpt := by
        simp [State.notify, ReportPort.create, h]
      rw [i1 (by rw [hn]; exact h), hn]
    · intro h hl
      have hn := notify_rpt s b h hl
      have ht : (s.notify b).table = s.table := rfl
      rw [i2 (by rw [hn]; exact h) (by rw [hn]; exact List.length_take_le _ _), hn, ht]
      simp only [List.length_cons, take_take_append, List.append_assoc, List.zipIdx_cons', List.map_cons, List.map_map,
        BitVec.ofNat_add, BitVec.add_assoc]
      congr 1
      · refine congrArg (List.take 32) (congrArg (s.rpt.fifo ++ ·) (congr (congrArg List.cons ?_) (List.map_congr_left ?_)))
        · simp
        · intro x _
          simp [BitVec.ofNat_add, BitVec.add_comm]
      · rw [BitVec.add_comm 1#8]

end Sys2Proof.Machine
end

