-- ==== Sys2Proof/Tests/Slice0.lean ====
section
/-! SUPPORT. Tests/Slice0.lean: the smoke tests of WellFormed and of the layouts, one-step tests, and for every statement with
hypotheses (Certificates/Slice0/Obligations.lean) a witness: concrete states and operands that meet them, clause by
clause. -/

namespace Sys2Proof.Tests

set_option Elab.async false

open Sys2Proof.Machine

/-! ### Helpers -/

/-- The state that a command answers. -/
def after (c : Instr) (s : State) : State :=
  match exec c s with
  | .next t => t
  | .fault _ | .refused _ => s

/-- A profile: 3 balls, lock goal 2; mode 0 has goal tag 4, 2 hits and group 1; mode 1 has group 1; mode 2 is the final. -/
def prof : Profile :=
  { ballsInstalled := 3, ballsPerGame := 3, lockGoal := 2, saveTicks := 30, jackpotBase := 500, jackpotStep := 250
    nudgeWarnings := 1
    modes := vtab fun m : ModeId =>
      { ModeDef.blank with
        defined := decide (m.val < 7), duration := 100, goalTag := if m.val = 0 then 4 else 9, goalCount := 2
        perHit := 10, completion := 1000, group := if m.val < 2 then 1 else 0, sweepCounts := decide (m.val < 2)
        sweepFinal := decide (m.val = 2) } }

/-- A table with stations 3 and 5 MEMBER, station 3 the trough member, one ball in play. -/
def tbl (phase : Phase) : GameTable :=
  { GameTable.attractDefaults prof with
    phase := phase, inPlay := 1
    members := vtab fun k : Station =>
      if k = 3 ∨ k = 5 then { Member.initial with state := .member, trough := decide (k = 3) } else Member.initial }

/-- The table with one slot changed. -/
def slot0 (t : GameTable) (r : SlotRecord) : GameTable := withSlot t 0 r

/-- Station 3, MEMBER, with a table and inbound frames, its replica VALID, the bus idle. -/
def station (t : GameTable) (inbound : List Frame) : State :=
  { State.reset with
    ctl := { Control.reset with straps := 3#4, station := 3, state := .member }
    table := t
    eng := { Engine.reset with replica := .valid }
    bus := { Bus.reset with link := .idle, inbound := inbound } }

/-- That station with one frame of its own to apply. -/
def own (t : GameTable) (p : Payload) : State := station t [⟨3, p⟩]

/-- The hypotheses that the statements about applications share. -/
abbrev Meets (s : State) (f : Frame) : Prop :=
  (s.nextFrame = some f ∧ s.isValid = true) ∧ (s.table.phase = .attract ∨ s.table.members[f.sender].state = .member)

theorem test_meets (s : State) (f : Frame) (h : Meets s f) : TakesNext s f ∧ PassesGate s f := h

/-- The frame of station 3 with a payload passes to the application in the table. -/
abbrev Runs (t : GameTable) (p : Payload) : Prop := Meets (own t p) ⟨3, p⟩

/-- A claim of a payload. -/
def claim (p : Payload) (st : ClaimState) : Claim :=
  { payload := p, state := st, attempts := 0, origin := .timer, created := 0 }

/-- The station with one claim and a link state. -/
def linked (link : Link) (q : List Claim) : State :=
  { station (tbl .play) [] with
    bus := { Bus.reset with link := link }
    claim := { ClaimUnit.reset with queue := q, serial := 1 } }

/-- The station in another state of section 11.4, with its replica UNKNOWN. -/
def unknown (st : StationState) (inbound : List Frame) : State :=
  { station (tbl .play) inbound with
    ctl := { Control.reset with station := 3, state := st }, eng := Engine.reset }

/-- A usable image: every byte of the body 0 but the fields that must be in range. -/
def imageBody (override : Byte) : List Byte :=
  (((((List.replicate 520 0#8).set 0 override).set 404 3#8).set 405 3#8).set 406 2#8)

/-- An image with its head and its check. -/
def headed (body : List Byte) : List Byte := [0x4D#8, 0x32#8, 0x02#8, 0x08#8] ++ toBytes 2 (crc16 body).toNat ++ body

/-- That body as an image; its driver configurations, among others, are out of range. -/
def image (override : Byte) : List Byte := headed (imageBody override)

/-- A body whose every field is in range: a pulse for each output, thresholds for each channel, a scan list of one channel,
no lamp bound. -/
def soundBody : List Byte :=
  (imageBody 3#8).take 290 ++ (List.replicate 8 [0#8, 1#8, 0#8, 0#8, 0#8]).flatten ++ [1#8, 0#8, 0#8, 0#8, 0#8, 0#8]
    ++ (List.replicate 4 [1#8, 3#8, 132#8, 4#8, 176#8, 0xFF#8, 0#8]).flatten ++ [1#8, 0#8, 0#8, 0#8, 0#8, 8#8]
    ++ (List.replicate 16 [9#8, 0#8]).flatten ++ (imageBody 3#8).drop 402

/-- The body of the image with the rule of switch 31, an input of an expander that is not present, out of range, and that
of switch 3 with a rule of each bit pattern above the last kind. -/
def strayRules (kind : Byte) : List Byte := (soundBody.set (2 + 9 * 31) 8#8).set (2 + 9 * 3) kind

/-! ### WellFormed -/

theorem test_wf_endMark_short : (Instr.endMark [] false).wellFormed = false := by decide
theorem test_wf_missingEndMark_short : (Instr.missingEndMark [true]).wellFormed = false := by decide
theorem test_wf_configurationRead_short : (Instr.configurationRead []).wellFormed = false := by decide
theorem test_wf_expanderRead_both : (Instr.expanderRead (some 0#8) (some 0#8) false).wellFormed = false := by decide

theorem test_wf_good : (Instr.endMark (Frame.wireBits ⟨3, .tick 7#16⟩) false).wellFormed = true
    ∧ (Instr.missingEndMark (Frame.wireBits ⟨3, .drain⟩)).wellFormed = true
    ∧ (Instr.configurationRead (image 0xFF#8)).wellFormed = true
    ∧ (Instr.expanderRead none (some 0#8) false).wellFormed = true := by decide +kernel

/-! ### Layouts -/

/-- The check value of the CRC-16 of R13 over the nine digits. -/
theorem test_crc16 :
    crc16 [0x31#8, 0x32#8, 0x33#8, 0x34#8, 0x35#8, 0x36#8, 0x37#8, 0x38#8, 0x39#8] = 0x29B1#16 := by decide +kernel

/-- The header of a DRAIN of station 5: class 1, sender 5, kind 6, length 0 (R106). -/
theorem test_drain_header : (Frame.bodyBits ⟨5, .drain⟩) =
    [false, true, false, true, false, true, false, true, true, false, false, false, false, false] := by decide

/-- An image corrected in its override, and one that is not usable. -/
theorem test_images : imageUsable (fullImage (image 0x21#8)) = true ∧ imageUsable (fullImage []) = false
    ∧ (readOverride (fullImage (image 0x21#8))).2 = true ∧ (readOverride (fullImage (image 0xFF#8))).2 = false := by
  decide +kernel

/-- R142, R177: the rule of a switch that is not present is not looked at; that of a direct pin is. -/
theorem test_rules_read : imageCorrected (fullImage (headed (strayRules 7#8))) = false
    ∧ imageCorrected (fullImage (headed (strayRules 8#8))) = true
    ∧ (readSwitch (fullImage (headed (strayRules 8#8))) 3).1.kind = .none := by decide +kernel

/-- R172, R177: a lamp source without a meaning is out of range. -/
theorem test_lampSource : LampSource.ofCode 10 0 = none ∧ LampSource.ofCode 2 5 = none ∧ LampSource.ofCode 5 0 = none
    ∧ LampSource.ofCode 9 0 = some .none := by decide +kernel

/-- No row gives bits, so no word spells a command (log entry 26). -/
theorem test_no_word : decodeTableWord 16 0x1234 = none ∧ State.reset.withFetchWord 16 0x1234 = State.reset := by
  constructor <;> rfl

/-! ### Steps -/

theorem test_lock_multiball :
    let t := { slot0 (tbl .play) (.opened 3) with
      players := vtab fun _ => { Player.initial with locksLit := 1 } }
    let u := (after .lock (own (withSlot t 1 (.held 5 0)) (.lock 0))).table
    u.multiball = true ∧ u.slots[0] = .releasing 3 .multiball ∧ u.slots[1] = .releasing 5 .multiball ∧ u.inPlay = 0
      ∧ u.jackpot = 500 ∧ u.saveWindow = 30 ∧ u.servePending = 0 := by decide +kernel

theorem test_drain_ends_ball :
    (after .drain (own (tbl .play) .drain)).table.ballNumber = 2
      ∧ (after .drain (own (tbl .play) .drain)).table.phase = .play
      ∧ (after .drain (own (tbl .play) .drain)).table.servePending = 1 := by decide +kernel

theorem test_hit_score :
    (after .hit (own (tbl .play) (.hit 4 100#24 0#8 1#8))).table.players[0]
      = { Player.initial with score := 100, locksLit := 1 } := by decide +kernel

theorem test_reset_configured :
    (after (.configurationRead (image 0xFF#8)) State.reset).ctl.state = .syncing
      ∧ (after (.configurationRead []) State.reset).ctl.state = .unconfigured := by decide +kernel

/-- R176: the read selects the memory, sends 03h and the address 000000h, clocks in 526 bytes and releases it. -/
theorem test_memory_read :
    (after (.configurationRead []) State.reset).ctl.memory
      = { selected := false, sent := [0x03#8, 0x00#8, 0x00#8, 0x00#8], clocked := 526 } := by decide +kernel

/-- R109: local time that passes the read-back of the last sender bit makes the contender SENDING, whatever command moves
it. -/
theorem test_contender_passes :
    let s := { station (tbl .play) [] with
      bus := { Bus.reset with link := .contending, senderPassDue := 50 }
      claim := { ClaimUnit.reset with tickTimer := .running 50 } }
    (after .tickTimerExpiry s).bus.link = .sending := by decide +kernel

/-- R145: the read that follows the first of a pass calls the next expander at its address, to read. -/
theorem test_scan_call :
    let s := { station (tbl .play) [] with
      cfg := { StationConfig.blank with expanders := Vector.replicate 3 true, addresses := vtab fun e => BitVec.ofNat 7 (32 + e.val) }
      sw := { SwitchUnit.started 0 with scan := .pass [0, 2] } }
    (after (.expanderRead (some 0#8) none false) s).sw.call = some { address := 34#7, read := true } := by decide +kernel

theorem test_notice_bytes :
    ({ number := 1#8, ordinal := 0x0203#16, body := .start 4 } : Notice).bytes.take 6
      = [0x7E#8, 1#8, 1#8, 2#8, 3#8, 1#8] := by decide +kernel

/-! ### Witnesses: steps, the bus -/

theorem witness_StepRunsFrontCommand : ({ State.reset with pending := [.cut] } : State).pending = [.cut] := rfl

theorem witness_EmptyQueueIdles :
    let s := { station (tbl .play) [⟨3, .drain⟩] with
      bus := { (station (tbl .play) [⟨3, .drain⟩]).bus with link := .contending, senderPassDue := 1 } }
    s.pending = [] ∧ s.isValid = true ∧ s.eng.inFlight = none ∧ s.eng.loss = none ∧ s.bus.senderPassDue ≤ s.now + 1 := by
  decide +kernel

/-- The image whose fields are all in range. -/
def soundImage : List Byte := fullImage (headed soundBody)

theorem witness_ConfigurationRead :
    (station (tbl .play) []).ctl.state ≠ .loading
      ∧ (State.reset.ctl.state = .loading ∧ State.reset.isValid = false)
      ∧ ¬Usable (fullImage []) ∧ Usable soundImage ∧ Usable (fullImage (image 0x21#8)) := by
  refine ⟨by decide +kernel, by decide +kernel, fun h => absurd h.signature (by decide +kernel), ?_, ?_⟩ <;>
    constructor <;> decide +kernel

theorem witness_ConfigurationRead_corrected : OutOfRange (fullImage (image 0x21#8)) ∧ ¬OutOfRange soundImage := by
  constructor
  · exact Or.inl (by decide +kernel)
  · simp only [OutOfRange, Wired, ExpanderPresent, RuleInRange, OutputInRange, SensorValid, BindingInRange, Binds,
      ChannelInUse, Scanned, LampInRange, ModeInRange, not_or]
    refine ⟨?_, ?_, ?_, ?_, ?_, ?_, ?_, ?_, ?_, ?_, ?_, ?_⟩ <;> decide +kernel

/-- R177: an eject driver above 7 sets CONFIG with no slot bound too; one in range does not. -/
theorem test_binding_driver :
    readBinding [0#8, 0#8, 0#8, 0#8, 0#8, 0xFF#8, 8#8] 0 = (none, true)
      ∧ readBinding [0#8, 0#8, 0#8, 0#8, 0#8, 0xFF#8, 7#8] 0 = (none, false)
      ∧ readBinding [0#8, 0#8, 0#8, 0#8, 0#8, 8#8, 7#8] 0 = (none, true)
      ∧ readBinding [0#8, 0#8, 0#8, 0#8, 0#8, 7#8, 7#8] 0 = (some (7, 7), false) := by decide +kernel

theorem witness_FrameBegins :
    let s := linked .idle [claim (.tick 1#16) .waiting]
    let free := { s with bus := { s.bus with busFree := true } }
    let yields := { s with bus := { s.bus with busFree := true, yielding := true } }
    let timed := { linked .contending [] with claim := { ClaimUnit.reset with tickTimer := .running 9 } }
    (s.bus.link = .idle ∧ s.bus.busFree = false ∧ s.bus.awaitEnd = false ∧ s.bus.stuck = false)
      ∧ free.bus.busFree = true ∧ (yields.bus.busFree = true ∧ yields.bus.yielding = true)
      ∧ (free.bus.link = .idle ∧ free.ctl.listener = false ∧ free.ctl.state ≠ .quiet ∧ free.bus.muted = false
        ∧ free.bus.stuck = false ∧ free.bus.yielding = false
        ∧ free.headClaim = some (claim (.tick 1#16) .waiting))
      ∧ (linked .receiving []).bus.link ≠ .idle
      ∧ (timed.bus.link = .contending ∧ timed.claim.tickTimer = .running 9) := by decide +kernel

theorem witness_FrameGivenUp :
    let c := claim (.tick 1#16) (.inFlight false)
    let d := claim (.tick 1#16) (.inFlight true)
    let waits := { linked .idle [] with bus := { Bus.reset with link := .idle, awaitEnd := true } }
    ((linked .contending [c]).inFlightClaim = some c ∧ c.state = .inFlight false
        ∧ (linked .contending [c]).bus.link = .contending ∧ (linked .sending [c]).transmitting = true)
      ∧ ((linked .contending [d]).inFlightClaim = some d ∧ d.state = .inFlight true)
      ∧ (linked .receiving []).bus.link = .receiving
      ∧ (waits.inFrame = false ∧ waits.bus.awaitEnd = true)
      ∧ ((linked .idle []).inFrame = false ∧ (linked .idle []).bus.awaitEnd = false) := by decide +kernel

theorem witness_LateLoss : (linked .contending []).transmitting = true ∧ (linked .sending []).transmitting = true
    ∧ (linked .idle []).transmitting = false ∧ (linked .sending []).ctl.state = .member := by decide +kernel

theorem witness_StrayMark :
    let s := { linked .receiving [] with bus := { Bus.reset with link := .receiving, stray := true } }
    s.inFrame = true ∧ s.bus.link = .receiving ∧ s.bus.stray = true ∧ s.checksFrames = true
      ∧ (linked .idle []).inFrame = false := by decide +kernel

theorem witness_FrameAccepted :
    let bits := Frame.wireBits ⟨5, .tick 9#16⟩
    let c := claim .drain (.inFlight false)
    let d := claim .drain (.inFlight true)
    ((linked .receiving []).inFrame = true ∧ (linked .receiving []).checksFrames = true
        ∧ (linked .receiving []).sound bits = true ∧ (linked .receiving []).readFrame bits = some ⟨5, .tick 9#16⟩
        ∧ (linked .receiving []).bus.inbound.length < 4)
      ∧ ((linked .sending [c]).transmitting = true ∧ (linked .sending [c]).inFlightClaim = some c
        ∧ (linked .sending [c]).sound [] = true ∧ (linked .sending [c]).readFrame [] = some ⟨3, .drain⟩)
      ∧ ((linked .sending [d]).inFlightClaim = some d ∧ (linked .sending [d]).checksFrames = true
        ∧ (linked .sending [d]).sound [] = true ∧ (linked .sending [d]).readFrame [] = some ⟨3, .drain⟩) := by
  decide +kernel

theorem witness_FrameVetoed :
    let c := claim .drain (.inFlight false)
    let last := { claim .drain (.inFlight false) with attempts := 3 }
    let flushed := claim .drain (.inFlight true)
    let s27 := { linked .receiving [] with bus := { Bus.reset with link := .receiving, score := 27 } }
    let quiet := { unknown .quiet [] with bus := { Bus.reset with link := .receiving, cleanRun := 128 } }
    let waits := { linked .idle [] with bus := { Bus.reset with link := .idle, awaitEnd := true } }
    ((linked .receiving []).inFrame = true ∧ (linked .receiving []).slotDominant [] false = true
        ∧ (linked .receiving []).sound [] = false ∧ s27.inFrame = true ∧ s27.bus.score + 4 < 32)
      ∧ ((linked .sending [c]).inFlightClaim = some c ∧ (linked .sending [c]).slotDominant [] true = true
        ∧ c.attempts + 1 < 4)
      ∧ ((linked .sending [last]).inFlightClaim = some last ∧ ¬(last.attempts + 1 < 4))
      ∧ ((linked .sending [flushed]).inFlightClaim = some flushed
        ∧ (linked .sending [flushed]).slotDominant [] true = true)
      ∧ (quiet.bus.link = .receiving ∧ quiet.ctl.state = .quiet ∧ quiet.ctl.listener = false ∧ quiet.sound [] = false
        ∧ quiet.sound (Frame.wireBits ⟨5, .drain⟩) = true)
      ∧ (waits.inFrame = false ∧ waits.bus.awaitEnd = true)
      ∧ ((linked .idle []).inFrame = false ∧ (linked .idle []).bus.awaitEnd = false) := by decide +kernel

theorem witness_QuietEntryAndExit :
    let s := { linked .receiving [] with bus := { Bus.reset with link := .receiving, score := 28 } }
    let sends := { linked .sending [claim .drain (.inFlight false)] with
      bus := { Bus.reset with link := .sending, score := 28 } }
    let q := { unknown .quiet [] with bus := { Bus.reset with link := .idle, cleanRun := 128 } }
    (s.inFrame = true ∧ s.checksFrames = true ∧ 28 ≤ s.bus.score ∧ s.sound [] = false ∧ s.eng.inFlight = none)
      ∧ ({ s with eng := { s.eng with inFlight := some ⟨3, .drain⟩ } } : State).eng.inFlight.isSome = true
      ∧ (sends.inFrame = true ∧ sends.transmitting = true ∧ sends.checksFrames = true ∧ 28 ≤ sends.bus.score)
      ∧ (q.ctl.state = .quiet ∧ q.bus.link = .idle ∧ 128 ≤ q.bus.cleanRun)
      ∧ ({ q with bus := { q.bus with link := .receiving } } : State).bus.link ≠ .idle
      ∧ ({ q with bus := { q.bus with cleanRun := 127 } } : State).bus.cleanRun < 128 := by decide +kernel

theorem witness_StuckBus :
    let s := { unknown .syncing [] with eng := { Engine.reset with sync := .running 0 } }
    (s.bus.link = .idle ∧ s.bus.stuck = false ∧ s.eng.sync = .running 0)
      ∧ (after .stuck s).bus.stuck = true ∧ (linked .receiving []).bus.link ≠ .idle := by decide +kernel

theorem witness_ListenerFrames :
    let bits := Frame.wireBits ⟨5, .tick 9#16⟩
    let s := { linked .receiving [] with ctl := { (linked .receiving []).ctl with listener := true } }
    let full := { s with bus := { s.bus with inbound := List.replicate 4 ⟨5, .drain⟩ } }
    let lost := { s with eng := Engine.reset }
    (s.ctl.listener = true ∧ s.bus.link = .receiving ∧ s.ctl.state ≠ .quiet ∧ s.sound bits = true
        ∧ rxFrame bits = some ⟨5, .tick 9#16⟩ ∧ s.bus.inbound.length < 4)
      ∧ (s.sound [] = false ∧ s.isValid = true ∧ s.eng.inFlight = none)
      ∧ (4 ≤ full.bus.inbound.length ∧ full.isValid = true) ∧ lost.isValid = false := by decide +kernel

/-! ### Witnesses: validity -/

theorem witness_SyncSilenceExpiry :
    let s := { unknown .syncing [] with eng := { Engine.reset with sync := .running 0 } }
    s.eng.sync = .running 0 ∧ s.ctl.state = .syncing ∧ ∀ n, (unknown .ready []).eng.sync ≠ .running n :=
  ⟨rfl, rfl, fun _ h => by cases h⟩

theorem witness_LossOfValidity :
    let s := { station (tbl .play) [] with
      eng := { Engine.reset with replica := .valid, inFlight := some ⟨3, .drain⟩, loss := some .quiet } }
    (s.eng.loss = some .quiet ∧ s.eng.inFlight = some ⟨3, .drain⟩ ∧ s.isValid = true ∧ s.ctl.state ≠ .quiet)
      ∧ (station (tbl .play) []).eng.loss = none := by decide +kernel

theorem witness_UnknownReplicaDiscards :
    let s := unknown .syncing [⟨5, .drain⟩]
    let early := { unknown .syncing [⟨5, .start⟩] with now := 999999, eng := { Engine.reset with sync := .running 0 } }
    (s.eng.inFlight = none ∧ s.bus.inbound.head? = some ⟨5, .drain⟩ ∧ s.isValid = false ∧ Payload.drain ≠ .start)
      ∧ ((unknown .quiet [⟨5, .start⟩]).ctl.state ≠ .syncing) ∧ early.syncCounted = some 999999 := by decide +kernel

/-- The station with channel 0 in use and bound to slot 0, driver 2, a sweep at it, and its record. -/
def sensed (r : ChannelRecord) (slot : SlotRecord) : State :=
  { station (slot0 (tbl .play) slot) [] with
    cfg := { StationConfig.blank with
      channels := vtab fun ch : Channel =>
        { window := 1, lower := 900, upper := 1200, inUse := true
          binding := if ch.val = 0 then some (0, 2) else none }
      scanList := [0]
      outputs := vtab fun o : Output =>
        { OutputConfig.blank with
          role := if o.val = 2 then .eject else .serve, pulse := 10, recycle := 50, verify := 50, disabled := false } }
    sen := { SensorUnit.started 0 with channels := vtab fun _ => r, sweep := [0] } }

/-! ### Witnesses: applications -/

theorem witness_MembershipGate :
    let s := station (tbl .play) [⟨7, .drain⟩]
    s.nextFrame = some ⟨7, .drain⟩ ∧ s.isValid = true ∧ s.table.phase ≠ .attract ∧ s.table.members[7].state ≠ .member := by
  decide +kernel

theorem witness_TiltAndNudge :
    (Runs (tbl .ballEnd) .tilt ∧ Runs { tbl .play with tilted := true } .tilt ∧ Runs (tbl .play) .tilt)
      ∧ (Runs (tbl .ballEnd) .nudge ∧ Runs { tbl .play with tilted := true } .nudge)
      ∧ (Runs { tbl .play with nudgeCount := 0 } .nudge ∧ 0 + 1 ≤ prof.nudgeWarnings)
      ∧ (Runs { tbl .play with nudgeCount := 1 } .nudge ∧ prof.nudgeWarnings < 1 + 1) := by decide +kernel

theorem witness_Lock :
    (Runs (tbl .ballEnd) (.lock 0) ∧ Runs { tbl .play with tilted := true } (.lock 0))
      ∧ (Runs (tbl .play) (.lock 0) ∧ (tbl .play).slots[0].owner ≠ some 3)
      ∧ (Runs (slot0 (tbl .play) (.dark 3)) (.lock 0) ∧ (slot0 (tbl .play) (.dark 3)).slots[0] = .dark 3)
      ∧ (Runs (slot0 (tbl .play) (.held 3 0)) (.lock 0) ∧ (slot0 (tbl .play) (.held 3 0)).slots[0].occupied = true)
      ∧ (Runs { slot0 (tbl .play) (.opened 3) with inPlay := 0 } (.lock 0))
      ∧ (Runs (slot0 (tbl .play) (.opened 3)) (.lock 0) ∧ (slot0 (tbl .play) (.opened 3)).slots[0] = .opened 3
        ∧ 0 < (tbl .play).inPlay) := by decide +kernel

theorem witness_BallLeaves :
    (Runs (slot0 (tbl .play) (.held 3 0)) (.lost 0) ∧ (slot0 (tbl .play) (.held 3 0)).slots[0] = .held 3 0)
      ∧ (Runs (slot0 (tbl .play) (.held 5 0)) (.lost 0) ∧ ∀ p, (slot0 (tbl .play) (.held 5 0)).slots[0] ≠ .held 3 p)
      ∧ (Runs (slot0 (tbl .play) (.releasing 3 .multiball)) (.released 0)
        ∧ Runs (slot0 (tbl .ballEnd) (.jammed 3 .ballEnd)) (.released 0)
        ∧ (slot0 (tbl .ballEnd) (.jammed 3 .ballEnd)).slots[0] = .jammed 3 .ballEnd)
      ∧ Runs (tbl .play) (.released 0) ∧ (tbl .play).slots[0] = .absent := by decide +kernel

theorem witness_BallLeaves_jammed :
    let t := { slot0 (tbl .play) (.releasing 3 .multiball) with inPlay := 0 }
    (Runs t (.jammed 0) ∧ t.slots[0] = .releasing 3 .multiball ∧ t.inPlay = 0 ∧ t.servePending = 0)
      ∧ (Runs (tbl .play) (.jammed 0) ∧ (tbl .play).slots[0] = .absent) := by decide +kernel

theorem witness_TroughFrames_drain :
    ((Meets (station (tbl .play) [⟨5, .drain⟩]) ⟨5, .drain⟩) ∧ (tbl .play).members[5].trough = false)
      ∧ (Runs { tbl .play with returning := 1 } .drain ∧ (tbl .play).members[3].trough = true)
      ∧ (Runs { tbl .play with saveWindow := 1 } .drain ∧ 0 < (tbl .play).inPlay)
      ∧ (Runs (tbl .play) .drain ∧ (tbl .play).saveWindow = 0 ∧ (tbl .play).returning = 0)
      ∧ Runs { tbl .play with inPlay := 0 } .drain := by decide +kernel

theorem witness_TroughFrames_launched :
    (Meets (station (tbl .play) [⟨5, .launched⟩]) ⟨5, .launched⟩)
      ∧ (Runs { tbl .play with inPlay := 3 } .launched ∧ prof.ballsInstalled ≤ ({ tbl .play with inPlay := 3 }).countedTotal)
      ∧ (Runs { tbl .play with inPlay := 2 } .launched ∧ ({ tbl .play with inPlay := 2 }).countedTotal < prof.ballsInstalled)
      ∧ (Runs (tbl .rollcall) .launched ∧ (tbl .rollcall).phase ≠ .play) := by decide +kernel

theorem witness_Start_begins :
    let ready := { own (tbl .attract) .start with ctl := { Control.reset with station := 3, state := .ready } }
    let enabled := { ready with rpt := { ReportPort.reset with enabled := true } }
    let sync := { unknown .syncing [⟨5, .start⟩] with now := 1000000, eng := { Engine.reset with sync := .running 0 } }
    (ready.nextFrame = some ⟨3, .start⟩ ∧ ready.eng.loss = none ∧ ready.isValid = true
        ∧ ready.table.phase = .attract ∧ ready.ctl.state = .ready ∧ ready.ctl.listener = false ∧ ready.bus.muted = false
        ∧ ready.claim.queue.length < 8 ∧ enabled.rpt.enabled = true ∧ enabled.rpt.fifo.length + 2 ≤ 32
        ∧ ((after .start enabled).rpt.fifo.map Notice.body) = [.start 3, .phase .rollcall 1 0 1 false 0, .balls 0 0 0 0 false 0])
      ∧ ({ ready with bus := { ready.bus with muted := true } } : State).bus.muted = true
      ∧ (sync.nextFrame = some ⟨5, .start⟩ ∧ sync.eng.loss = none ∧ sync.isValid = false ∧ sync.ctl.state = .syncing
        ∧ sync.syncCounted = some (1000 * Config.ms)) := by decide +kernel

theorem witness_Start_adds :
    (Runs (tbl .ballEnd) .start ∧ Runs { tbl .play with ballNumber := 2 } .start
        ∧ Runs { tbl .play with currentPlayer := 1 } .start)
      ∧ ((station (tbl .play) [⟨7, .start⟩]).nextFrame = some ⟨7, .start⟩ ∧ (tbl .play).members[7].state ≠ .member)
      ∧ Runs { tbl .play with playerCount := 4 } .start
      ∧ (Runs { tbl .play with playerCount := 3 } .start ∧ (tbl .play).ballNumber = 1 ∧ (tbl .play).currentPlayer = 0) := by
  decide +kernel

/-- An entry of mode 0 for the current player. -/
def entry (progress : Nat) : ModeEntry := { mode := 0, player := 0, state := .running, remaining := 5, progress := progress }

theorem witness_HitBaseAward :
    Runs (tbl .play) (.hit 4 0xFFFFFF#24 4#8 0#8) ∧ (tbl .play).tilted = false
      ∧ ∀ e ∈ (tbl .play).modes, (tbl .play).visits 4#8 e = false := by decide +kernel

theorem witness_HitJackpot :
    (Runs { tbl .play with multiball := true, jackpot := 16777215 } (.hit 4 0#24 0#8 2#8) ∧ (2#8).getLsbD 1 = true)
      ∧ (Runs (tbl .play) (.hit 4 0#24 0#8 2#8) ∧ (tbl .play).multiball = false) := by decide +kernel

/-- Nothing visited; two instances visited, of which the first completes and multiplies; the two refusals. -/
theorem witness_HitGoal :
    let lock := Payload.hit 4 1#24 4#8 1#8
    let multiply := { prof with modes := vtab fun m : ModeId => { prof.modes[m] with goalTag := 4, multiply := true } }
    let two := { tbl .play with profile := multiply, modes := [entry 1, { entry 0 with mode := 3 }] }
    (Runs (tbl .play) lock ∧ (tbl .play).modes = [])
      ∧ (Runs two lock ∧ two.visits 4#8 (entry 1) = true ∧ two.visits 4#8 { entry 0 with mode := 3 } = true
        ∧ (after .hit (own two lock)).table.players[0] =
          { score := 1 * 3 + 2 * (10 * 3) + 1000 * 3, locksLit := 1, completed := 1#8, sweepQualified := false })
      ∧ (Runs (tbl .ballEnd) lock ∧ (tbl .ballEnd).phase ≠ .play)
      ∧ (Runs { tbl .play with tilted := true } lock) := by decide +kernel

/-- R75: one table for each check of MODE, and one that passes them all. -/
theorem witness_ModeStart :
    let reason := fun (t : GameTable) (m : ModeId) =>
      (after .mode (own t (.mode m))).table.refusal.map RefusalRecord.reason
    let other := fun m : ModeId => { entry 0 with mode := m }
    let done := fun b : Byte => vtab fun _ : PlayerIx => { Player.initial with completed := b }
    (reason (tbl .ballEnd) 0 = some .notPlaying ∧ reason { tbl .play with tilted := true } 0 = some .tilted)
      ∧ (reason (tbl .play) 7 = some .done ∧ reason { tbl .play with modes := [entry 0] } 0 = some .already)
      ∧ (reason { tbl .play with players := done 1#8 } 0 = some .done ∧ reason (tbl .play) 2 = some .notQualified)
      ∧ (reason { tbl .play with modes := [other 1, other 3, other 4, other 5] } 6 = some .full)
      ∧ (reason { tbl .play with modes := [other 1] } 0 = some .group)
      ∧ (reason { tbl .play with modes := List.replicate 8 { entry 0 with player := 1, state := .suspended } } 0
          = some .tableFull)
      ∧ (Runs { tbl .play with modes := [other 3, other 4, other 5] } (.mode 0)
        ∧ reason { tbl .play with modes := [other 3, other 4, other 5] } 0 = none) := by decide +kernel

theorem witness_Hold :
    (Runs (tbl .play) (.hold 1#8) ∧ (tbl .play).tilted = false) ∧ Runs (tbl .ballEnd) (.hold 255#8)
      ∧ (Runs (withHold (tbl .play) 3 (some 50#16)) (.hold 0#8)
        ∧ (withHold (tbl .play) 3 (some 50#16)).holds[3].isSome = true)
      ∧ (Runs (tbl .play) (.hold 0#8) ∧ (tbl .play).holds[3] = none) := by decide +kernel

theorem witness_Tick :
    (Runs (tbl .attract) (.tick 1#16) ∧ Runs (tbl .play) (.tick 0#16) ∧ (0#16 : Word16) ≠ (tbl .play).tick + 1#16)
      ∧ (∀ k : Station, (((tbl .play).heard 3).members[k].state = .member →
          (1#16 - ((tbl .play).heard 3).members[k].lastHeard).toNat < Config.silenceTicks))
      ∧ (Runs { tbl .rollcall with rollcallRemaining := 2 } (.tick 1#16) ∧ Runs (tbl .play) (.tick 1#16))
      ∧ Runs { tbl .ballEnd with ballEndRemaining := 2 } (.tick 1#16) := by decide +kernel

theorem witness_RollcallEnd :
    let t := { tbl .rollcall with rollcallRemaining := 1 }
    let bad := withMember t 5 { Member.initial with state := .mismatched }
    (Runs t (.tick 1#16) ∧ (∀ k : Station, t.members[k].state ≠ .mismatched)
        ∧ (∀ j : Station, t.members[j].state = .member ∧ t.members[j].trough = true → j = 3))
      ∧ (Runs bad (.tick 1#16) ∧ bad.members[5].state = .mismatched) := by decide +kernel

theorem witness_TickBringsAbout :
    let far := fun t : GameTable => { t with tick := 29#16 }
    let calling := far { tbl .rollcall with rollcallRemaining := 2 }
    let ending := far { tbl .ballEnd with ballEndRemaining := 2 }
    let silent := fun t : GameTable => t.members[5].state = .member ∧ 30 ≤ (t.tick + 1#16 - t.members[5].lastHeard).toNat
    (Runs (withHold (tbl .play) 5 (some 1#16)) (.tick 1#16) ∧ (withHold (tbl .play) 5 (some 1#16)).holds[5] = some 1#16)
      ∧ (Runs { tbl .play with saveWindow := 1 } (.tick 1#16) ∧ ∀ k : Station, (tbl .play).holds[k] = none)
      ∧ (Runs { tbl .play with modes := [{ entry 0 with remaining := 1 }] } (.tick 1#16))
      ∧ (Runs { tbl .ballEnd with ballEndRemaining := 1 } (.tick 1#16))
      ∧ (Runs (far (tbl .play)) (.tick 30#16) ∧ silent (far (tbl .play)))
      ∧ (∀ r ∈ [SlotRecord.held 5 0, .releasing 5 .clear, .jammed 5 .clear, .dark 5, .strandedHeld 5 1],
        Runs (far (slot0 (tbl .play) r)) (.tick 30#16) ∧ (far (slot0 (tbl .play) r)).slots[0].owner = some 5)
      ∧ (Runs calling (.tick 30#16) ∧ silent calling ∧ 1 < calling.rollcallRemaining)
      ∧ (Runs ending (.tick 30#16) ∧ silent ending ∧ 1 < ending.ballEndRemaining) := by decide +kernel

theorem witness_Presence :
    let s := station (tbl .play) [⟨5, .presence 0#16 0#16 1#8⟩]
    let r := { s with rpt := { ReportPort.reset with enabled := true } }
    Meets r ⟨5, .presence 0#16 0#16 1#8⟩ ∧ (5 : Station) ≠ r.ctl.station ∧ r.rpt.enabled = true
      ∧ r.rpt.fifo.length < 32 := by decide +kernel

theorem witness_Join :
    let join := Payload.join 7#16 1#8 1#8 1#8
    let as := fun st => withMember { tbl .rollcall with referenceDigest := some 7#16 } 3 { Member.initial with state := st }
    let taken := slot0 (as .absent) (.dark 5)
    (Runs (tbl .play) join ∧ (tbl .play).phase ≠ .rollcall)
      ∧ ((as .member).members[3].state = .member ∧ (as .mismatched).members[3].state = .mismatched)
      ∧ ((own (as .absent) join).nextFrame = some ⟨3, join⟩ ∧ (own (as .absent) join).isValid = true
        ∧ (as .absent).referenceDigest = some 7#16
        ∧ ∀ n : Slot, (1#8).getLsbD n.val = true → (as .absent).slots[n] = .absent)
      ∧ (taken.slots[0] ≠ .absent ∧ taken.members[3].state = .absent) := by decide +kernel

theorem witness_BallEndChecks :
    let ends := { tbl .play with inPlay := 0 }
    let last := { tbl .ballEnd with ballNumber := 3, playerCount := 1 }
    (ends.phase = .play ∧ ends.inPlay = 0 ∧ ends.servePending = 0
        ∧ ∀ (n : Slot) (o : Station), ends.slots[n] ≠ .releasing o .multiball)
      ∧ (∀ n : Slot, (tbl .ballEnd).slots[n].isHeld = false ∧ (tbl .ballEnd).slots[n].isReleasing = false)
      ∧ ((tbl .ballEnd).returning = 0 ∧ (tbl .ballEnd).ballNumber + 1 ≤ prof.ballsPerGame)
      ∧ prof.ballsPerGame < last.ballNumber + 1 := by decide +kernel

/-- A frame that stands next is undisturbed where no loss waits and the ring is empty. -/
theorem undisturbed_of_empty_ring {s : State} {f : Frame} (next : TakesNext s f) (noLoss : s.eng.loss = none)
    (ring : s.eng.history = []) : Undisturbed s f :=
  ⟨next, noLoss, by rw [ring]; exact List.nodup_nil, fun _ _ ⟨_, _, _, _, _, held, _⟩ => by rw [ring] at held; cases held⟩

/-- Station 5's PRESENCE at station 3, whose ring holds the digest 8 at its basis; station 7 is a third MEMBER. -/
def compared (digest : Word16) : State :=
  { station (withMember (tbl .play) 7 { Member.initial with state := .member }) [⟨5, .presence 0#16 digest 0#8⟩] with
    eng := { Engine.reset with replica := .valid, history := [(0#32, 8#16)] } }

/-- One comparison that agrees, and one that disagrees below the threshold. -/
theorem witness_ApplicationRecorded_compares (digest : Word16) :
    Undisturbed (compared digest) ⟨5, .presence 0#16 digest 0#8⟩
      ∧ Compares (compared digest) ⟨5, .presence 0#16 digest 0#8⟩ 8#16 digest
      ∧ (compared digest).eng.history.length ≤ 16 :=
  ⟨⟨⟨rfl, rfl⟩, rfl, List.nodup_singleton _, fun _ _ _ _ => by
      have room : (0 : Nat) + 1 < tallyThreshold (compared 0#16).table := by decide +kernel
      exact room⟩,
    ⟨(by decide : (5 : Station) ≠ 3), 0#16, 0#8, (0#32, 8#16), rfl, List.mem_singleton.mpr rfl, by decide, rfl⟩,
    (by decide : 1 ≤ 16)⟩

theorem witness_ApplicationRecorded :
    Undisturbed (own (tbl .play) .drain) ⟨3, .drain⟩ ∧ Undisturbed (own (tbl .attract) .start) ⟨3, .start⟩
      ∧ ∀ known digest, ¬Compares (own (tbl .play) .drain) ⟨3, .drain⟩ known digest :=
  ⟨undisturbed_of_empty_ring ⟨rfl, rfl⟩ rfl rfl, undisturbed_of_empty_ring ⟨rfl, rfl⟩ rfl rfl, fun _ _ h => h.1 rfl⟩

theorem witness_Diverged :
    let f : Frame := ⟨5, .presence 0#16 7#16 0#8⟩
    let s := { station (tbl .play) [f] with
      eng := { Engine.reset with replica := .valid, history := [(0#32, 8#16)] } }
    s.nextFrame = some f ∧ s.isValid = true ∧ f.sender ≠ s.ctl.station ∧ s.ctl.state ≠ .quiet
      ∧ lookupBasis s.eng.history 0#16 = some 8#16 ∧ (8#16 : Word16) ≠ 7#16
      ∧ (s.table.members.toList.filter fun m => m.state == .member).length = 2
      ∧ 1 ≤ ({ s.eng with tally := 1 } : Engine).tally := by decide +kernel

/-- A station with channel 0 in a state, bound to slot 0, a frame to apply and its claims. -/
def handing (ch : ChannelState) (r : SlotRecord) (f : Frame) (q : List Claim) : State :=
  let s := sensed { ChannelRecord.initial with state := ch } r
  { s with bus := { s.bus with inbound := [f] }, claim := { ClaimUnit.reset with queue := q, serial := 9 } }

/-- A LOCK of this station's own that is refused, its claim the oldest of two ACCEPTED ones. -/
theorem witness_HandOff_own :
    let c := claim (.lock 0) (.accepted 4)
    let d := { claim (.lock 1) (.accepted 7) with created := 2 }
    let s := handing .present (.dark 3) ⟨3, .lock 0⟩ [c, d]
    Undisturbed s ⟨3, .lock 0⟩ ∧ ClaimQueueOrdered s ∧ c ∈ s.claim.queue ∧ c.state = .accepted 4
      ∧ (∀ e ∈ s.claim.queue, ∀ j, e.state = .accepted j → e.created = c.created ∨ 4 < j)
      ∧ (applyFrame 3 false ⟨3, .lock 0⟩ s.table).2 = .refused .noLockLit ∧ s.boundState 0 ≠ some .absent
      ∧ (after .lock s).claim.reject[0] = true ∧ (after .lock s).claim.queue = [d] := by
  refine ⟨undisturbed_of_empty_ring ⟨rfl, rfl⟩ rfl rfl, ?_, List.mem_cons_self, rfl, ?_, ?_, ?_, ?_, ?_⟩
  · constructor
    · exact List.pairwise_pair.mpr (Or.inr (by decide))
    all_goals decide +kernel
  · intro e he j hj
    rcases List.mem_pair.mp he with rfl | rfl
    · exact Or.inl rfl
    · cases hj; exact Or.inr (by decide)
  all_goals decide +kernel

theorem witness_HandOff_ordered :
    let s := handing .present (.opened 3) ⟨5, .tick 1#16⟩
    ClaimQueueOrdered (s [claim (.tick 1#16) .waiting]) ∧ ClaimQueueOrdered (s []) := by
  constructor <;> constructor
  · exact List.pairwise_singleton _ _
  all_goals first
    | exact List.Pairwise.nil
    | decide +kernel

theorem witness_HandOff :
    let tick := fun ch r => handing ch r ⟨5, .tick 1#16⟩ [claim (.tick 1#16) .waiting]
    let ready := { own (tbl .attract) .start with ctl := { Control.reset with station := 3, state := .ready } }
    let expired := { tick .present (.held 3 0) with
      table := { (tick .present (.held 3 0)).table with tick := 5#16 }
      claim := { ClaimUnit.reset with tickTimer := .expired, presence := 10 } }
    Undisturbed (tick .present (.opened 3)) ⟨5, .tick 1#16⟩ ∧ Undisturbed ready ⟨3, .start⟩
      ∧ Undisturbed expired ⟨5, .tick 1#16⟩
      ∧ ((after .tick (tick .present (.opened 3))).ctl.state = .member
        ∧ (after .tick (tick .present (.opened 3))).table.slots[0].isLightable = true
        ∧ (tick .present (.opened 3)).boundState 0 = some .present)
      ∧ ((tick .absent (.held 3 0)).boundState 0 = some .absent
        ∧ (after .tick (tick .absent (.held 3 0))).table.slots[0].isHeld = true)
      ∧ ((after .tick (tick .absent (.jammed 3 .clear))).table.slots[0].isLeaving = true)
      ∧ ((after .start ready).ctl.state = .ready ∧ (after .start ready).table.phase = .rollcall)
      ∧ ((after .tick expired).claim.tickTimer = .expired ∧ (after .tick expired).claim.presence = 10
        ∧ (after .tick expired).claim.queue.length = 2) :=
  ⟨undisturbed_of_empty_ring ⟨rfl, rfl⟩ rfl rfl, undisturbed_of_empty_ring ⟨rfl, rfl⟩ rfl rfl,
    undisturbed_of_empty_ring ⟨rfl, rfl⟩ rfl rfl, by decide +kernel⟩

/-- A rejected ball that is still there gets its BOUNCE; the trough member counts its launches, another station none. -/
theorem witness_HandOff_driver :
    let s := handing .present (.dark 3) ⟨5, .tick 1#16⟩ []
    let latched := { s with claim := { s.claim with reject := Vector.replicate 8 true } }
    let other := { own (tbl .play) (.hold 0#8) with ctl := { Control.reset with station := 5, state := .member } }
    Undisturbed latched ⟨5, .tick 1#16⟩ ∧ Undisturbed other ⟨3, .hold 0#8⟩
      ∧ ((after .tick latched).ctl.state = .member ∧ (after .tick latched).table.slots[0].owner = some 3
        ∧ latched.boundState 0 = some .present ∧ (after .tick latched).table.slots[0].isLightable = true
        ∧ (after .tick latched).claim.reject[0] = true)
      ∧ TroughMember (after .tick latched) ∧ ¬TroughMember (after .holdClear other) :=
  ⟨undisturbed_of_empty_ring ⟨rfl, rfl⟩ rfl rfl, undisturbed_of_empty_ring ⟨rfl, rfl⟩ rfl rfl, by decide +kernel⟩

/-- The station with its report port enabled and a frame of its own to apply. -/
def reporting (t : GameTable) (p : Payload) : State :=
  { own t p with rpt := { ReportPort.reset with enabled := true } }

theorem undisturbed_reporting (t : GameTable) (p : Payload) : Undisturbed (reporting t p) ⟨3, p⟩ :=
  undisturbed_of_empty_ring ⟨rfl, rfl⟩ rfl rfl

/-- What joins the notice FIFO: one application for each sort of notice (`undisturbed_reporting` for the rest of the
hypotheses). -/
theorem witness_ApplicationNotices :
    let bodies := fun (t : GameTable) (p : Payload) =>
      (after (commandOf ⟨3, p⟩) (reporting t p)).rpt.fifo.map Notice.body
    let held := { slot0 (tbl .play) (.held 3 0) with players := vtab fun _ => { Player.initial with locksLit := 1 } }
    let roll := { tbl .rollcall with inPlay := 0, referenceDigest := some 7#16 }
    bodies (tbl .play) .start = [.phase .play 2 0 1 false 0]
      ∧ bodies held (.lost 0) = [.lock 0 (.dark 3), .lock 0 (.opened 3), .balls 2 0 0 0 false 0]
      ∧ bodies { tbl .play with modes := [entry 0] } .tilt
        = [.mode 0 0 .aborted 5 0 false, .phase .play 1 0 1 true 0]
      ∧ bodies (tbl .play) (.mode 0) = [.mode 0 0 .running 100 0 false]
      ∧ bodies { tbl .play with modes := [{ entry 0 with remaining := 11 }] } (.tick 1#16) = [.mode 0 0 .running 10 0 false]
      ∧ bodies (tbl .play) (.hold 0#8) = [.refused .hold 3 .notHeld none none]
      ∧ bodies { tbl .play with saveWindow := 9 } (.hold 1#8) = [.balls 1 0 0 0 false 9]
      ∧ bodies { withHold (tbl .play) 5 (some 50#16) with saveWindow := 9 } (.hold 1#8) = []
      ∧ bodies (tbl .play) (.hold 1#8) = []
      ∧ bodies roll (.join 7#16 0#8 0#8 1#8) = [.member 3 .mismatched 0#8 true false none]
      ∧ bodies (tbl .play) (.hit 4 100#24 0#8 0#8) = [.score 0 100 100 1 0 0 3 4 0#8] := by decide +kernel

/-! ### Witnesses: claims, switches, sensors -/

theorem witness_TimersClaims :
    let s := station (tbl .play) []
    let runs := { s with claim := { ClaimUnit.reset with tickTimer := .running 9 } }
    let expired := { s with claim := { ClaimUnit.reset with tickTimer := .expired } }
    let ten := { s with
      claim := { ClaimUnit.reset with presence := 10 }, eng := { s.eng with history := [(4#32, 5#16)] } }
    runs.claim.tickTimer = .running 9
      ∧ (expired.claim.tickTimer = .expired ∧ expired.ctl.state = .member ∧ expired.ctl.listener = false
        ∧ expired.bus.muted = false ∧ expired.isValid = true ∧ expired.claim.queue.length < 8)
      ∧ (ten.claim.presence = 10 ∧ ten.eng.history.getLast? = some (4#32, 5#16))
      ∧ s.claim.tickTimer ≠ .expired ∧ s.claim.presence ≠ 10 := by decide +kernel

/-- The station with switch 0 bound to a rule and one event of it. -/
def switched (kind : RuleKind) (level : Level) : State :=
  { station (tbl .play) [] with
    cfg := { StationConfig.blank with
      rules := vtab fun _ => { SwitchRule.blank with kind := kind, mode := some 2, driver := 4, dwell := 100 } }
    sw := { SwitchUnit.started 0 with events := [{ switch := 0, level := level }] } }

theorem witness_SwitchEventTaken :
    let hit := fun created => { claim (.hit 4 1#24 0#8 0#8) .waiting with created := created }
    let full := { switched .scoop .closed with
      claim := { ClaimUnit.reset with queue := (List.range 8).map hit, serial := 8 } }
    let ready := { switched .start .closed with
      ctl := { (switched .start .closed).ctl with state := .ready }, table := tbl .attract }
    ((switched .scoop .closed).sw.events = [{ switch := 0, level := .closed }] ∧ (switched .scoop .closed).unitsRun = true
        ∧ (switched .scoop .closed).claim.queue.length + 3 ≤ 8 ∧ (switched .scoop .closed).cfg.rules[0].edge = .closed)
      ∧ (switched .scoop .opened).cfg.rules[0].edge ≠ .opened
      ∧ ((switched .launchConfirm .closed).cfg.rules[0].kind = .launchConfirm)
      ∧ (after .switchEventTake (switched .scoop .closed)).claim.queue.length = 3
      ∧ (full.unitsRun = true ∧ 8 ≤ full.claim.queue.length ∧ full.rpt.fifo.length + 3 ≤ 32)
      ∧ (ready.ctl.state = .ready ∧ ready.isValid = true ∧ ready.unitsRun = true
        ∧ ((after .switchEventTake ready).claim.queue.map Claim.payload) = [.start])
      ∧ ((station (tbl .play) []).sw.events = [] ∧ State.reset.unitsRun = false) := by decide +kernel

/-- The claim queue is in its order in the states of the witnesses, empty and full (its hits and tilts alike). -/
theorem witness_SwitchEventTaken_ordered :
    let full := fun p => { switched .launchConfirm .closed with
      claim := { ClaimUnit.reset with
        queue := (List.range 8).map fun k => { claim p .waiting with created := k }, serial := 8 } }
    ClaimQueueOrdered (switched .scoop .closed) ∧ ClaimQueueOrdered (full (.hit 4 1#24 0#8 0#8))
      ∧ ClaimQueueOrdered (full .tilt) := by
  refine ⟨?_, ?_, ?_⟩ <;> constructor
  all_goals first
    | decide +kernel
    | (change List.Pairwise (fun a b : Claim =>
        a.cls.code < b.cls.code ∨ a.cls.code = b.cls.code ∧ a.created < b.created) _
       decide +kernel)

/-- A launch confirm with a serve attempt open, in VERIFY and in PULSE, and one whose LAUNCHED a full queue discards. -/
theorem witness_SwitchEventTaken_confirm :
    let serving := fun st => { switched .launchConfirm .closed with
      drv := { DriverUnit.reset with
        outputs := vtab fun o : Output =>
          if o.val = 2 then { state := st, duty := some .serve, attemptOpen := true, due := 7 } else OutputRecord.initial } }
    let full := { switched .launchConfirm .closed with
      claim := { ClaimUnit.reset with
        queue := (List.range 8).map fun k => { claim .tilt .waiting with created := k }, serial := 8 } }
    ((serving .verify).sw.events = [{ switch := 0, level := .closed }] ∧ (serving .verify).unitsRun = true
        ∧ (serving .verify).cfg.rules[0].edge = .closed ∧ TroughMember (serving .verify)
        ∧ (serving .verify).drv.outputs[2].attemptOpen = true ∧ (serving .verify).drv.outputs[2].duty = some .serve
        ∧ (serving .verify).drv.outputs[2].state = .verify ∧ (serving .pulse).drv.outputs[2].state = .pulse
        ∧ (serving .verify).cfg.outputs[2].recycle = 0 ∧ ((serving .verify).drv.requests.map Request.output).Nodup)
      ∧ (after .switchEventTake (serving .pulse)).drv.serve.launches = 1
      ∧ (after .switchEventTake full).drv.serve.launches = 0 := by decide +kernel

/-- A record two measurements into a run of each class. -/
def twice (st : ChannelState) : ChannelRecord :=
  { ChannelRecord.initial with state := st, lowRun := 2, highRun := 2, invalidRun := 2, validRun := 2 }

theorem witness_SlotReconciled :
    let low := sensed (twice .absent) (.opened 3)
    let high := fun r => sensed (twice .present) r
    (low.sen.sweep = [0] ∧ low.cfg.channels[0].binding = some (0, 2) ∧ low.cfg.boundTo 0 = some (0, 2)
        ∧ low.ctl.state = .member ∧ low.ctl.listener = false ∧ low.bus.muted = false ∧ low.isValid = true
        ∧ low.table.slots[0].owner = some low.ctl.station ∧ low.claim.queue.length < 8
        ∧ (low.sen.channels[0].measured low.cfg.channels[0] 899).state = .present ∧ low.claim.reject[0] = false)
      ∧ (((high (.held 3 0)).sen.channels[0].measured (high (.held 3 0)).cfg.channels[0] 1201).state = .absent
        ∧ (high (.held 3 0)).table.slots[0].isHeld = true)
      ∧ (high (.jammed 3 .clear)).table.slots[0].isLeaving = true
      ∧ ((sensed (twice .fault) (.dark 3)).sen.channels[0].measured (high (.dark 3)).cfg.channels[0] 900).state = .unknown
      ∧ ({ low with claim := { low.claim with reject := Vector.replicate 8 true } } : State).claim.reject[0] = true := by
  decide +kernel

theorem witness_SwitchSample :
    let s := station (tbl .play) []
    let on := { s with sw := { SwitchUnit.started 0 with pinsSampled := true, counts := Vector.replicate 8 7 } }
    State.reset.unitsRun = false ∧ (s.unitsRun = true ∧ s.sw.pinsSampled = false)
      ∧ (on.unitsRun = true ∧ on.sw.pinsSampled = true ∧ on.sw.events.length ≤ 16 ∧ 8 ≤ on.sw.counts[0] + 1) := by
  decide +kernel

/-- The port enabled, the event queue one short of full. -/
def nearlyFull (s : State) : State :=
  { s with
    sw := { s.sw with events := List.replicate 15 { switch := 31, level := .closed } }
    rpt := { ReportPort.reset with enabled := true } }

/-- Pins 0 and 1 close: the event of pin 1 is lost. -/
theorem witness_SwitchSample_lost :
    let on := { station (tbl .play) [] with
      sw := { SwitchUnit.started 0 with pinsSampled := true, counts := Vector.replicate 8 31 } }
    let s := nearlyFull on
    s.unitsRun = true ∧ s.sw.pinsSampled = true ∧ s.sw.events.length ≤ 16 ∧ s.rpt.enabled = true
      ∧ s.rpt.fifo.length ≤ 32
      ∧ (after (.switchSample 0xFC#8) s).sw.events.length = 16
      ∧ (after (.switchSample 0xFC#8) s).rpt.fifo.map Notice.body = [.switchLost 1 .closed] := by decide +kernel

/-- The station with every expander present. -/
def scanned (u : SwitchUnit) : State :=
  { station (tbl .play) [] with cfg := { StationConfig.blank with expanders := Vector.replicate 3 true }, sw := u }

theorem witness_ScannerWork :
    let u := SwitchUnit.started 0
    let rec' := { ExpanderRecord.initial with reread := true, changes := Vector.replicate 8 (some 5) }
    let wanted := scanned { u with expanders := Vector.replicate 3 rec' }
    ((scanned u).unitsRun = true ∧ (scanned u).cfg.anyExpander = true ∧ (scanned u).sw.attnTaken = false)
      ∧ (scanned { u with attnTaken := true }).sw.attnTaken = true
      ∧ (wanted.sw.expanders[2].changes[7] = some 5 ∧ (scanned u).sw.expanders[0].changes[0] = none)
      ∧ (wanted.sw.scan = .idle ∧ wanted.sw.expanders[0].reread = true ∧ wanted.sw.expanders[0].status = .ok)
      ∧ ((scanned u).sw.refresh = true ∧ (scanned { u with refresh := false, attention := true }).sw.attention = true)
      ∧ ((scanned { u with refresh := false }).sw.refresh = false
        ∧ (scanned { u with refresh := false }).sw.attention = false) := by decide +kernel

theorem witness_ExpanderRead :
    let u := SwitchUnit.started 0
    (scanned { u with scan := .reread 1 }).sw.scan = .reread 1
      ∧ ((scanned { u with scan := .pass [1, 2] }).sw.scan = .pass [1, 2] ∧ u.expanders[1].primed = false)
      ∧ (scanned { u with expanders := Vector.replicate 3 { ExpanderRecord.initial with primed := true } }).sw.events.length
        ≤ 16
      ∧ ({ ExpanderRecord.initial with status := .failed } : ExpanderRecord).status = .failed := by decide +kernel

/-- Inputs 0 and 1 of expander 1 close: the event of input 1 is lost. A failed read gives the FAULT notice. -/
theorem witness_ExpanderRead_notices :
    let primed := { ExpanderRecord.initial with primed := true, changes := Vector.replicate 8 (some 0) }
    let s := nearlyFull (scanned
      { SwitchUnit.started 0 with scan := .reread 1, expanders := Vector.replicate 3 primed })
    s.sw.scan = .reread 1 ∧ s.sw.events.length ≤ 16 ∧ s.sw.expanders[1].status = .ok
      ∧ (after (.expanderRead (some 0xFC#8) none false) s).rpt.fifo.map Notice.body = [.switchLost 17 .closed]
      ∧ (after (.expanderRead none none false) s).rpt.fifo.map Notice.body = [.fault 3 0x10#8] := by decide +kernel

theorem witness_MeasurementDecision :
    (sensed (twice .present) (.dark 3)).sen.sweep = [0]
      ∧ (sensed (twice .present) (.dark 3)).sen.channels[0].state ≠ .fault
      ∧ (sensed (twice .fault) (.dark 3)).sen.channels[0].state = .fault := by decide +kernel

theorem witness_PeriodicEvents_sweep :
    let s := sensed (twice .present) (.dark 3)
    let idle := { s with sen := { s.sen with sweep := [] } }
    (idle.unitsRun = true ∧ idle.sen.sweep = [] ∧ (idle.cfg.scanList.filter fun k => idle.cfg.channels[k].inUse) = [0])
      ∧ s.sen.sweep ≠ [] ∧ State.reset.unitsRun = false
      ∧ ({ s with sen := { s.sen with sweep := [0, 3] } } : State).sen.sweep = 0 :: 3 :: [] := by decide +kernel

/-! ### Witnesses: drivers, lamps, the report port -/

/-- The bound station, with an eject duty of slot 0, a serve and a scoop, and output 2 in a state for a duty. -/
def driven (st : OutputState) (id : DutyId) (x : EjectDuty) (ch : ChannelState) : State :=
  let s := sensed { ChannelRecord.initial with state := ch } (.releasing 3 .multiball)
  { s with
    table := { s.table with servePending := 1 }
    drv := { DriverUnit.reset with
      outputs := vtab fun o : Output =>
        if o.val = 2 then { state := st, duty := some id, attemptOpen := true, due := 7 } else OutputRecord.initial
      ejects := vtab fun n : Slot => if n.val = 0 then some x else none
      serve := { ServeRecord.initial with holds := true, retryDue := some 9 }
      scoops := vtab fun n : Switch =>
        if n.val = 1 then some { driver := 4, dwellDue := some 9, want := false, await := false, pulses := 0 } else none } }

/-- A RELEASE duty with a count and a phase, its retry timer running. -/
def release (count : Nat) (phase : EjectPhase) : EjectDuty :=
  { EjectDuty.fresh .release with count := count, phase := phase, retryDue := some 9 }

/-- R168: a JAMMED may be built for slot 0 of this state. -/
abbrev Jams (s : State) : Prop :=
  s.ctl.state = .member ∧ s.ctl.listener = false ∧ s.bus.muted = false ∧ s.isValid = true
    ∧ s.table.slots[0] = .releasing 3 .multiball ∧ s.claim.queue.length < 8

/-- That station two measurements into a run, with a RELEASE attempt open at output 2. -/
def closing (st : OutputState) : State :=
  let s := driven st (.eject 0) (release 2 .attempting) .present
  { s with sen := { s.sen with sweep := [0], channels := Vector.replicate 4 (twice .present) } }

/-- ABSENT and FAULT delivered in PULSE and in VERIFY. -/
theorem witness_SlotReconciled_delivery :
    let s := closing .verify
    (s.sen.sweep = [0] ∧ s.cfg.channels[0].binding = some (0, 2) ∧ s.cfg.boundTo 0 = some (0, 2) ∧ s.isValid = true
        ∧ (s.sen.channels[0].measured s.cfg.channels[0] 1201).state = .absent
        ∧ (s.sen.channels[0].measured s.cfg.channels[0] 0).state = .fault)
      ∧ (s.drv.outputs[2].attemptOpen = true ∧ s.drv.outputs[2].duty = some (.eject 0) ∧ s.cfg.outputs[2].role = .eject
        ∧ s.drv.outputs[2].state = .verify ∧ (closing .pulse).drv.outputs[2].state = .pulse)
      ∧ (s.drv.ejects[0] = some (release 2 .attempting) ∧ (release 2 .attempting).kind = .release
        ∧ s.table.slots[0] = .releasing s.ctl.station .multiball)
      ∧ Jams s ∧ (after (.measurementEnd 0) s).claim.queue.map Claim.payload = [.jammed 0] := by decide +kernel

/-- That station with output 2 in RECYCLE and some requests. -/
def recycling (x : EjectDuty) (q : List Request) : State :=
  let s := driven .recycle .serve x .present
  { s with
    drv := { s.drv with
      outputs := vmap (fun _ r => { r with duty := none, attemptOpen := false }) s.drv.outputs
      requests := q } }

theorem witness_PulseAndRecycleEnd :
    let s := driven .pulse (.eject 0) (release 0 .attempting) .present
    let serve := { driven .pulse .serve (release 0 .attempting) .present with
      cfg := { s.cfg with outputs := vtab fun o : Output => { s.cfg.outputs[o] with role := .serve } } }
    let straight := { driven .pulse (.scoop 1) (release 0 .attempting) .present with
      cfg := { s.cfg with outputs := vtab fun o : Output => { s.cfg.outputs[o] with recycle := 0 } } }
    let recycles := recycling (release 0 .attempting) [{ output := 2, duty := .eject 0 }, { output := 4, duty := .scoop 1 }]
    (s.drv.outputs[2].state = .pulse ∧ 0 < s.cfg.outputs[2].recycle ∧ s.cfg.outputs[2].role = .eject
        ∧ s.ejectHolds 0 = some .release)
      ∧ (serve.drv.outputs[2].duty = some .serve ∧ serve.cfg.outputs[2].role = .serve ∧ serve.serveHolds = true)
      ∧ (s.cfg.verifies 2 (.scoop 1) = false)
      ∧ (straight.drv.outputs[2].state = .pulse ∧ straight.drv.outputs[2].duty = some (.scoop 1)
        ∧ straight.cfg.outputs[2].recycle = 0 ∧ (straight.drv.requests.map Request.output).Nodup)
      ∧ (recycles.drv.outputs[2].state = .recycle ∧ (recycles.drv.requests.map Request.output).Nodup
        ∧ recycles.drv.ejects[0] = some (release 0 .attempting) ∧ recycles.ejectHolds 0 = some .release
        ∧ recycles.boundState 0 = some .present ∧ recycles.serveHolds = true)
      ∧ s.drv.outputs[2].state ≠ .recycle := by decide +kernel

theorem witness_VerifyTimeout :
    let s := driven .verify (.eject 0) (release 2 .attempting) .present
    let serve := driven .verify .serve (release 0 .attempting) .present
    let straight := { s with
      cfg := { s.cfg with outputs := vtab fun o : Output => { s.cfg.outputs[o] with recycle := 0 } } }
    let third := { serve with drv := { serve.drv with serve := { serve.drv.serve with failed := 2 } } }
    (s.drv.outputs[2].state = .verify ∧ 0 < s.cfg.outputs[2].recycle ∧ s.ejectHolds 0 = some .release
        ∧ s.boundState 0 ≠ some .absent ∧ Jams s
        ∧ (after (.verifyTimeout 2) s).claim.queue.map Claim.payload = [.jammed 0])
      ∧ (straight.drv.outputs[2].state = .verify ∧ straight.cfg.outputs[2].recycle = 0
        ∧ (straight.drv.requests.map Request.output).Nodup)
      ∧ (driven .verify (.eject 0) (release 2 .attempting) .absent).boundState 0 = some .absent
      ∧ (serve.serveHolds = true ∧ serve.drv.serve.failed + 1 < 3 ∧ 2 ≤ third.drv.serve.failed) := by decide +kernel

theorem witness_DutyTimers :
    let s := driven .idle (.eject 0) (release 2 .attempting) .unknown
    let blind := driven .idle (.eject 0) (release 3 .retrying) .fault
    let again := driven .idle (.eject 0) (release 3 .retrying) .present
    let absent := driven .idle (.eject 0) (release 3 .retrying) .absent
    let gone := { absent with
      cfg := { absent.cfg with outputs := vmap (fun _ c => { c with disabled := true }) absent.cfg.outputs } }
    (s.drv.ejects[0] = some (release 2 .attempting) ∧ s.cfg.ejectOutput 0 = some 2 ∧ s.ejectHolds 0 = some .release
        ∧ Jams s ∧ (after (.ejectRetryTimer 0) s).claim.queue.map Claim.payload = [.jammed 0])
      ∧ (blind.boundState 0 = some .fault ∧ blind.ejectHolds 0 = some .release ∧ Jams blind
        ∧ (after (.ejectRetryTimer 0) blind).claim.queue.map Claim.payload = [.jammed 0])
      ∧ (again.boundState 0 = some .present ∧ again.cfg.outputs[2].disabled = false
        ∧ again.ejectHolds 0 = some .release)
      ∧ ((driven .idle (.eject 0) (release 3 .retrying) .absent).boundState 0 = some .absent
        ∧ (after (.ejectRetryTimer 0) (driven .idle (.eject 0) (release 3 .retrying) .absent)).claim.queue = [])
      ∧ ((gone.cfg.outputs[2].disabled = true ∧ gone.boundState 0 = some .absent ∧ Jams gone)
        ∧ (after (.ejectRetryTimer 0) gone).claim.queue.map Claim.payload = [.jammed 0]
        ∧ ((after (.ejectRetryTimer 0) gone).drv.ejects[0].map EjectDuty.count) = some 3)
      ∧ (s.drv.serve.retryDue = some 9 ∧ s.serveHolds = true ∧ (s.drv.scoops[1].map ScoopDuty.dwellDue) = some (some 9))
      ∧ (State.reset.drv.serve.retryDue = none ∧ State.reset.drv.ejects[0] = none ∧ State.reset.drv.scoops[0] = none) := by
  decide +kernel

/-- That station with the scoop of switch 1 kicking from output 2, its frame to apply, and its switch at a level. -/
def kicking (st : OutputState) (x : ScoopDuty) (level : Level) (f : Frame) : State :=
  let s := driven st (.scoop 1) (release 0 .attempting) .present
  { s with
    sw := { s.sw with levels := Vector.replicate 32 level }
    bus := { s.bus with inbound := [f] }
    drv := { s.drv with
      outputs := vmap (fun _ r => { r with attemptOpen := r.state == .pulse }) s.drv.outputs
      scoops := vtab fun n : Switch => if n.val = 1 then some x else none } }

/-- A kick at output 2. -/
def kick (dwell : Option Nat) (await : Bool) (pulses : Nat) : ScoopDuty :=
  { driver := 2, dwellDue := dwell, want := false, await := await, pulses := pulses }

/-- A pulse that ends, with a recycle and with none; a recycle that ends at an OPEN and at a CLOSED switch, behind two pulses
and behind three; a tilt over a dwell and over a kick already granted. -/
theorem witness_ScoopKick :
    let pulse := kicking .pulse (kick none false 1) .closed ⟨3, .tilt⟩
    let straight := { pulse with
      cfg := { pulse.cfg with outputs := vtab fun o : Output => { pulse.cfg.outputs[o] with recycle := 0 } } }
    let waits := fun level pulses => kicking .recycle (kick none true pulses) level ⟨3, .tilt⟩
    let dwells := fun level => kicking .idle (kick (some 9) false 0) level ⟨3, .tilt⟩
    let kicks := fun t : State => t.drv.scoops[1].map ScoopDuty.pulses
    (pulse.drv.scoops[1] = some (kick none false 1) ∧ pulse.drv.outputs[2].state = .pulse
        ∧ pulse.drv.outputs[2].attemptOpen = true ∧ pulse.drv.outputs[2].duty = some (.scoop 1)
        ∧ 0 < pulse.cfg.outputs[2].recycle ∧ straight.cfg.outputs[2].recycle = 0)
      ∧ ((waits .opened 1).drv.outputs[2].state = .recycle ∧ kicks (after (.recycleEnd 2) (waits .opened 1)) = none
        ∧ kicks (after (.recycleEnd 2) (waits .closed 3)) = none
        ∧ (kicks (after (.recycleEnd 2) (waits .closed 2))).isSome = true)
      ∧ (TakesNext (dwells .closed) ⟨3, .tilt⟩ ∧ (dwells .closed).table.tilted = false
        ∧ (after .tilt (dwells .closed)).table.tilted = true ∧ kicks (after .tilt (dwells .opened)) = none
        ∧ kicks (after .tilt (dwells .closed)) = some 0 ∧ kicks (after .tilt pulse) = some 1) := by
  unfold TakesNext; decide +kernel

theorem witness_ScoopKick_undisturbed (x : ScoopDuty) (level : Level) :
    Undisturbed (kicking .idle x level ⟨3, .tilt⟩) ⟨3, .tilt⟩ := undisturbed_of_empty_ring ⟨rfl, rfl⟩ rfl rfl

/-- The end of a pulse, of a verification, of a recycle and of the duties' own timers. -/
theorem witness_DutiesDerived :
    let pulse := driven .pulse (.eject 0) (release 0 .attempting) .present
    let verify := driven .verify .serve (release 0 .attempting) .present
    let s := recycling (release 0 .attempting) []
    (PulseBudget pulse ∧ pulse.drv.outputs[2].state = .pulse) ∧ (PulseBudget verify ∧ verify.drv.outputs[2].state = .verify)
      ∧ PulseBudget s ∧ s.drv.outputs[2].state = .recycle ∧ s.drv.ejects[0] = some (release 0 .attempting)
      ∧ (release 0 .attempting).retryDue ≠ none ∧ s.cfg.boundTo 0 ≠ none ∧ s.drv.serve.retryDue ≠ none
      ∧ (s.drv.scoops[1].map ScoopDuty.dwellDue) = some (some 9) := by
  unfold PulseBudget; decide +kernel

theorem witness_DutiesDerived_application :
    let s := recycling (release 0 .attempting) []
    let applied := { s with bus := { s.bus with inbound := [⟨5, .tick 1#16⟩] } }
    PulseBudget applied ∧ TakesNext applied ⟨5, .tick 1#16⟩ := by
  unfold PulseBudget TakesNext; decide +kernel

/-- A decision delivered, and the hand-ons of a scoop and of a launch confirm. -/
theorem witness_DutiesDerived_delivery :
    let s := closing .verify
    (PulseBudget s ∧ s.sen.sweep = [0]
        ∧ (s.sen.channels[0].measured s.cfg.channels[0] 0).state ≠ s.sen.channels[0].state)
      ∧ ∀ kind ∈ [RuleKind.scoop, .launchConfirm], PulseBudget (switched kind .closed)
        ∧ (switched kind .closed).unitsRun = true ∧ (switched kind .closed).cfg.rules[0].edge = .closed := by
  unfold PulseBudget; decide +kernel

/-- A request that the arbiter grants, a newer one behind it. -/
theorem witness_DutiesDerived_grant :
    let s := recycling (release 0 .attempting) [{ output := 2, duty := .eject 0 }, { output := 3, duty := .serve }]
    let asked := { s with drv := { s.drv with outputs := vmap (fun _ r => { r with state := .queued }) s.drv.outputs } }
    asked.drv.requests = [] ++ { output := 2, duty := .eject 0 } :: [{ output := 3, duty := .serve }]
      ∧ asked.drv.outputs[2].state = .queued ∧ WithinBudget asked 2 := by
  unfold WithinBudget; decide +kernel

theorem witness_PeriodicEvents_attract :
    let s := after .syncSilenceExpiry { unknown .syncing [] with eng := { Engine.reset with sync := .running 0 } }
    s.lamp.manner = .attract ∧ s.lampManner = .attract := by decide +kernel

/-- A lamp of each source by its binding, inverted, behind an application. -/
theorem witness_PeriodicEvents_lamps :
    let sources := [LampSource.slot 0, .mode 0, .locksLit 1, .multiball, .jackpot, .playerUp 0, .save, .sweep, .fault, .none]
    let s := { own { slot0 (tbl .play) (.held 3 0) with saveWindow := 9 } (.hold 1#8) with
      cfg := { StationConfig.blank with lamps := vtab fun n => { source := sources.getD n.val .none, invert := true } } }
    TakesNext s ⟨3, .hold 1#8⟩ ∧ (after .holdSet s).isValid = true ∧ (after .holdSet s).table.phase ≠ .attract
      ∧ (after .holdSet s).ctl.state = .member
      ∧ (after .holdSet s).lamp.levels.toList.take 10
        = [false, true, true, true, true, false, false, true, true, true] := by
  unfold TakesNext; decide +kernel

theorem witness_ReportPort :
    let r := { ReportPort.reset with enabled := true, fifo := [{ number := 0#8, ordinal := 0#16, body := .start 3 }] }
    State.reset.rpt.enabled = false ∧ r.enabled = true
      ∧ r.fifo = [{ number := 0#8, ordinal := 0#16, body := .start 3 }] := by decide +kernel

/-- R183, R184: two notices written out byte by byte. -/
theorem test_notice_layout :
    let score : NoticeBody := .score 1 0x0102030405 0x060708 2 0x090A 0x0B0C0D 3 4 0xEE#8
    (noticeLayout score = (3, [0x02#8, 0x01#8, 0x02#8, 0x03#8, 0x04#8, 0x05#8, 0x00#8, 0x06#8, 0x07#8, 0x08#8, 0x02#8,
        0x00#8, 0x00#8, 0x09#8, 0x0A#8, 0x0B#8, 0x0C#8, 0x0D#8, 0x03#8, 0x04#8, 0xEE#8]))
      ∧ score.fields = (noticeLayout score).2
      ∧ (Notice.middle { number := 7#8, ordinal := 0x1234#16, body := .switchLost 9 .closed }
        = [0x07#8, 0x0B#8, 0x12#8, 0x34#8, 0x02#8, 0x09#8, 0x01#8]) := by decide +kernel

/-! ### Witnesses: the laws that every step keeps -/

/-- A station in play: slot 0 holds the current player's ball, slot 1 is open, a claim is being sent. -/
def playing : State :=
  let t := { withSlot (slot0 (tbl .play) (.held 3 0)) 1 (.opened 5) with
    players := vtab fun _ => { Player.initial with locksLit := 1 } }
  { station t [⟨3, .drain⟩] with
    bus := { Bus.reset with link := .sending, inbound := [⟨3, .drain⟩] }
    claim := { ClaimUnit.reset with queue := [claim (.tick 1#16) (.inFlight false)], serial := 1 } }

theorem witness_ReplicaFollowsStateKept : ReplicaFollowsState playing := by
  constructor <;> decide +kernel

theorem witness_BallLawKept : BallLaw playing := by
  unfold BallLaw; decide +kernel

theorem witness_PulseBudgetKept : PulseBudget playing := by
  unfold PulseBudget; decide +kernel

theorem witness_CapacitiesKept : WithinCapacity playing := by
  constructor <;> decide +kernel

theorem witness_ClaimQueueKept : ClaimQueueOrdered playing := by
  constructor
  · exact List.pairwise_singleton _ _
  all_goals decide +kernel

theorem witness_LockTableKept : HeldByCurrent playing ∧ OpenOnlyWhileLit playing.table := by
  unfold HeldByCurrent OpenOnlyWhileLit; decide +kernel

theorem witness_step_of_playing : step playing = .next playing.idle := rfl

end Sys2Proof.Tests
end

namespace Sys2Proof.Machine

/-! ### What the moves of the station state make of the station state and of the Table Engine -/

section Moves
variable (s : State)

@[simp] theorem updEng_eng (f : Engine → Engine) : (s.updEng f).eng = f s.eng := rfl
@[simp] theorem updEng_ctl (f : Engine → Engine) : (s.updEng f).ctl = s.ctl := rfl
@[simp] theorem updEng_bus (f : Engine → Engine) : (s.updEng f).bus = s.bus := rfl
@[simp] theorem updEng_now (f : Engine → Engine) : (s.updEng f).now = s.now := rfl
@[simp] theorem updBus_bus (f : Bus → Bus) : (s.updBus f).bus = f s.bus := rfl
@[simp] theorem updBus_ctl (f : Bus → Bus) : (s.updBus f).ctl = s.ctl := rfl
@[simp] theorem updBus_eng (f : Bus → Bus) : (s.updBus f).eng = s.eng := rfl

/-- R1 to R3: the Table Engine behind a move of the station to `st`: the sync silence timer starts in SYNCING, and stops
where SYNCING is left. -/
def Engine.moved (e : Engine) (old st : StationState) (fresh : SyncTimer) : Engine :=
  if old = st then e
  else if st = .syncing then { e with sync := fresh }
  else if old = .syncing then { e with sync := .stopped }
  else e

theorem freshSync_congr {s t : State} (hb : t.bus.stuck = s.bus.stuck) (hn : t.now = s.now) : t.freshSync = s.freshSync := by
  unfold State.freshSync
  rw [hb, hn]

theorem moveStation_state (st : StationState) : (s.moveStation st).ctl.state = st := by
  unfold State.moveStation
  split
  · assumption
  · dsimp only
    rw [(kept_judgeTickTimer _).state]
    split
    · rfl
    · split <;> rfl

theorem moveStation_eng (st : StationState) : (s.moveStation st).eng = s.eng.moved s.ctl.state st s.freshSync := by
  unfold State.moveStation Engine.moved
  split
  · rfl
  · have h1 : Kept s (if s.ctl.state = .member then s.flushClaims.setPresence 0 else s) :=
      Kept.ite ((kept_flushClaims s).trans (kept_setPresence _ 0)) (Kept.refl s)
    have h2 := Kept.ite (p := st = .member) (h1.trans (kept_setPresence _ 0)) h1
    dsimp only
    rw [(kept_judgeTickTimer _).eng]
    split
    · simp only [State.startSync, updEng_eng, State.setCtl_eng, h2.eng]
      congr 1
      exact freshSync_congr (by rw [State.setCtl_bus, h2.bus]) (by rw [State.setCtl_now, h2.now])
    · split
      · simp only [State.stopSync, updEng_eng, State.setCtl_eng, h2.eng]
      · exact h2.eng

theorem changeStation_state (st : StationState) : (s.changeStation st).ctl.state = st := by
  unfold State.changeStation
  split
  · assumption
  · rw [(kept_refreshLamps _).state, (kept_deriveDuties _).state, moveStation_state]

theorem changeStation_eng (st : StationState) : (s.changeStation st).eng = s.eng.moved s.ctl.state st s.freshSync := by
  unfold State.changeStation
  split
  · next h => simp [Engine.moved, h]
  · rw [(kept_refreshLamps _).eng, (kept_deriveDuties _).eng, moveStation_eng]

/-- R1: the station state behind a validation. -/
theorem validated_state : s.validated.ctl.state = if s.ctl.state = .syncing then .ready else s.ctl.state := by
  have hk := kept_clearFault (s.updEng fun e => { e with replica := .valid }) .diverged
  unfold State.validated
  dsimp only
  rw [hk.state, updEng_ctl]
  split
  · rw [moveStation_state]
  · rw [hk.state, updEng_ctl]

theorem validated_eng :
    s.validated.eng =
      { s.eng with replica := .valid, sync := if s.ctl.state = .syncing then .stopped else s.eng.sync } := by
  have hk := kept_clearFault (s.updEng fun e => { e with replica := .valid }) .diverged
  unfold State.validated
  dsimp only
  rw [hk.state, updEng_ctl]
  split
  · next h => rw [moveStation_eng, hk.state, hk.eng, updEng_ctl, updEng_eng, h]; rfl
  · rw [hk.eng, updEng_eng]

theorem invalidate_state : s.invalidate.ctl.state = s.ctl.state := by
  unfold State.invalidate
  rw [(kept_judgeTickTimer _).state, (kept_removeAccepted _).state, (kept_flushClaims _).state]
  rfl

theorem invalidate_eng :
    s.invalidate.eng = { s.eng with replica := .unknown, history := [], tally := 0, loss := none } := by
  unfold State.invalidate
  rw [(kept_judgeTickTimer _).eng, (kept_removeAccepted _).eng, (kept_flushClaims _).eng]
  rfl

theorem performLoss_state : s.performLoss.ctl.state = if s.ctl.state = .quiet then .quiet else .syncing := by
  unfold State.performLoss
  dsimp only
  rw [(kept_refreshLamps _).state, (kept_deriveDuties _).state, invalidate_state]
  split
  · rwa [invalidate_state]
  · rw [moveStation_state]

theorem performLoss_eng :
    s.performLoss.eng =
      { s.eng with
        replica := .unknown, history := [], tally := 0, loss := none
        sync := if s.ctl.state = .quiet ∨ s.ctl.state = .syncing then s.eng.sync else s.freshSync } := by
  have hg := game_invalidate s
  have hf : s.invalidate.freshSync = s.freshSync := freshSync_congr (by rw [hg.bus]) hg.now
  unfold State.performLoss
  dsimp only
  rw [(kept_refreshLamps _).eng, (kept_deriveDuties _).eng, invalidate_state]
  split
  · next h => rw [invalidate_eng]; simp [h]
  · next h =>
    rw [moveStation_eng, invalidate_eng, invalidate_state, hf]
    by_cases hs : s.ctl.state = .syncing <;> simp [Engine.moved, h, hs]

end Moves
end Sys2Proof.Machine

namespace Sys2Proof.Machine

/-! ### Every command answers a next state with a property -/

section Answers

/-- The outcome is a next state with the property. -/
def Answers (P : State → Prop) (r : Host.Outcome State Fault Refusal) : Prop := ∃ t, r = .next t ∧ P t

theorem Answers.next {P : State → Prop} {t : State} (h : P t) : Answers P (.next t) := ⟨t, rfl, h⟩

theorem Answers.mono {P Q : State → Prop} {r : Host.Outcome State Fault Refusal} (hPQ : ∀ t, P t → Q t)
    (h : Answers P r) : Answers Q r := by
  obtain ⟨t, ht, hp⟩ := h
  exact ⟨t, ht, hPQ t hp⟩

theorem Answers.of_eq {P : State → Prop} {r : Host.Outcome State Fault Refusal} {t : State} (h : Answers P r)
    (ht : r = .next t) : P t := by
  obtain ⟨u, hu, hp⟩ := h
  rw [hu] at ht
  cases ht
  exact hp

theorem Answers.ite {P : State → Prop} {p : Prop} [Decidable p] {a b : Host.Outcome State Fault Refusal}
    (ha : p → Answers P a) (hb : ¬p → Answers P b) : Answers P (if p then a else b) := by
  split
  · next h => exact ha h
  · next h => exact hb h

/-- A property that does not look at the waiting commands, that every command keeps and that a microsecond without a command
keeps is kept by every step. -/
theorem kept_by_step {P : State → Prop} (hpend : ∀ s l, P s → P (s.setPending l))
    (hexec : ∀ c s, P s → Answers P (exec c s)) (hidle : ∀ s, P s → P s.idle) {s t : State} (hs : P s)
    (ht : step s = .next t) : P t := by
  unfold step at ht
  split at ht
  · exact (hexec _ _ (hpend _ _ hs)).of_eq ht
  · cases ht
    exact hidle s hs

end Answers

/-! ### The commands that neither move the station nor touch the Table Engine -/

section SameValidity

/-- The station state and the Table Engine are as they were. -/
structure SameValidity (s t : State) : Prop where
  state : t.ctl.state = s.ctl.state
  eng   : t.eng = s.eng

namespace SameValidity

theorem refl (s : State) : SameValidity s s := ⟨rfl, rfl⟩

theorem trans {s t u : State} (h : SameValidity s t) (g : SameValidity t u) : SameValidity s u :=
  ⟨g.state.trans h.state, g.eng.trans h.eng⟩

theorem ite {s t u : State} {p : Prop} [Decidable p] (h : SameValidity s t) (g : SameValidity s u) :
    SameValidity s (if p then t else u) := by
  split <;> assumption

theorem foldl {α : Type} {f : State → α → State} (hf : ∀ s a, SameValidity s (f s a)) (l : List α) (s : State) :
    SameValidity s (l.foldl f s) := by
  induction l generalizing s with
  | nil => exact refl s
  | cons a l ih => exact (hf s a).trans (ih (f s a))

end SameValidity

theorem Kept.validity {s t : State} (h : Kept s t) : SameValidity s t := ⟨h.state, h.eng⟩

variable (s : State)

theorem validity_setBus (b : Bus) : SameValidity s (s.setBus b) := ⟨rfl, rfl⟩
theorem validity_updBus (f : Bus → Bus) : SameValidity s (s.updBus f) := ⟨rfl, rfl⟩
theorem validity_updSw (f : SwitchUnit → SwitchUnit) : SameValidity s (s.updSw f) := ⟨rfl, rfl⟩
theorem validity_updSen (f : SensorUnit → SensorUnit) : SameValidity s (s.updSen f) := ⟨rfl, rfl⟩
theorem validity_passTo (t : Nat) : SameValidity s (s.passTo t) := ⟨rfl, rfl⟩
theorem validity_advanceTo (due : Nat) : SameValidity s (s.advanceTo due) := ⟨rfl, rfl⟩

/-! #### The Switch Unit -/

theorem validity_appendEvent (n : Switch) (l : Level) : SameValidity s (s.appendEvent n l) :=
  SameValidity.ite (validity_updSw s _) (kept_notify s _).validity

theorem validity_samplePin (pins : Byte) (n : Fin 8) : SameValidity s (s.samplePin pins n) := by
  unfold State.samplePin
  refine SameValidity.ite (validity_updSw s _) (SameValidity.ite ?_ (validity_updSw s _))
  exact ((validity_updSw s _).trans (validity_updSw _ _)).trans (validity_appendEvent _ _ _)

theorem validity_setScan (x : Scan) : SameValidity s (s.setScan x) := validity_updSw s _

theorem validity_endPass (attn : Bool) : SameValidity s (s.endPass attn) :=
  (validity_setScan s .idle).trans (validity_updSw _ _)

theorem validity_beginPass (attn : Bool) : SameValidity s (s.beginPass attn) := by
  unfold State.beginPass
  have h := (validity_updSw s fun u => { u with refresh := false, attention := false }).trans
    (validity_setScan _ (.pass (s.passCovers s.sw.refresh)))
  exact SameValidity.ite (h.trans (validity_endPass _ attn)) h

theorem validity_updExpander (e : Expander) (f : ExpanderRecord → ExpanderRecord) :
    SameValidity s (s.updExpander e f) := validity_updSw s _

theorem validity_setChange (e : Expander) (i : Fin 8) (due : Option Nat) : SameValidity s (s.setChange e i due) :=
  validity_updExpander s e _

theorem validity_setLevel (n : Switch) (l : Level) : SameValidity s (s.setLevel n l) := validity_updSw s _

theorem validity_judgeInput (e : Expander) (v : Byte) (i : Fin 8) : SameValidity s (s.judgeInput e v i) := by
  unfold State.judgeInput
  refine SameValidity.ite (validity_setChange s e i none) ?_
  split
  · exact validity_setChange s e i _
  · refine SameValidity.ite ?_ (SameValidity.refl s)
    exact ((validity_setLevel s _ _).trans (validity_setChange _ e i none)).trans (validity_appendEvent _ _ _)

theorem validity_prime (e : Expander) (v : Byte) : SameValidity s (s.prime e v) :=
  (SameValidity.foldl (fun t i => validity_setLevel t (expanderSwitch e i) (levelOf (v.getLsbD i.val))) _ s).trans
    (validity_updExpander _ e _)

theorem validity_judgeRead (e : Expander) (v : Byte) : SameValidity s (s.judgeRead e v) := by
  unfold State.judgeRead
  exact (SameValidity.ite (SameValidity.foldl (fun t i => validity_judgeInput t e v i) _ s) (validity_prime s e v)).trans
    (validity_updExpander _ e _)

theorem validity_readSucceeds (e : Expander) (v : Byte) : SameValidity s (s.readSucceeds e v) := by
  unfold State.readSucceeds
  have h := (validity_updExpander s e fun x => { x with status := .ok }).trans (validity_judgeRead _ e v)
  exact SameValidity.ite (h.trans ((kept_clearFault _ _).trans (kept_refreshLamps _)).validity) h

theorem validity_readEnds (e : Expander) (first retry : Option Byte) : SameValidity s (s.readEnds e first retry) := by
  unfold State.readEnds
  split
  · exact validity_readSucceeds s e _
  · exact validity_readSucceeds s e _
  · exact (validity_updSw s _).trans ((kept_setFault _ _).trans (kept_refreshLamps _)).validity

/-! #### The Sensor Unit and the Driver Unit -/

theorem kept_sensorReport (old new : ChannelState) : Kept s (s.sensorReport old new) :=
  Kept.ite (kept_setFault s _) (Kept.ite (kept_clearFault s _) (Kept.refl s))

theorem kept_deliverDecision (ch : Channel) (st : ChannelState) : Kept s (s.deliverDecision ch st) := by
  unfold State.deliverDecision
  split
  · exact (kept_claimDelivery s _ st).trans (kept_driverDelivery _ _ st)
  · exact kept_deriveDuties s

theorem validity_measure (ch : Channel) (edges : Nat) : SameValidity s (s.measure ch edges) := by
  unfold State.measure
  have h := validity_updSen s fun u =>
    { u with channels := vmap (fun k r => if k = ch then s.sen.channels[ch].measured s.cfg.channels[ch] edges else r) u.channels }
  exact SameValidity.ite h
    (h.trans (((kept_sensorReport _ _ _).trans (kept_deliverDecision _ _ _)).trans (kept_refreshLamps _)).validity)

theorem kept_pulseEnds (o : Output) : Kept s (s.pulseEnds o) := by
  unfold State.pulseEnds
  dsimp only
  split
  · exact Kept.ite (kept_updDrv s _) ((kept_updDrv s _).trans (kept_enterRecycle _ o))
  · exact kept_enterRecycle s o

theorem kept_verifyResult (id : DutyId) : Kept s (s.verifyResult id) := by
  unfold State.verifyResult
  split
  · exact Kept.ite (kept_succeedEject s _) (kept_failEject s _)
  · exact kept_failServe s
  · exact Kept.refl s

theorem kept_timedFailure (n : Slot) : Kept s (s.timedFailure n) := (kept_updDrv s _).trans (kept_jammedAfter _ n)

theorem kept_retryEnds (n : Slot) (disabled : Bool) : Kept s (s.retryEnds n disabled) := by
  unfold State.retryEnds
  have h := kept_updDrv s fun d => d.updEject n fun x => { x with retryDue := some (s.now + Config.retryTime) }
  refine Kept.ite (h.trans (kept_jammedAfter _ n)) ?_
  split
  · exact kept_updDrv s _
  · exact h
  all_goals exact h.trans (kept_jammedAfter _ n)

/-- A derivation and a recomputation of the lamps end every command of the Driver Unit. -/
theorem kept_derived {t : State} (h : Kept s t) : Kept s (t.deriveDuties).refreshLamps :=
  (h.trans (kept_deriveDuties t)).trans (kept_refreshLamps _)

/-! #### The switch events -/

theorem kept_handOn (r : SwitchRule) (n : Switch) (l : Level) (entered : Bool) : Kept s (s.handOn r n l entered) := by
  unfold State.handOn
  split
  · exact Kept.ite (kept_scoopHandOn s n _ _) (kept_scoopEmptied s n)
  · exact Kept.ite (kept_launchHandOn s entered) (Kept.refl s)
  all_goals exact Kept.refl s

theorem kept_dealEvent (e : SwitchEvent) : Kept s (s.dealEvent e) := by
  unfold State.dealEvent
  exact ((Kept.foldl (fun t p => kept_build t p _) _ s).trans (kept_handOn _ _ _ _ _)).trans (kept_refreshLamps _)

theorem kept_reportEnd (tx acc : Bool) : Kept s (s.reportEnd tx acc) :=
  Kept.ite (Kept.ite (kept_reportAccepted s) (kept_reportVetoed s)) (Kept.refl s)

end SameValidity

end Sys2Proof.Machine

namespace Sys2Proof.Machine

/-! ### R1's table of station states and replica validity (ReplicaFollowsStateKept) -/

section Follows

/-- R1's table: the station state `st` beside the Table Engine `e`, a loss that waits included (R3), and the sync silence
timer (R2). -/
structure Fits (st : StationState) (e : Engine) : Prop where
  unstarted : st = .loading ∨ st = .unconfigured → e.replica = .unknown
  outside   : st = .syncing ∨ st = .quiet → e.replica = .unknown ∨ e.loss.isSome = true
  inside    : st = .ready ∨ st = .member ∨ st = .bystander → e.replica = .valid
  sync      : e.sync ≠ .stopped ↔ st = .syncing

variable {s t : State}

theorem isValid_iff : s.isValid = true ↔ s.eng.replica = .valid := by simp [State.isValid]

theorem isValid_false_iff : s.isValid = false ↔ s.eng.replica = .unknown := by
  cases h : s.eng.replica <;> simp [State.isValid, h]

/-- The law, said of the station state and the Table Engine alone. -/
theorem replicaFollowsState_iff :
    ReplicaFollowsState s ↔ Fits s.ctl.state s.eng
      ∧ (s.eng.inFlight.isSome = true → s.eng.replica = .valid) ∧ (s.eng.loss.isSome = true → s.eng.inFlight.isSome = true) := by
  constructor
  · rintro ⟨hu, ho, hi, hf, hl, hs⟩
    exact ⟨⟨fun h => isValid_false_iff.1 (hu h), fun h => (ho h).imp_left isValid_false_iff.1,
      fun h => isValid_iff.1 (hi h), hs⟩, fun h => isValid_iff.1 (hf h), hl⟩
  · rintro ⟨⟨hu, ho, hi, hs⟩, hf, hl⟩
    exact ⟨fun h => isValid_false_iff.2 (hu h), fun h => (ho h).imp_left isValid_false_iff.2,
      fun h => isValid_iff.2 (hi h), fun h => isValid_iff.2 (hf h), hl, hs⟩

theorem SameValidity.follows (h : SameValidity s t) (hs : ReplicaFollowsState s) : ReplicaFollowsState t := by
  rw [replicaFollowsState_iff] at hs ⊢
  rwa [h.state, h.eng]

theorem freshSync_ne_stopped (s : State) : s.freshSync ≠ .stopped := by
  unfold State.freshSync
  split <;> nofun

/-- Behind a loss taken with no application in flight the table holds, whatever the station state was. -/
theorem performLoss_follows (hsync : s.eng.sync ≠ .stopped ↔ s.ctl.state = .syncing) (hf : s.eng.inFlight = none) :
    ReplicaFollowsState s.performLoss := by
  rw [replicaFollowsState_iff, performLoss_state, performLoss_eng]
  refine ⟨⟨fun _ => rfl, fun _ => .inl rfl, ?_, ?_⟩, by simp [hf], by simp⟩
  · split <;> simp
  · by_cases hq : s.ctl.state = .quiet
    · simp [hq, hsync]
    · by_cases hy : s.ctl.state = .syncing
      · simp [hy, hsync.2 hy]
      · simp [hq, hy, freshSync_ne_stopped]

/-- R3: a cause of a loss that meets a VALID replica, or a station that is not QUIET's or SYNCING's any more. -/
theorem causeLoss_follows (c : LossCause) (hsync : s.eng.sync ≠ .stopped ↔ s.ctl.state = .syncing)
    (hf : s.eng.inFlight.isSome = true → s.eng.replica = .valid ∧ ¬(s.ctl.state = .loading ∨ s.ctl.state = .unconfigured)) :
    ReplicaFollowsState (s.causeLoss c) := by
  unfold State.causeLoss
  split
  · next h =>
    obtain ⟨hv, hst⟩ := hf h
    rw [replicaFollowsState_iff]
    exact ⟨⟨fun h' => absurd h' hst, fun _ => .inr rfl, fun _ => hv, hsync⟩, fun _ => hv, fun _ => h⟩
  · next h => exact performLoss_follows hsync (by simpa using h)

/-- Under R1's table a frame in flight is not met in LOADING or UNCONFIGURED. -/
theorem ReplicaFollowsState.inFlight_started (hs : ReplicaFollowsState s) (h : s.eng.inFlight.isSome = true) :
    s.eng.replica = .valid ∧ ¬(s.ctl.state = .loading ∨ s.ctl.state = .unconfigured) := by
  have hv := hs.inFlight h
  refine ⟨isValid_iff.1 hv, fun h' => ?_⟩
  rw [hs.unstarted h'] at hv
  cases hv

/-! #### Moves -/

theorem Fits.moved {st new : StationState} {e : Engine} {fresh : SyncTimer} (hf : fresh ≠ .stopped) (h : Fits st e)
    (hu : new = .loading ∨ new = .unconfigured → e.replica = .unknown)
    (ho : new = .syncing ∨ new = .quiet → e.replica = .unknown ∨ e.loss.isSome = true)
    (hi : new = .ready ∨ new = .member ∨ new = .bystander → e.replica = .valid) : Fits new (e.moved st new fresh) := by
  unfold Engine.moved
  split
  · next he => exact he ▸ h
  · next hne =>
    split
    · next hn => exact ⟨hu, ho, hi, by simp [hn, hf]⟩
    · next hn =>
      split
      · next hst => exact ⟨hu, ho, hi, by simp [hn]⟩
      · next hst => exact ⟨hu, ho, hi, by simp [hn, h.sync, hst]⟩

theorem moveStation_fits {new : StationState} (h : Fits s.ctl.state s.eng)
    (hu : new = .loading ∨ new = .unconfigured → s.eng.replica = .unknown)
    (ho : new = .syncing ∨ new = .quiet → s.eng.replica = .unknown ∨ s.eng.loss.isSome = true)
    (hi : new = .ready ∨ new = .member ∨ new = .bystander → s.eng.replica = .valid) :
    Fits (s.moveStation new).ctl.state (s.moveStation new).eng := by
  rw [moveStation_state, moveStation_eng]
  exact h.moved (freshSync_ne_stopped s) hu ho hi

/-! #### QUIET, and the frame's end -/

theorem Engine.moved_of_ne {e : Engine} {old st : StationState} {fresh : SyncTimer} (h : st ≠ .syncing) :
    e.moved old st fresh = if old = .syncing then { e with sync := .stopped } else e := by
  unfold Engine.moved
  split
  · next he => rw [if_neg (he ▸ h)]
  · simp

theorem enterQuiet_follows (hs : ReplicaFollowsState s) : ReplicaFollowsState s.enterQuiet := by
  have hk := kept_setFault s .quiet
  have hfl := kept_flushClaims ((s.setFault .quiet).moveStation .quiet)
  have he : ((s.setFault .quiet).moveStation .quiet).eng
      = if s.ctl.state = .syncing then { s.eng with sync := .stopped } else s.eng := by
    rw [moveStation_eng, hk.eng, hk.state, Engine.moved_of_ne (by decide)]
  unfold State.enterQuiet
  refine (kept_derived _ (Kept.refl _)).validity.follows (causeLoss_follows .quiet ?_ ?_)
  · rw [updBus_eng, updBus_ctl, hfl.eng, hfl.state, moveStation_state, he]
    by_cases h : s.ctl.state = .syncing
    · simp [h]
    · simp [h, hs.sync]
  · rw [updBus_eng, updBus_ctl, hfl.eng, hfl.state, moveStation_state, he]
    intro h
    have hv := hs.inFlight_started (by split at h <;> exact h)
    refine ⟨?_, by decide⟩
    split <;> exact hv.1

theorem restartSync_follows (hs : ReplicaFollowsState s) : ReplicaFollowsState s.restartSync := by
  unfold State.restartSync
  split
  · exact hs
  · next h =>
    rw [replicaFollowsState_iff] at hs ⊢
    obtain ⟨⟨hu, ho, hi, hy⟩, hf, hl⟩ := hs
    refine ⟨⟨hu, ho, hi, ?_⟩, hf, hl⟩
    simpa [State.startSync, freshSync_ne_stopped] using hy.1 h

theorem deliver_follows (f : Option Frame) (snd ovr : Bool) (hs : ReplicaFollowsState s) :
    ReplicaFollowsState (s.deliver f snd ovr) := by
  have happ : ∀ g, ReplicaFollowsState (s.appendFrame g) := fun g => by
    have h := (validity_updBus s fun b => { b with inbound := b.inbound ++ [g] }).follows hs
    unfold State.appendFrame
    dsimp only
    split
    · exact restartSync_follows h
    · exact h
  have hloss : ReplicaFollowsState (s.causeLoss .overrun) := causeLoss_follows _ hs.sync hs.inFlight_started
  unfold State.deliver
  repeat' split
  · exact hloss
  · exact hs
  · exact happ _
  · exact happ _
  · exact hloss
  · exact hs
  · exact hs

theorem quietCheck_follows (scored : Bool) (hs : ReplicaFollowsState s) : ReplicaFollowsState (s.quietCheck scored) := by
  unfold State.quietCheck
  split
  · exact enterQuiet_follows hs
  · exact hs

theorem frameEnd_follows (bits : List Bool) (v : Bool) (hs : ReplicaFollowsState s) :
    ReplicaFollowsState (s.frameEnd bits v) := by
  unfold State.frameEnd
  refine quietCheck_follows _ ?_
  have h2 := ((validity_updBus s _).trans (kept_reportEnd (s.endFrame bits (!s.slotDominant bits v)
    (s.checksFrames && !s.sound bits) (s.sound bits) false) s.transmitting (!s.slotDominant bits v)).validity).follows hs
  split
  · exact deliver_follows _ _ _ h2
  · exact h2

/-! #### One application -/

/-- What the table asks behind the taking of a frame: no application is in flight, and a loss waits only at a VALID
replica. -/
structure Taken (s : State) : Prop where
  fits : Fits s.ctl.state s.eng
  none : s.eng.inFlight = none
  loss : s.eng.loss.isSome = true → s.eng.replica = .valid

theorem taken_taken (hs : ReplicaFollowsState s) : Taken s.taken := by
  rw [replicaFollowsState_iff] at hs
  obtain ⟨hfit, hf, hl⟩ := hs
  unfold State.taken
  split
  · exact ⟨⟨hfit.unstarted, hfit.outside, hfit.inside, hfit.sync⟩, rfl, fun h => hf (hl h)⟩
  · next h => exact ⟨hfit, h, fun h => hf (hl h)⟩

theorem Taken.follows (h : Taken s) (hl : s.eng.loss = .none) : ReplicaFollowsState s := by
  rw [replicaFollowsState_iff]
  exact ⟨h.fits, by simp [h.none], by simp [hl]⟩

/-- R179: a hand-off moves the station among READY, MEMBER and BYSTANDER alone. -/
theorem stateAfter_cases (s : State) :
    s.stateAfter = s.ctl.state
      ∨ (s.ctl.state = .ready ∨ s.ctl.state = .member ∨ s.ctl.state = .bystander)
        ∧ (s.stateAfter = .ready ∨ s.stateAfter = .member ∨ s.stateAfter = .bystander) := by
  unfold State.stateAfter
  cases h : s.ctl.state <;> simp only
  case loading | unconfigured | syncing | quiet => exact .inl trivial
  all_goals (repeat' split) <;> simp

theorem moveStation_taken {new : StationState} (h : Taken s) (hv : s.eng.replica = .valid)
    (hn : new = .ready ∨ new = .member ∨ new = .bystander) : Taken (s.moveStation new) := by
  have hne : new ≠ .syncing := by rintro rfl; simp at hn
  have hf : Fits (s.moveStation new).ctl.state (s.moveStation new).eng :=
    moveStation_fits h.fits (by rcases hn with rfl | rfl | rfl <;> simp) (by rcases hn with rfl | rfl | rfl <;> simp)
      fun _ => hv
  have he : (s.moveStation new).eng.inFlight = s.eng.inFlight ∧ (s.moveStation new).eng.replica = s.eng.replica := by
    rw [moveStation_eng, Engine.moved_of_ne hne]
    split <;> exact ⟨rfl, rfl⟩
  exact ⟨hf, he.1.trans h.none, fun _ => he.2.trans hv⟩

theorem SameValidity.taken (h : SameValidity s t) (hs : Taken s) : Taken t := by
  refine ⟨?_, ?_, ?_⟩
  · rw [h.state, h.eng]; exact hs.fits
  · rw [h.eng]; exact hs.none
  · rw [h.eng]; exact hs.loss

theorem moveStation_same (s : State) : s.moveStation s.ctl.state = s := by simp [State.moveStation]

theorem handOff_taken (f : Frame) (o : AppOutcome) (began : Bool) (before : GameTable) (h : Taken s) :
    Taken (s.handOff f o began before) := by
  have hm : Taken (s.moveStation s.stateAfter) := by
    rcases stateAfter_cases s with he | ⟨hst, hn⟩
    · rw [he, moveStation_same]; exact h
    · exact moveStation_taken h (h.fits.inside hst) hn
  unfold State.handOff
  have hk := kept_claimHandOff (s.moveStation s.stateAfter) f o began
  exact (kept_derived _ (Kept.ite (hk.trans (kept_cancelScoops _)) hk)).validity.taken hm

/-- R1: a sync start's validity. -/
theorem validated_taken (h : Taken s) (hst : s.ctl.state = .syncing) : Taken s.validated := by
  refine ⟨?_, by rw [validated_eng]; exact h.none, fun _ => by rw [validated_eng]⟩
  rw [validated_state, validated_eng, if_pos hst, if_pos hst]
  exact ⟨by simp, by simp, fun _ => rfl, by simp⟩

theorem syncStart_state {f : Frame} (h : s.syncStart f = true) : s.ctl.state = .syncing := by
  unfold State.syncStart at h
  simp only [Bool.and_eq_true, beq_iff_eq] at h
  exact h.1.2

theorem completed_taken (f : Frame) (h : Taken s) : Taken (s.completed f) := by
  have h0 : Taken (s.afterStages f) :=
    ⟨⟨h.fits.unstarted, h.fits.outside, h.fits.inside, h.fits.sync⟩, h.none, h.loss⟩
  have h1 := (kept_notifyAll (s.afterStages f)
    (applyFrame s.ctl.station (s.syncStart f) f s.table).1.notices).validity.taken h0
  unfold State.completed
  refine handOff_taken _ _ _ _ ?_
  split
  · next hs =>
    refine validated_taken h1 ?_
    rw [(kept_notifyAll _ _).state]
    exact syncStart_state hs
  · exact h1

theorem takeLoss_follows (d : Bool) (h : Taken s) : ReplicaFollowsState (s.takeLoss d) := by
  unfold State.takeLoss
  split
  · have h' := (kept_setFault s .diverged).validity.taken h
    exact performLoss_follows h'.fits.sync h'.none
  · split
    · exact performLoss_follows h.fits.sync h.none
    · next hl => exact h.follows (by simpa using hl)

theorem application_follows (f : Frame) (h : Taken s) : ReplicaFollowsState (s.application f) := by
  unfold State.application
  split
  · exact takeLoss_follows _ (completed_taken f h)
  · next ha =>
    refine h.follows ?_
    have hv : s.isValid = false := by
      have : s.admits f = false := by simpa using ha
      exact (Bool.or_eq_false_iff.1 this).1
    by_contra hl
    have := h.loss (Option.isSome_iff_ne_none.2 hl)
    rw [isValid_false_iff.1 hv] at this
    cases this

theorem applyNext_follows (sort : Frame → Bool) (hs : ReplicaFollowsState s) : ReplicaFollowsState (s.applyNext sort) := by
  unfold State.applyNext
  split
  · split
    · exact application_follows _ (taken_taken hs)
    · exact hs
  · exact hs

end Follows

end Sys2Proof.Machine

namespace Sys2Proof.Machine

section FollowsCommands

variable (s : State)

/-! #### The commands that leave the station state and the Table Engine as they are -/

theorem busFree_validity : Answers (SameValidity s) (exec .busFree s) :=
  Answers.ite (fun _ => .next ⟨rfl, rfl⟩) fun _ => .next (.refl s)

theorem yieldTimeout_validity : Answers (SameValidity s) (exec .yieldTimeout s) :=
  Answers.ite (fun _ => .next ⟨rfl, rfl⟩) fun _ => .next (.refl s)

theorem contention_validity : Answers (SameValidity s) (exec .contention s) :=
  Answers.ite (fun _ => .next ((kept_launchHead s).validity.trans (validity_updBus _ _))) fun _ => .next (.refl s)

theorem startMark_validity : Answers (SameValidity s) (exec .startMark s) :=
  Answers.ite (fun _ => .next ⟨rfl, rfl⟩) fun _ => .next (.refl s)

theorem arbitrationLost_validity : Answers (SameValidity s) (exec .arbitrationLost s) :=
  Answers.ite (fun _ => .next ((kept_reportReturned s).validity.trans (validity_updBus _ _))) fun _ => .next (.refl s)

theorem strayMark_validity : Answers (SameValidity s) (exec .strayMark s) :=
  Answers.ite (fun _ => .next ⟨rfl, rfl⟩) fun _ => .next (.refl s)

theorem cut_validity : Answers (SameValidity s) (exec .cut s) :=
  Answers.ite
    (fun _ => .next ((Kept.ite (kept_reportReturned s) (Kept.refl s)).validity.trans (validity_updBus _ _))) fun _ =>
    Answers.ite (fun _ => .next (validity_updBus s _)) fun _ => .next (.refl s)

theorem tickTimerExpiry_validity : Answers (SameValidity s) (exec .tickTimerExpiry s) := by
  show Answers _ (execTickTimerExpiry s)
  unfold execTickTimerExpiry
  split
  · exact .next ((validity_advanceTo s _).trans (kept_setTickTimer _ _).validity)
  all_goals exact .next (.refl s)

theorem tickClaimBuild_validity : Answers (SameValidity s) (exec .tickClaimBuild s) :=
  .next (kept_buildTick s).validity

theorem presenceClaimBuild_validity : Answers (SameValidity s) (exec .presenceClaimBuild s) :=
  .next (kept_buildPresence s).validity

theorem switchEventTake_validity : Answers (SameValidity s) (exec .switchEventTake s) := by
  show Answers _ (execSwitchEventTake s)
  unfold execSwitchEventTake
  split
  · next e rest _ =>
    exact Answers.ite
      (fun _ => .next (SameValidity.trans (t := s.setSw { s.sw with events := rest }) ⟨rfl, rfl⟩ (kept_dealEvent _ e).validity))
      fun _ => .next (.refl s)
  · exact .next (.refl s)

theorem switchSample_validity (pins : Byte) : Answers (SameValidity s) (exec (.switchSample pins) s) := by
  have h : SameValidity s ((s.advanceTo s.sw.sampleDue).updSw fun u =>
    { u with sampleDue := u.sampleDue + Config.samplePeriod }) := ⟨rfl, rfl⟩
  exact Answers.ite (fun _ => Answers.ite
      (fun _ => .next (h.trans (SameValidity.foldl (fun t n => validity_samplePin t pins n) _ _)))
      fun _ => .next (h.trans (validity_updSw _ _)))
    fun _ => .next (.refl s)

theorem attnTake_validity : Answers (SameValidity s) (exec .attnTake s) :=
  Answers.ite (fun _ => .next (validity_updSw s _)) fun _ => .next (.refl s)

theorem attnRelease_validity : Answers (SameValidity s) (exec .attnRelease s) :=
  Answers.ite (fun _ => .next (validity_updSw s _)) fun _ => .next (.refl s)

theorem refreshTimer_validity : Answers (SameValidity s) (exec .refreshTimer s) :=
  Answers.ite (fun _ => .next ⟨rfl, rfl⟩) fun _ => .next (.refl s)

theorem pendingChangeDue_validity (e : Expander) (i : Fin 8) :
    Answers (SameValidity s) (exec (.pendingChangeDue e i) s) := by
  show Answers _ (execPendingChangeDue e i s)
  unfold execPendingChangeDue
  split
  · exact .next ((validity_advanceTo s _).trans (validity_updExpander _ e _))
  · exact .next (.refl s)

theorem scannerWork_validity (attn : Bool) : Answers (SameValidity s) (exec (.scannerWork attn) s) := by
  refine Answers.ite (fun _ => ?_) fun _ => .next (.refl s)
  split
  · exact .next (validity_setScan s _)
  · exact Answers.ite (fun _ => .next (validity_beginPass s attn)) fun _ => .next (.refl s)

theorem expanderRead_validity (first retry : Option Byte) (attn : Bool) :
    Answers (SameValidity s) (exec (.expanderRead first retry attn) s) := by
  show Answers _ (execExpanderRead first retry attn s)
  unfold execExpanderRead
  split
  · exact .next (.refl s)
  · exact .next ((validity_readEnds s _ first retry).trans (validity_setScan _ _))
  · exact .next (validity_endPass s attn)
  · next e rest _ =>
    have h := validity_readEnds s e first retry
    exact Answers.ite (fun _ => .next (h.trans (validity_endPass _ attn))) fun _ => .next (h.trans (validity_setScan _ _))

theorem sweepDue_validity : Answers (SameValidity s) (exec .sweepDue s) :=
  Answers.ite (fun _ => Answers.ite (fun _ => .next ⟨rfl, rfl⟩) fun _ => .next ⟨rfl, rfl⟩) fun _ => .next (.refl s)

theorem measurementEnd_validity (edges : Nat) : Answers (SameValidity s) (exec (.measurementEnd edges) s) := by
  show Answers _ (execMeasurementEnd edges s)
  unfold execMeasurementEnd
  split
  · exact .next (.refl s)
  · exact .next (((validity_advanceTo s _).trans (validity_updSen _ _)).trans (validity_measure _ _ edges))

theorem pulseEnd_validity (o : Output) : Answers (SameValidity s) (exec (.pulseEnd o) s) :=
  Answers.ite
    (fun _ => .next ((validity_advanceTo s _).trans (kept_derived _ (kept_pulseEnds _ o)).validity)) fun _ => .next (.refl s)

theorem verifyTimeout_validity (o : Output) : Answers (SameValidity s) (exec (.verifyTimeout o) s) := by
  refine Answers.ite (fun _ => .next ((validity_advanceTo s s.drv.outputs[o].due).trans ?_)) fun _ => .next (.refl s)
  refine (kept_derived _ (Kept.trans ?_ (kept_enterRecycle _ o))).validity
  split
  · exact kept_verifyResult _ _
  · exact Kept.refl _

theorem recycleEnd_validity (o : Output) : Answers (SameValidity s) (exec (.recycleEnd o) s) :=
  Answers.ite
    (fun _ => .next ((validity_advanceTo s _).trans (kept_derived _ (kept_leaveRecycle _ o)).validity)) fun _ => .next (.refl s)

theorem ejectRetryTimer_validity (n : Slot) : Answers (SameValidity s) (exec (.ejectRetryTimer n) s) := by
  show Answers _ (execEjectRetryTimer n s)
  unfold execEjectRetryTimer
  split
  · split
    · next due _ =>
      refine .next ((validity_advanceTo s due).trans (kept_derived _ ?_).validity)
      split
      · exact kept_timedFailure _ n
      · exact kept_retryEnds _ n _
    · exact .next (.refl s)
  · exact .next (.refl s)

theorem serveRetryTimer_validity : Answers (SameValidity s) (exec .serveRetryTimer s) := by
  show Answers _ (execServeRetryTimer s)
  unfold execServeRetryTimer
  split
  · exact .next ((validity_advanceTo s _).trans (kept_derived _ (kept_updDrv _ _)).validity)
  · exact .next (.refl s)

theorem scoopDwellEnd_validity (n : Switch) : Answers (SameValidity s) (exec (.scoopDwellEnd n) s) := by
  show Answers _ (execScoopDwellEnd n s)
  unfold execScoopDwellEnd
  split
  · split
    · exact .next ((validity_advanceTo s _).trans (kept_derived _ (kept_updDrv _ _)).validity)
    · exact .next (.refl s)
  · exact .next (.refl s)

theorem attractHalfCycle_validity : Answers (SameValidity s) (exec .attractHalfCycle s) :=
  Answers.ite
    (fun _ => .next ((validity_advanceTo s _).trans ((kept_setLamp _ _).trans (kept_refreshLamps _)).validity))
    fun _ => .next (.refl s)

theorem noticeSend_validity : Answers (SameValidity s) (exec .noticeSend s) := by
  show Answers _ (execNoticeSend s)
  unfold execNoticeSend
  split
  · exact .next ((validity_advanceTo s _).trans (kept_setRpt _ _).validity)
  · exact .next (.refl s)

/-! #### The commands that move the station or touch the Table Engine -/

variable {s}

theorem deviceReset_follows (straps : BitVec 4) (low : Bool) :
    Answers ReplicaFollowsState (exec (.deviceReset straps low) s) := by
  refine .next (replicaFollowsState_iff.2 ⟨⟨fun _ => rfl, fun _ => .inl rfl, ?_, ?_⟩, nofun, nofun⟩)
  · rintro (h | h | h) <;> cases h
  · exact ⟨fun h => absurd rfl h, nofun⟩

theorem validity_loadImage (s : State) (image : List Byte) : SameValidity s (s.loadImage image) := by
  unfold State.loadImage
  constructor <;> simp only [State.setRpt_ctl, State.setRpt_eng, State.setTable_ctl, State.setTable_eng, State.setCfg_ctl,
    State.setCfg_eng, State.setCtl_ctl, State.setCtl_eng]

theorem validity_startUnits (s : State) : SameValidity s s.startUnits := by
  unfold State.startUnits
  constructor <;> simp only [State.setDrv_ctl, State.setDrv_eng, State.setSen_ctl, State.setSen_eng, State.setSw_ctl,
    State.setSw_eng, State.setBus_ctl, State.setBus_eng]

theorem validity_readMemory (s : State) : SameValidity s s.readMemory := ⟨rfl, rfl⟩

theorem configurationRead_follows (image : List Byte) (hs : ReplicaFollowsState s) :
    Answers ReplicaFollowsState (exec (.configurationRead image) s) := by
  rw [replicaFollowsState_iff] at hs
  obtain ⟨hfit, hf, hl⟩ := hs
  refine Answers.ite (fun hst => ?_) fun _ => .next (replicaFollowsState_iff.2 ⟨hfit, hf, hl⟩)
  have hu : s.eng.replica = .unknown := hfit.unstarted (.inl hst)
  have hn : s.eng.inFlight = none := by
    by_contra h
    rw [hf (Option.isSome_iff_ne_none.2 h)] at hu
    cases hu
  refine Answers.ite (fun _ => ?_) fun _ => ?_
  · have h1 := ((validity_readMemory s).trans (validity_loadImage _ (fullImage image))).trans (validity_startUnits _)
    refine .next ?_
    unfold State.configured
    refine (Kept.trans ?_ (kept_refreshLamps _)).validity.follows
      (s := (s.readMemory.loadImage (fullImage image)).startUnits.changeStation .syncing) ?_
    · exact Kept.ite (kept_setFault _ _) (Kept.refl _)
    · rw [replicaFollowsState_iff, changeStation_state, changeStation_eng, h1.state, h1.eng, hst]
      exact ⟨⟨fun _ => hu, fun _ => .inl hu, by simp, by simp [Engine.moved, freshSync_ne_stopped]⟩,
        by simp [Engine.moved, hn], fun h => hl h⟩
  · refine .next (((kept_setFault _ .config).trans (kept_refreshLamps _)).validity.follows
      (s := s.readMemory.setCtl { s.readMemory.ctl with state := .unconfigured, mask := 0xFF#8 }) ?_)
    rw [replicaFollowsState_iff]
    refine ⟨⟨fun _ => hu, by simp, by simp, ?_⟩, hf, hl⟩
    have := hfit.sync
    rw [hst] at this
    simpa [readMemory_eq] using this

theorem lateLoss_follows (hs : ReplicaFollowsState s) : Answers ReplicaFollowsState (exec .lateLoss s) := by
  refine Answers.ite (fun _ => .next ?_) fun _ => .next hs
  unfold State.mute
  refine (kept_refreshLamps _).validity.follows ?_
  have h1 := (((kept_reportReturned s).validity.trans (validity_updBus _ fun b => { b with link := .receiving })).trans
    (((validity_updBus _ fun b => { b with muted := true }).trans (kept_setFault _ .duplicate).validity).trans
      (kept_discardWaiting _).validity)).follows hs
  split
  · next hm =>
    rw [replicaFollowsState_iff] at h1 ⊢
    obtain ⟨hfit, hf, hl⟩ := h1
    have hv := hfit.inside (.inr (.inl hm))
    rw [changeStation_state, changeStation_eng, Engine.moved_of_ne (by decide), hm, if_neg (by decide)]
    refine ⟨⟨by simp, by simp, fun _ => hv, ?_⟩, hf, hl⟩
    have := hfit.sync
    rw [hm] at this
    simpa using this
  · exact (kept_judgeTickTimer _).validity.follows h1

theorem endMark_follows (bits : List Bool) (v : Bool) (hs : ReplicaFollowsState s) :
    Answers ReplicaFollowsState (exec (.endMark bits v) s) :=
  Answers.ite (fun _ => .next (frameEnd_follows bits v hs)) fun _ =>
    Answers.ite (fun _ => .next ((validity_updBus s _).follows hs)) fun _ => .next hs

theorem missingEndMark_follows (bits : List Bool) (hs : ReplicaFollowsState s) :
    Answers ReplicaFollowsState (exec (.missingEndMark bits) s) :=
  Answers.ite (fun _ => .next (quietCheck_follows _
    (((validity_updBus s _).trans (kept_reportEnd (s.endFrame bits false true false true) _ _).validity).follows hs)))
    fun _ => .next hs

theorem quietExit_follows (hs : ReplicaFollowsState s) : Answers ReplicaFollowsState (exec .quietExit s) := by
  refine Answers.ite (fun h => .next ?_) fun _ => .next hs
  have h1 := ((validity_updBus s fun b => { b with score := 0, cleanRun := 0 }).trans
    (kept_clearFault _ .quiet).validity)
  have hq := h1.state.trans h.1
  have hs1 := h1.follows hs
  rw [replicaFollowsState_iff] at hs1 ⊢
  obtain ⟨hfit, hf, hl⟩ := hs1
  have ho := hfit.outside (.inr hq)
  rw [changeStation_state, changeStation_eng, hq]
  refine ⟨⟨by simp, fun _ => ho, by simp, ?_⟩, hf, hl⟩
  simp [Engine.moved, freshSync_ne_stopped]

theorem hold_ne_stopped (now : Nat) (t : SyncTimer) : t.hold now ≠ .stopped ↔ t ≠ .stopped := by
  cases t <;> simp [SyncTimer.hold]

theorem stuck_follows (hs : ReplicaFollowsState s) : Answers ReplicaFollowsState (exec .stuck s) := by
  refine Answers.ite (fun _ => .next (((kept_setFault _ _).trans (kept_refreshLamps _)).validity.follows ?_)) fun _ => .next hs
  rw [replicaFollowsState_iff] at hs ⊢
  obtain ⟨hfit, hf, hl⟩ := hs
  exact ⟨⟨hfit.unstarted, hfit.outside, hfit.inside, (hold_ne_stopped _ _).trans hfit.sync⟩, hf, hl⟩

theorem stuckClear_follows (hs : ReplicaFollowsState s) : Answers ReplicaFollowsState (exec .stuckClear s) :=
  Answers.ite
    (fun _ => .next (((kept_clearFault _ _).trans (kept_refreshLamps _)).validity.follows
      (restartSync_follows ((validity_updBus s _).follows hs))))
    fun _ => .next hs

theorem adoptAttract_state (s : State) :
    s.adoptAttract.ctl.state = if s.ctl.state = .syncing then .ready else s.ctl.state := by
  unfold State.adoptAttract
  rw [(kept_derived _ (Kept.refl _)).state, validated_state]
  rfl

theorem adoptAttract_eng (s : State) :
    s.adoptAttract.eng =
      { s.eng with
        replica := .valid, history := [], tally := 0
        sync := if s.ctl.state = .syncing then .stopped else s.eng.sync } := by
  unfold State.adoptAttract
  rw [(kept_derived _ (Kept.refl _)).eng, validated_eng]
  rfl

theorem syncSilenceExpiry_follows (hs : ReplicaFollowsState s) :
    Answers ReplicaFollowsState (exec .syncSilenceExpiry s) := by
  show Answers _ (execSyncSilenceExpiry s)
  unfold execSyncSilenceExpiry
  split
  · next since hsy =>
    have hst : s.ctl.state = .syncing := hs.sync.1 (by rw [hsy]; nofun)
    rw [replicaFollowsState_iff] at hs
    obtain ⟨-, -, hl⟩ := hs
    refine .next (replicaFollowsState_iff.2 ?_)
    rw [adoptAttract_state, adoptAttract_eng]
    have h1 := validity_advanceTo s (since + Config.syncSilence)
    rw [h1.state, h1.eng, hst]
    exact ⟨⟨by simp, by simp, fun _ => rfl, by simp⟩, fun _ => rfl, hl⟩
  all_goals exact .next hs

theorem lossOfValidity_follows (hs : ReplicaFollowsState s) :
    Answers ReplicaFollowsState (exec .lossOfValidity s) := by
  show Answers _ (execLossOfValidity s)
  unfold execLossOfValidity
  split
  · exact .next (application_follows _ (taken_taken hs))
  · next hn => exact .next (performLoss_follows hs.sync hn)
  · exact .next hs

theorem idle_follows (hs : ReplicaFollowsState s) : ReplicaFollowsState s.idle := by
  have h1 := (validity_passTo s (s.now + 1)).follows hs
  unfold State.idle
  generalize s.passTo (s.now + 1) = u at h1
  unfold State.takeInFlight
  split
  · split
    · next f rest hb hc =>
      rw [replicaFollowsState_iff] at h1 ⊢
      obtain ⟨hfit, hf, hl⟩ := h1
      exact ⟨⟨hfit.unstarted, hfit.outside, hfit.inside, hfit.sync⟩, fun _ => isValid_iff.1 hc.1, fun _ => rfl⟩
    · exact h1
  · exact h1

/-- R1, R2: every command keeps the table of station states and replica validity. -/
theorem exec_follows (c : Instr) (s : State) (hs : ReplicaFollowsState s) : Answers ReplicaFollowsState (exec c s) := by
  have plain : ∀ {c}, Answers (SameValidity s) (exec c s) → Answers ReplicaFollowsState (exec c s) :=
    fun h => h.mono fun _ h => h.follows hs
  have app : ∀ sort : Frame → Bool, Answers ReplicaFollowsState (.next (s.applyNext sort)) :=
    fun sort => .next (applyNext_follows sort hs)
  cases c with
  | deviceReset straps low => exact deviceReset_follows straps low
  | configurationRead image => exact configurationRead_follows image hs
  | busFree => exact plain (busFree_validity s)
  | yieldTimeout => exact plain (yieldTimeout_validity s)
  | contention => exact plain (contention_validity s)
  | startMark => exact plain (startMark_validity s)
  | arbitrationLost => exact plain (arbitrationLost_validity s)
  | lateLoss => exact lateLoss_follows hs
  | strayMark => exact plain (strayMark_validity s)
  | endMark bits v => exact endMark_follows bits v hs
  | missingEndMark bits => exact missingEndMark_follows bits hs
  | cut => exact plain (cut_validity s)
  | quietExit => exact quietExit_follows hs
  | stuck => exact stuck_follows hs
  | stuckClear => exact stuckClear_follows hs
  | syncSilenceExpiry => exact syncSilenceExpiry_follows hs
  | lossOfValidity => exact lossOfValidity_follows hs
  | tickTimerExpiry => exact plain (tickTimerExpiry_validity s)
  | tickClaimBuild => exact plain (tickClaimBuild_validity s)
  | presenceClaimBuild => exact plain (presenceClaimBuild_validity s)
  | switchEventTake => exact plain (switchEventTake_validity s)
  | switchSample pins => exact plain (switchSample_validity s pins)
  | attnTake => exact plain (attnTake_validity s)
  | refreshTimer => exact plain (refreshTimer_validity s)
  | pendingChangeDue e i => exact plain (pendingChangeDue_validity s e i)
  | scannerWork attn => exact plain (scannerWork_validity s attn)
  | expanderRead first retry attn => exact plain (expanderRead_validity s first retry attn)
  | sweepDue => exact plain (sweepDue_validity s)
  | measurementEnd edges => exact plain (measurementEnd_validity s edges)
  | pulseEnd o => exact plain (pulseEnd_validity s o)
  | verifyTimeout o => exact plain (verifyTimeout_validity s o)
  | recycleEnd o => exact plain (recycleEnd_validity s o)
  | ejectRetryTimer n => exact plain (ejectRetryTimer_validity s n)
  | serveRetryTimer => exact plain (serveRetryTimer_validity s)
  | scoopDwellEnd n => exact plain (scoopDwellEnd_validity s n)
  | attractHalfCycle => exact plain (attractHalfCycle_validity s)
  | noticeSend => exact plain (noticeSend_validity s)
  | attnRelease => exact plain (attnRelease_validity s)
  | tilt | nudge | lock | lost | released | jammed | drain | launched | start | hit | mode | holdSet | holdClear | tick
  | holdExpiry | rollcallEnd | saveWindowClose | modeExpiry | ballEndLimit | silence | presence | join => exact app _

end FollowsCommands

/-- Settles O55, by the table's form over the station state and the Table Engine (`replicaFollowsState_iff`) and one lemma
for each command. -/
theorem replicaFollowsStateKept : Obligations.ReplicaFollowsStateKept := by
  unfold Obligations.ReplicaFollowsStateKept
  intro s t hs ht
  exact kept_by_step (fun s _ h => SameValidity.follows (s := s) ⟨rfl, rfl⟩ h) exec_follows (fun _ => idle_follows) hs ht

end Sys2Proof.Machine

namespace Sys2Proof.Machine

/-! ### The capacities of the buffers (CapacitiesKept) -/

/-- `t` is within the capacities of its buffers if `s` is. -/
structure KeepsRoom (s t : State) : Prop where
  keeps : WithinCapacity s → WithinCapacity t

namespace KeepsRoom

theorem refl (s : State) : KeepsRoom s s := ⟨id⟩

theorem trans {s t u : State} (h : KeepsRoom s t) (g : KeepsRoom t u) : KeepsRoom s u := ⟨fun hs => g.keeps (h.keeps hs)⟩

theorem ite {s t u : State} {p : Prop} [Decidable p] (h : p → KeepsRoom s t) (g : ¬p → KeepsRoom s u) :
    KeepsRoom s (if p then t else u) := by
  split
  · next hp => exact h hp
  · next hp => exact g hp

theorem foldl {α : Type} {f : State → α → State} (hf : ∀ s a, KeepsRoom s (f s a)) (l : List α) (s : State) :
    KeepsRoom s (l.foldl f s) := by
  induction l generalizing s with
  | nil => exact refl s
  | cons a l ih => exact (hf s a).trans (ih (f s a))

end KeepsRoom

section RoomOfBlocks

variable (s : State)

/-! #### The setters -/

theorem room_setPending (x : List Instr) : KeepsRoom s (s.setPending x) :=
  ⟨fun h => ⟨h.inbound, h.claims, h.events, h.notices, h.history, h.modes, h.requests⟩⟩

theorem room_setCtl (x : Control) : KeepsRoom s (s.setCtl x) :=
  ⟨fun h => ⟨h.inbound, h.claims, h.events, h.notices, h.history, h.modes, h.requests⟩⟩

theorem room_setCfg (x : StationConfig) : KeepsRoom s (s.setCfg x) :=
  ⟨fun h => ⟨h.inbound, h.claims, h.events, h.notices, h.history, h.modes, h.requests⟩⟩

theorem room_setSen (x : SensorUnit) : KeepsRoom s (s.setSen x) :=
  ⟨fun h => ⟨h.inbound, h.claims, h.events, h.notices, h.history, h.modes, h.requests⟩⟩

theorem room_setLamp (x : LampUnit) : KeepsRoom s (s.setLamp x) :=
  ⟨fun h => ⟨h.inbound, h.claims, h.events, h.notices, h.history, h.modes, h.requests⟩⟩

theorem room_passTo (t : Nat) : KeepsRoom s (s.passTo t) :=
  ⟨fun h => ⟨h.inbound, h.claims, h.events, h.notices, h.history, h.modes, h.requests⟩⟩

theorem room_advanceTo (due : Nat) : KeepsRoom s (s.advanceTo due) := room_passTo s _

theorem room_setTable (x : GameTable) (hx : s.table.modes.length ≤ 8 → x.modes.length ≤ 8) : KeepsRoom s (s.setTable x) :=
  ⟨fun h => ⟨h.inbound, h.claims, h.events, h.notices, h.history, hx h.modes, h.requests⟩⟩

theorem room_setEng (x : Engine) (hx : s.eng.history.length ≤ 16 → x.history.length ≤ 16) : KeepsRoom s (s.setEng x) :=
  ⟨fun h => ⟨h.inbound, h.claims, h.events, h.notices, hx h.history, h.modes, h.requests⟩⟩

theorem room_setBus (x : Bus) (hx : s.bus.inbound.length ≤ 4 → x.inbound.length ≤ 4) : KeepsRoom s (s.setBus x) :=
  ⟨fun h => ⟨hx h.inbound, h.claims, h.events, h.notices, h.history, h.modes, h.requests⟩⟩

theorem room_setClaim (x : ClaimUnit) (hx : s.claim.queue.length ≤ 8 → x.queue.length ≤ 8) : KeepsRoom s (s.setClaim x) :=
  ⟨fun h => ⟨h.inbound, hx h.claims, h.events, h.notices, h.history, h.modes, h.requests⟩⟩

theorem room_setSw (x : SwitchUnit) (hx : s.sw.events.length ≤ 16 → x.events.length ≤ 16) : KeepsRoom s (s.setSw x) :=
  ⟨fun h => ⟨h.inbound, h.claims, hx h.events, h.notices, h.history, h.modes, h.requests⟩⟩

theorem room_setDrv (x : DriverUnit)
    (hx : (s.drv.requests.map Request.output).Nodup → (x.requests.map Request.output).Nodup) : KeepsRoom s (s.setDrv x) :=
  ⟨fun h => ⟨h.inbound, h.claims, h.events, h.notices, h.history, h.modes, hx h.requests⟩⟩

theorem room_setRpt (x : ReportPort) (hx : s.rpt.fifo.length ≤ 32 → x.fifo.length ≤ 32) : KeepsRoom s (s.setRpt x) :=
  ⟨fun h => ⟨h.inbound, h.claims, h.events, hx h.notices, h.history, h.modes, h.requests⟩⟩

theorem room_updEng (f : Engine → Engine) (hf : (f s.eng).history = s.eng.history) : KeepsRoom s (s.updEng f) :=
  room_setEng s _ fun h => by rwa [hf]

theorem room_updBus (f : Bus → Bus) (hf : (f s.bus).inbound = s.bus.inbound) : KeepsRoom s (s.updBus f) :=
  room_setBus s _ fun h => by rwa [hf]

theorem room_updSw (f : SwitchUnit → SwitchUnit) (hf : (f s.sw).events = s.sw.events) : KeepsRoom s (s.updSw f) :=
  room_setSw s _ fun h => by rwa [hf]

theorem room_updDrv (f : DriverUnit → DriverUnit) (hf : (f s.drv).requests.Sublist s.drv.requests) :
    KeepsRoom s (s.updDrv f) :=
  room_setDrv s _ fun h => h.sublist (hf.map _)

/-- The Driver Unit is changed, its requests left as they are. -/
theorem room_updDrv_eq (f : DriverUnit → DriverUnit) (hf : (f s.drv).requests = s.drv.requests) :
    KeepsRoom s (s.updDrv f) := room_updDrv s f (by rw [hf])

theorem room_updServe (f : ServeRecord → ServeRecord) : KeepsRoom s (s.updDrv fun d => d.updServe f) :=
  room_updDrv_eq s _ rfl

theorem room_updOutput (o : Output) (f : OutputRecord → OutputRecord) : KeepsRoom s (s.updDrv fun d => d.updOutput o f) :=
  room_updDrv_eq s _ rfl

theorem room_updEject (n : Slot) (f : EjectDuty → EjectDuty) : KeepsRoom s (s.updDrv fun d => d.updEject n f) :=
  room_updDrv_eq s _ rfl

theorem room_setEject (n : Slot) (x : Option EjectDuty) : KeepsRoom s (s.updDrv fun d => d.setEject n x) :=
  room_updDrv_eq s _ rfl

theorem room_updScoop (n : Switch) (f : ScoopDuty → ScoopDuty) : KeepsRoom s (s.updDrv fun d => d.updScoop n f) :=
  room_updDrv_eq s _ rfl

theorem room_setScoop (n : Switch) (x : Option ScoopDuty) : KeepsRoom s (s.updDrv fun d => d.setScoop n x) :=
  room_updDrv_eq s _ rfl

/-! #### Notices and faults -/

theorem room_notify (b : NoticeBody) : KeepsRoom s (s.notify b) := by
  refine room_setRpt s _ fun h => ?_
  unfold ReportPort.create
  split
  · dsimp only
    split
    · next hlt => rw [List.length_append]; exact hlt
    · exact h
  · exact h

theorem room_notifyAll (l : List NoticeBody) : KeepsRoom s (s.notifyAll l) := KeepsRoom.foldl room_notify l s

theorem room_putFaults (x : Byte) : KeepsRoom s (s.putFaults x) :=
  KeepsRoom.ite (fun _ => .refl s) fun _ => (room_setCtl s _).trans (room_notify _ _)

theorem room_setFault (f : StationFault) : KeepsRoom s (s.setFault f) := room_putFaults s _
theorem room_clearFault (f : StationFault) : KeepsRoom s (s.clearFault f) := room_putFaults s _
theorem room_refreshLamps : KeepsRoom s s.refreshLamps := room_setLamp s _

/-! #### The Claim Unit -/

theorem room_setQueue (q : List Claim) (hq : s.claim.queue.length ≤ 8 → q.length ≤ 8) : KeepsRoom s (s.setQueue q) :=
  (room_setClaim s _ hq).trans (room_setDrv _ _ id)

/-- The queue loses some claims. -/
theorem room_filterQueue (p : Claim → Bool) : KeepsRoom s (s.setQueue (s.claim.queue.filter p)) :=
  room_setQueue s _ fun h => (List.length_filter_le _ _).trans h

/-- The claims of the queue are changed one for one. -/
theorem room_mapQueue (f : Claim → Claim) : KeepsRoom s (s.setQueue (s.claim.queue.map f)) :=
  room_setQueue s _ fun h => by rwa [List.length_map]

theorem room_claimLost (p : Payload) (o : Origin) (c : LostCause) : KeepsRoom s (s.claimLost p o c) := room_notify s _

theorem insertClaim_length (c : Claim) (q : List Claim) : (insertClaim c q).length = q.length + 1 := by
  induction q with
  | nil => rfl
  | cons d q ih =>
    unfold insertClaim
    split <;> simp [ih]

theorem room_addClaim (p : Payload) (o : Origin) (hq : s.claim.queue.length < 8) : KeepsRoom s (s.addClaim p o) :=
  (room_setQueue s _ fun _ => by rw [insertClaim_length]; exact hq).trans (room_setClaim _ _ id)

/-- A fold that keeps what it has or takes the element it looks at ends with an element of the list. -/
theorem mem_of_foldl_choice {α : Type} {f : Option α → α → Option α}
    (hf : ∀ best c b, f best c = some b → best = some b ∨ b = c) (l : List α) (best : Option α) {b : α}
    (h : l.foldl f best = some b) : best = some b ∨ b ∈ l := by
  induction l generalizing best with
  | nil => exact .inl h
  | cons c l ih =>
    rcases ih (f best c) h with h1 | h1
    · refine (hf best c b h1).imp_right fun he => ?_
      rw [he]
      exact List.mem_cons_self
    · exact .inr (List.mem_cons_of_mem c h1)

/-- The displaced claim is one of the queue. -/
theorem newestDisplaceable_mem {cls : FrameClass} {q : List Claim} {c : Claim} (h : newestDisplaceable cls q = some c) :
    c ∈ q := by
  refine (mem_of_foldl_choice (fun best d b hb => ?_) q none h).resolve_left nofun
  split at hb
  · split at hb
    · exact .inr (Option.some.inj hb).symm
    · split at hb
      · exact .inr (Option.some.inj hb).symm
      · exact .inl hb
  · exact .inl hb

theorem removeClaim_length_lt {c : Claim} {q : List Claim} (h : c ∈ q) : (removeClaim c q).length < q.length := by
  unfold removeClaim
  refine lt_of_le_of_ne (List.length_filter_le _ _) fun he => ?_
  have := List.length_filter_eq_length_iff.1 he c h
  simp at this

theorem room_enterClaim (p : Payload) (o : Origin) : KeepsRoom s (s.enterClaim p o) := by
  unfold State.enterClaim
  refine KeepsRoom.ite (fun h => room_addClaim s p o h) fun _ => ?_
  split
  · next c hc =>
    refine ⟨fun hs => ?_⟩
    have hlt := removeClaim_length_lt (newestDisplaceable_mem hc)
    have h1 := (room_filterQueue s _).trans (room_claimLost (s.setQueue (removeClaim c s.claim.queue)) c.payload c.origin .displaced)
    refine (h1.trans (room_addClaim _ p o ?_)).keeps hs
    show (removeClaim c s.claim.queue).length < 8
    exact lt_of_lt_of_le hlt hs.claims
  · exact room_claimLost s p o _

theorem room_build (p : Payload) (o : Origin) : KeepsRoom s (s.build p o) :=
  KeepsRoom.ite (fun _ => room_enterClaim s p o) fun _ => .refl s

theorem room_launchHead : KeepsRoom s s.launchHead := by
  unfold State.launchHead
  split
  · exact room_mapQueue s _
  · exact .refl s

theorem room_reported (f : Claim → State) (hf : ∀ c, KeepsRoom s (f c)) : KeepsRoom s (s.reported f) := by
  unfold State.reported
  split
  · exact .refl s
  · exact KeepsRoom.ite (fun _ => room_filterQueue s _) fun _ => hf _

theorem room_reportReturned : KeepsRoom s s.reportReturned := room_reported s _ fun _ => room_mapQueue s _

theorem room_reportAccepted : KeepsRoom s s.reportAccepted :=
  room_reported s _ fun _ => (room_mapQueue s _).trans (room_setClaim _ _ id)

theorem room_reportVetoed : KeepsRoom s s.reportVetoed :=
  room_reported s _ fun _ =>
    KeepsRoom.ite (fun _ => room_mapQueue s _) fun _ => (room_filterQueue s _).trans (room_claimLost _ _ _ _)

theorem room_reportEnd (tx acc : Bool) : KeepsRoom s (s.reportEnd tx acc) :=
  KeepsRoom.ite (fun _ => KeepsRoom.ite (fun _ => room_reportAccepted s) fun _ => room_reportVetoed s) fun _ => .refl s

theorem room_discardWaiting : KeepsRoom s s.discardWaiting := room_filterQueue s _

theorem room_flushClaims : KeepsRoom s s.flushClaims :=
  room_setQueue s _ fun h => by rw [List.length_map]; exact (List.length_filter_le _ _).trans h

theorem room_removeAccepted : KeepsRoom s s.removeAccepted := room_filterQueue s _
theorem room_setTickTimer (t : TickTimer) : KeepsRoom s (s.setTickTimer t) := room_setClaim s _ id
theorem room_setPresence (n : Nat) : KeepsRoom s (s.setPresence n) := room_setClaim s _ id

theorem room_judgeTickTimer : KeepsRoom s s.judgeTickTimer :=
  KeepsRoom.ite (fun _ => KeepsRoom.ite (fun _ => room_setTickTimer s _) fun _ => .refl s) fun _ => room_setTickTimer s _

theorem room_restartTickTimer : KeepsRoom s s.restartTickTimer :=
  KeepsRoom.ite (fun _ => room_setTickTimer s _) fun _ => room_setTickTimer s _

theorem room_buildTick : KeepsRoom s s.buildTick := KeepsRoom.ite (fun _ => room_build s _ _) fun _ => .refl s

theorem room_buildPresence : KeepsRoom s s.buildPresence := by
  unfold State.buildPresence
  split
  · exact KeepsRoom.ite (fun _ => room_build s _ _) fun _ => .refl s
  · exact .refl s

theorem room_setLatch (n : Slot) (b : Bool) : KeepsRoom s (s.setLatch n b) := room_setClaim s _ id
theorem room_requestBounce (n : Slot) : KeepsRoom s (s.requestBounce n) := room_setDrv s _ id
theorem room_withdrawLock (n : Slot) : KeepsRoom s (s.withdrawLock n) := room_filterQueue s _

theorem room_reconcilePresent (n : Slot) : KeepsRoom s (s.reconcilePresent n) :=
  KeepsRoom.ite (fun _ => KeepsRoom.ite (fun _ => room_requestBounce s n) fun _ =>
    KeepsRoom.ite (fun _ => .refl s) fun _ => room_build s _ _) fun _ => .refl s

theorem room_reconcileAbsent (n : Slot) : KeepsRoom s (s.reconcileAbsent n) :=
  (KeepsRoom.ite (fun _ => room_withdrawLock s n) fun _ => KeepsRoom.ite (fun _ => room_build s _ _) fun _ =>
    KeepsRoom.ite (fun _ => room_build s _ _) fun _ => .refl s).trans (room_setLatch _ n false)

theorem room_reconcile (n : Slot) : KeepsRoom s (s.reconcile n) := by
  refine KeepsRoom.ite (fun _ => ?_) fun _ => .refl s
  split
  · exact room_reconcilePresent s n
  · exact room_reconcileAbsent s n
  all_goals exact .refl s

theorem room_claimDelivery (n : Slot) (st : ChannelState) : KeepsRoom s (s.claimDelivery n st) :=
  (KeepsRoom.ite (fun _ => room_setLatch s n false) fun _ => .refl s).trans (room_reconcile _ n)

theorem room_requestJammed (n : Slot) : KeepsRoom s (s.requestJammed n) :=
  KeepsRoom.ite (fun _ => .refl s) fun _ => room_build s _ _

theorem room_latchRefused (p : Payload) (o : AppOutcome) : KeepsRoom s (s.latchRefused p o) := by
  unfold State.latchRefused
  split
  · exact room_setLatch s _ _
  · exact .refl s

theorem room_removeClaim (c : Claim) : KeepsRoom s (s.setQueue (removeClaim c s.claim.queue)) := room_filterQueue s _

theorem room_takeOwnClaim (f : Frame) (o : AppOutcome) : KeepsRoom s (s.takeOwnClaim f o) := by
  refine KeepsRoom.ite (fun _ => ?_) fun _ => .refl s
  split
  · exact (room_removeClaim s _).trans (room_latchRefused _ _ _)
  · exact .refl s

theorem room_ticksAfter (f : Frame) (o : AppOutcome) : KeepsRoom s (s.ticksAfter f o) := by
  unfold State.ticksAfter
  split
  · exact (room_filterQueue s _).trans (room_restartTickTimer _)
  · exact room_judgeTickTimer s

theorem room_presenceAfter (f : Frame) (o : AppOutcome) : KeepsRoom s (s.presenceAfter f o) :=
  KeepsRoom.ite (fun _ => KeepsRoom.ite (fun _ => room_setPresence s _) fun _ =>
    KeepsRoom.ite (fun _ => room_setPresence s _) fun _ => .refl s) fun _ => .refl s

theorem room_claimHandOff (f : Frame) (o : AppOutcome) (began : Bool) : KeepsRoom s (s.claimHandOff f o began) := by
  have h6 := (((room_takeOwnClaim s f o).trans (room_ticksAfter _ f o)).trans (room_presenceAfter _ f o)).trans
    (KeepsRoom.foldl room_reconcile (indices 8) _)
  exact ((h6.trans (KeepsRoom.ite (fun _ => room_build _ _ _) fun _ => .refl _)).trans (room_buildTick _)).trans
    (room_buildPresence _)

/-! #### The Driver Unit -/

theorem room_leaveRecycle (o : Output) : KeepsRoom s (s.leaveRecycle o) := room_updDrv_eq s _ rfl

theorem room_enterRecycle (o : Output) : KeepsRoom s (s.enterRecycle o) :=
  KeepsRoom.ite (fun _ => room_leaveRecycle s o) fun _ => room_updOutput s o _

theorem room_closeAttempt (o : Output) : KeepsRoom s (s.closeAttempt o) :=
  KeepsRoom.ite (fun _ => room_enterRecycle s o) fun _ => room_updOutput s o _

theorem room_dropRequest (id : DutyId) : KeepsRoom s (s.updDrv fun d => d.dropRequest id) :=
  room_updDrv s _ List.filter_sublist

theorem room_endDuty (id : DutyId) : KeepsRoom s (s.endDuty id) :=
  (room_dropRequest s id).trans
    (KeepsRoom.foldl (fun t o => KeepsRoom.ite (fun _ => room_closeAttempt t o) fun _ => .refl t) _ _)

theorem room_jammedAfter (n : Slot) : KeepsRoom s (s.jammedAfter n) := by
  unfold State.jammedAfter
  split
  · exact KeepsRoom.ite (fun _ => room_requestJammed s n) fun _ => .refl s
  · exact .refl s

theorem room_failEject (n : Slot) : KeepsRoom s (s.failEject n) := (room_updEject s n _).trans (room_jammedAfter _ n)
theorem room_succeedEject (n : Slot) : KeepsRoom s (s.succeedEject n) := room_updEject s n _

theorem room_failServe : KeepsRoom s s.failServe :=
  KeepsRoom.ite (fun _ => room_updServe s _) fun _ => (room_updServe s _).trans (room_setFault _ _)

theorem room_settleBounce (n : Slot) : KeepsRoom s (s.settleBounce n) :=
  KeepsRoom.ite (fun _ => .refl s) fun _ => room_updDrv_eq s _ rfl

theorem room_settleEject (n : Slot) : KeepsRoom s (s.settleEject n) := by
  have h0 := room_settleBounce s n
  unfold State.settleEject
  exact KeepsRoom.ite (fun _ => h0) fun _ =>
    (KeepsRoom.ite (fun _ => h0.trans (room_endDuty _ _)) fun _ => h0).trans (room_setEject _ n _)

theorem room_tendEject (n : Slot) : KeepsRoom s (s.tendEject n) := by
  have h0 := KeepsRoom.ite (p := s.boundState n = some .present) (fun _ => .refl s)
    fun _ => room_dropRequest s (.eject n)
  unfold State.tendEject
  split
  · dsimp only
    split
    · exact h0.trans (room_updEject _ n _)
    · exact KeepsRoom.ite (fun _ => h0.trans (room_updEject _ n _)) fun _ => h0
  · exact .refl s

/-- R164: a request is entered where none waits for its output. -/
theorem nodup_enterRequest {d : DriverUnit} {c : StationConfig} {o : Output} (id : DutyId)
    (hc : d.canRequest c o = true) (h : (d.requests.map Request.output).Nodup) :
    ((d.enterRequest o id).requests.map Request.output).Nodup := by
  unfold DriverUnit.canRequest at hc
  simp only [Bool.and_eq_true, Bool.not_eq_true'] at hc
  have hr : d.requested o = false := hc.1.1.2
  unfold DriverUnit.requested at hr
  rw [List.any_eq_false] at hr
  show ((d.requests ++ [({ output := o, duty := id } : Request)]).map Request.output).Nodup
  rw [List.map_append, List.map_singleton]
  refine h.append (List.nodup_singleton o) (List.disjoint_singleton.2 fun hm => ?_)
  obtain ⟨r, hr', he⟩ := List.mem_map.1 hm
  exact hr r hr' (by simp [he])

theorem room_askEject (n : Slot) : KeepsRoom s (s.askEject n) := by
  unfold State.askEject
  split
  · exact KeepsRoom.ite (fun h => room_setDrv s _ (nodup_enterRequest _ h.2.2.2.2)) fun _ => .refl s
  · exact .refl s

theorem room_settleServe : KeepsRoom s s.settleServe := by
  have h1 := KeepsRoom.ite (p := (s.isValid && s.table.isTrough s.ctl.station) = true) (fun _ => .refl s)
    fun _ => room_updServe s fun v => { v with launches := 0 }
  unfold State.settleServe
  refine KeepsRoom.ite (fun _ => ?_) fun _ => KeepsRoom.ite (fun _ => ?_) fun _ => h1
  · have h2 := h1.trans (room_updServe _ fun v => { v with holds := true })
    exact KeepsRoom.ite (fun _ => h2.trans (room_setFault _ _)) fun _ => h2
  · have h2 := (h1.trans (room_endDuty _ .serve)).trans (room_updServe _ fun v =>
      { v with holds := false, failed := 0, retryDue := none, retryReady := false, await := false })
    exact KeepsRoom.ite (fun _ => h2.trans (room_clearFault _ _)) fun _ => h2

theorem room_askServe : KeepsRoom s s.askServe := by
  unfold State.askServe
  split
  · exact .refl s
  · exact KeepsRoom.ite (fun h => room_setDrv s _ (nodup_enterRequest _ h.2.2.2.2.2.2)) fun _ => .refl s

theorem room_askScoop (n : Switch) : KeepsRoom s (s.askScoop n) := by
  unfold State.askScoop
  split
  · exact KeepsRoom.ite (fun h => room_setDrv s _ (nodup_enterRequest _ h.2)) fun _ => .refl s
  · exact .refl s

/-- R165: the arbiter's walk leaves some of the requests, in their order. -/
theorem walk_requests_sublist (c : StationConfig) (now : Nat) (rest kept : List Request) (d : DriverUnit) :
    (DriverUnit.walk c now kept rest d).requests.Sublist (kept ++ rest) := by
  induction rest generalizing kept d with
  | nil => simp [DriverUnit.walk]
  | cons r rest ih =>
    unfold DriverUnit.walk
    split
    · exact (ih kept _).trans ((List.sublist_cons_self r rest).append_left kept)
    · have h := ih (kept ++ [r]) d
      rwa [List.append_assoc] at h

theorem room_arbiter : KeepsRoom s s.arbiter :=
  room_setDrv s _ fun h => h.sublist ((walk_requests_sublist _ _ _ _ _).map _)

theorem room_deriveDuties : KeepsRoom s s.deriveDuties := by
  unfold State.deriveDuties
  have h1 := (KeepsRoom.foldl room_settleEject (indices 8) s).trans (room_settleServe _)
  have h2 := h1.trans (KeepsRoom.foldl room_tendEject (indices 8) _)
  have h3 := (h2.trans (KeepsRoom.foldl room_askEject (indices 8) _)).trans (room_askServe _)
  exact (h3.trans (KeepsRoom.foldl room_askScoop (indices 32) _)).trans (room_arbiter _)

variable {s} in
theorem room_derived {t : State} (h : KeepsRoom s t) : KeepsRoom s (t.deriveDuties).refreshLamps :=
  (h.trans (room_deriveDuties t)).trans (room_refreshLamps _)

theorem room_scoopHandOn (n : Switch) (o : Output) (dwell : Nat) : KeepsRoom s (s.scoopHandOn n o dwell) :=
  ((room_endDuty s _).trans (room_setScoop _ n _)).trans (room_deriveDuties _)

theorem room_scoopEmptied (n : Switch) : KeepsRoom s (s.scoopEmptied n) :=
  ((room_endDuty s _).trans (room_setScoop _ n _)).trans (room_deriveDuties _)

theorem room_cancelScoop (n : Switch) : KeepsRoom s (s.cancelScoop n) := by
  unfold State.cancelScoop
  split
  · exact KeepsRoom.ite (fun _ => (room_endDuty s _).trans (room_setScoop _ n _)) fun _ => .refl s
  · exact .refl s

theorem room_cancelScoops : KeepsRoom s s.cancelScoops := KeepsRoom.foldl room_cancelScoop _ s

theorem room_confirmServe : KeepsRoom s s.confirmServe :=
  KeepsRoom.foldl (fun t o => KeepsRoom.ite (fun _ => room_closeAttempt t o) fun _ => .refl t) _ s

theorem room_launchHandOn (entered : Bool) : KeepsRoom s (s.launchHandOn entered) := by
  have h1 := (room_updServe s fun v =>
    { v with
      launches := if entered then min 8 (v.launches + 1) else v.launches
      failed := 0, retryDue := none, retryReady := false }).trans (room_confirmServe _)
  unfold State.launchHandOn
  exact (KeepsRoom.ite (fun _ => h1) fun _ => h1.trans (room_clearFault _ _)).trans (room_deriveDuties _)

theorem room_ejectDelivery (n : Slot) (st : ChannelState) : KeepsRoom s (s.ejectDelivery n st) := by
  refine KeepsRoom.foldl (fun t o => KeepsRoom.ite (fun _ => ?_) fun _ => .refl t) _ s
  split
  · exact (room_succeedEject t n).trans (room_closeAttempt _ o)
  · exact (room_failEject t n).trans (room_closeAttempt _ o)
  all_goals exact .refl t

theorem room_driverDelivery (n : Slot) (st : ChannelState) : KeepsRoom s (s.driverDelivery n st) :=
  (room_ejectDelivery s n st).trans (room_deriveDuties _)

end RoomOfBlocks

end Sys2Proof.Machine

namespace Sys2Proof.Machine

section RoomOfCommands

variable (s : State)

/-! #### Moves, validity and losses -/

theorem room_startSync : KeepsRoom s s.startSync := room_updEng s _ rfl
theorem room_stopSync : KeepsRoom s s.stopSync := room_updEng s _ rfl
theorem room_restartSync : KeepsRoom s s.restartSync := KeepsRoom.ite (fun _ => .refl s) fun _ => room_startSync s

theorem room_moveStation (st : StationState) : KeepsRoom s (s.moveStation st) := by
  unfold State.moveStation
  refine KeepsRoom.ite (fun _ => .refl s) fun _ => ?_
  have h1 : KeepsRoom s (if s.ctl.state = .member then s.flushClaims.setPresence 0 else s) :=
    KeepsRoom.ite (fun _ => (room_flushClaims s).trans (room_setPresence _ 0)) fun _ => .refl s
  have h2 := KeepsRoom.ite (p := st = .member) (fun _ => h1.trans (room_setPresence _ 0)) fun _ => h1
  have h3 := h2.trans (room_setCtl _ { (if st = .member then
    (if s.ctl.state = .member then s.flushClaims.setPresence 0 else s).setPresence 0
    else if s.ctl.state = .member then s.flushClaims.setPresence 0 else s).ctl with state := st })
  exact (KeepsRoom.ite (fun _ => h3.trans (room_startSync _)) fun _ =>
    KeepsRoom.ite (fun _ => h3.trans (room_stopSync _)) fun _ => h3).trans (room_judgeTickTimer _)

theorem room_changeStation (st : StationState) : KeepsRoom s (s.changeStation st) :=
  KeepsRoom.ite (fun _ => .refl s) fun _ => room_derived (room_moveStation s st)

theorem room_validated : KeepsRoom s s.validated := by
  have h := (room_updEng s (fun e => { e with replica := .valid }) rfl).trans (room_clearFault _ .diverged)
  exact KeepsRoom.ite (fun _ => h.trans (room_moveStation _ _)) fun _ => h

theorem room_invalidate : KeepsRoom s s.invalidate := by
  have h1 : KeepsRoom s (s.updEng fun e => { e with replica := .unknown, history := [], tally := 0, loss := none }) :=
    room_setEng s _ fun _ => Nat.zero_le _
  have h2 := h1.trans (room_setBus _ { s.bus with inbound := [] } fun _ => Nat.zero_le _)
  exact ((h2.trans (room_flushClaims _)).trans (room_removeAccepted _)).trans (room_judgeTickTimer _)

theorem room_performLoss : KeepsRoom s s.performLoss := by
  have h := room_invalidate s
  exact room_derived (KeepsRoom.ite (fun _ => h) fun _ => h.trans (room_moveStation _ _))

theorem room_causeLoss (c : LossCause) : KeepsRoom s (s.causeLoss c) :=
  KeepsRoom.ite (fun _ => room_updEng s _ rfl) fun _ => room_performLoss s

theorem room_takeLoss (d : Bool) : KeepsRoom s (s.takeLoss d) :=
  KeepsRoom.ite (fun _ => (room_setFault s _).trans (room_performLoss _)) fun _ =>
    KeepsRoom.ite (fun _ => room_performLoss s) fun _ => .refl s

theorem room_handOff (f : Frame) (o : AppOutcome) (began : Bool) (before : GameTable) :
    KeepsRoom s (s.handOff f o began before) := by
  have h := (room_moveStation s s.stateAfter).trans (room_claimHandOff _ f o began)
  exact room_derived (KeepsRoom.ite (fun _ => h.trans (room_cancelScoops _)) fun _ => h)

end RoomOfCommands

/-! #### The mode table (R11) -/

section ModeTable

/-- The mode table of the work is within its eight entries if that of the first is. -/
structure KeepsModes (v w : Work) : Prop where
  keeps : v.table.modes.length ≤ 8 → w.table.modes.length ≤ 8

namespace KeepsModes

theorem refl (w : Work) : KeepsModes w w := ⟨id⟩

theorem trans {u v w : Work} (h : KeepsModes u v) (g : KeepsModes v w) : KeepsModes u w := ⟨fun hu => g.keeps (h.keeps hu)⟩

theorem of_eq {v w : Work} (h : w.table.modes = v.table.modes) : KeepsModes v w := ⟨fun hv => by rwa [h]⟩

/-- What came before left the mode table as it was. -/
theorem after {u v w : Work} (g : KeepsModes v w) (h : v.table.modes = u.table.modes) : KeepsModes u w := (of_eq h).trans g

theorem ite {u v w : Work} {p : Prop} [Decidable p] (h : KeepsModes u v) (g : KeepsModes u w) :
    KeepsModes u (if p then v else w) := by
  split <;> assumption

theorem foldl {α : Type} {f : Work → α → Work} (hf : ∀ w a, KeepsModes w (f w a)) (l : List α) (w : Work) :
    KeepsModes w (l.foldl f w) := by
  induction l generalizing w with
  | nil => exact refl w
  | cons a l ih => exact (hf w a).trans (ih _)

end KeepsModes

variable (w : Work)

theorem modes_mapModes (f : ModeEntry → ModeStep) : KeepsModes w (w.mapModes f) := by
  refine ⟨fun h => ?_⟩
  rw [mapModes_table, List.length_map]
  exact (List.length_filter_le _ _).trans (by rwa [List.length_map])

theorem modes_mapSlots (g : Slot → SlotRecord → SlotRecord) : KeepsModes w (w.mapSlots g) := .of_eq rfl
theorem modes_note (n : NoticeBody) : KeepsModes w (w.note n) := .of_eq rfl
theorem modes_updPlayer (f : Player → Player) : KeepsModes w (w.updPlayer f) := .of_eq rfl
theorem modes_refuse (f : Frame) (r : Reason) : KeepsModes w (w.refuse f r).1 := .of_eq rfl

theorem modes_gameOver : KeepsModes w w.gameOver := by
  have h := modes_mapModes (w.upd fun t => { t with phase := .attract }) fun e => .remove e .ended
  exact ⟨fun hw => h.keeps hw⟩

theorem modes_nextBall : KeepsModes w w.nextBall :=
  (modes_mapModes _ _).after rfl

theorem modes_completeBallEnd : KeepsModes w w.completeBallEnd :=
  KeepsModes.ite ((modes_gameOver _).after rfl) ((modes_nextBall _).after rfl)

theorem modes_completionCheck : KeepsModes w w.completionCheck := KeepsModes.ite (modes_completeBallEnd w) (.refl w)

theorem modes_enterBallEnd : KeepsModes w w.enterBallEnd := by
  have h := (modes_mapModes (((w.upd fun t => { t with phase := .ballEnd }).notePhase).mapSlots fun _ r => ballEndSlot r)
    (ballEndModeStep (((w.upd fun t => { t with phase := .ballEnd }).notePhase).mapSlots fun _ r => ballEndSlot r).table))
  exact ⟨fun hw => h.keeps hw⟩

theorem modes_ballEndEntryCheck : KeepsModes w w.ballEndEntryCheck := KeepsModes.ite (modes_enterBallEnd w) (.refl w)

theorem modes_tiltEffects : KeepsModes w w.tiltEffects := by
  have h := modes_mapModes (w.upd fun t => { t with tilted := true }) fun e =>
    if (w.upd fun t => { t with tilted := true }).table.activeOfCurrent e then .remove e .aborted else .keep e
  exact ⟨fun hw => h.keeps hw⟩

theorem modes_silenceCheck : KeepsModes w w.silenceCheck :=
  KeepsModes.ite ⟨fun _ => (modes_gameOver _).keeps ((modes_mapModes w.silenceEntries fun e => .remove e .aborted).keeps ‹_›)⟩
    (.of_eq rfl)

theorem modes_silenceStage : KeepsModes w w.silenceStage := KeepsModes.ite (.refl w) (modes_silenceCheck w)

theorem modes_lockEffects (n : Slot) (k : Station) : KeepsModes w (w.lockEffects n k) :=
  KeepsModes.ite (.of_eq rfl) (KeepsModes.ite (.of_eq rfl) (.of_eq rfl))

theorem modes_memberBecomes (k : Station) (st : MemberState) : KeepsModes w (w.memberBecomes k st) := .of_eq rfl

theorem modes_clearOccupied (k : Station) (w : Work) (n : Slot) : KeepsModes w (w.clearOccupied k n) :=
  KeepsModes.ite (.of_eq rfl) (.of_eq rfl)

theorem modes_admission (k : Station) (declared occupied : Byte) : KeepsModes w (w.admission k declared occupied) :=
  (KeepsModes.foldl (modes_clearOccupied k) _ _).after rfl

theorem modes_judgeJoin (k : Station) (d : Word16) (dec occ roles : Byte) :
    KeepsModes w (w.judgeJoin k d dec occ roles) := by
  unfold Work.judgeJoin
  exact KeepsModes.ite ((modes_memberBecomes _ _ _).after rfl)
    (KeepsModes.ite ((modes_memberBecomes _ _ _).after rfl) ((modes_admission _ _ _ _).after rfl))

/-- R97: stage 3 of a HIT leaves at most the entries it finds. -/
theorem goalHits_length (m : Nat) (tag : Byte) (l kept : List ModeEntry) :
    (goalHits m tag kept l w).table.modes.length ≤ kept.length + l.length := by
  induction l generalizing kept w with
  | nil => exact le_refl _
  | cons e l ih =>
    have keep : ∀ (v : Work) (d : ModeEntry),
        (goalHits m tag (kept ++ [d]) l v).table.modes.length ≤ kept.length + (e :: l).length := fun v d => by
      refine (ih v _).trans ?_
      rw [List.length_append, List.length_singleton, List.length_cons]
      omega
    unfold goalHits
    split
    · dsimp only
      split
      · exact (ih _ _).trans (Nat.add_le_add_left (Nat.le_succ _) _)
      · exact keep _ _
    · exact keep _ _

theorem modes_lightLock (flags : Byte) : KeepsModes w (w.lightLock flags) := KeepsModes.ite (.of_eq rfl) (.refl w)

theorem modes_jackpotStage (m : Nat) (flags : Byte) : KeepsModes w (w.jackpotStage m flags) :=
  KeepsModes.ite (.of_eq rfl) (.refl w)

theorem modes_hitEffects (k : Station) (sw : Switch) (base : BitVec 24) (tag flags : Byte) :
    KeepsModes w (w.hitEffects k sw base tag flags) := by
  have h2 : ∀ m (v : Work), KeepsModes v (goalHits m tag [] v.table.modes v) := fun m v =>
    ⟨fun h => (goalHits_length v m tag _ _).trans (by simpa using h)⟩
  unfold Work.hitEffects
  have h4 := (((KeepsModes.of_eq (v := w) (w := w.award (base.toNat * w.table.multiplierOf w.table.modes)) rfl).trans
    (h2 (w.table.multiplierOf w.table.modes) _)).trans (modes_lightLock _ flags)).trans
      (modes_jackpotStage _ (w.table.multiplierOf w.table.modes) flags)
  exact KeepsModes.ite h4 (h4.trans (modes_note _ _))

/-- R75, check 9: a new entry finds the table with room. -/
theorem modeRefusal_none {t : GameTable} {m : ModeId} (h : t.modeRefusal m = none) : t.modes.length < 8 := by
  unfold GameTable.modeRefusal at h
  by_contra hl
  have hl' : Config.modeTableCapacity ≤ t.modes.length := Nat.not_lt.1 hl
  simp only [hl', if_true] at h
  repeat' split at h
  all_goals cases h

theorem modes_modeEffects (m : ModeId) (h : w.table.modes.length < 8) : KeepsModes w (w.modeEffects m) := by
  refine ⟨fun _ => ?_⟩
  have : (w.modeEffects m).table.modes = w.table.modes ++ [w.table.newMode m] := by
    unfold Work.modeEffects
    dsimp only
    rw [note_table]
    split <;> rfl
  rw [this, List.length_append]
  exact h

theorem modes_countdown (k : Station) : KeepsModes w (w.countdown k) := by
  unfold Work.countdown
  split
  · exact .refl w
  · refine KeepsModes.ite ?_ (.of_eq rfl)
    unfold Work.endRollcall
    split
    · exact .of_eq rfl
    · exact (modes_gameOver _).after rfl
  · exact (modes_mapModes _ _).after rfl
  · unfold Work.ballEndCountdown
    exact KeepsModes.ite ((modes_completeBallEnd _).after rfl) (.of_eq rfl)

theorem modes_tickEffects (k : Station) : KeepsModes w (w.tickEffects k) :=
  (((KeepsModes.of_eq (v := w) (w := w.advanceTick.expireHolds) rfl).trans (modes_countdown _ k)).trans
    (modes_silenceStage _)).trans (modes_ballEndEntryCheck _)

theorem modes_jammedStage (f : Frame) (n : Slot) : KeepsModes w (jammedStage f n w).1 := by
  unfold jammedStage
  split
  · split
    · refine KeepsModes.trans ?_ (modes_ballEndEntryCheck _)
      exact KeepsModes.ite (.of_eq rfl) (.of_eq rfl)
    · exact .of_eq rfl
  · exact .of_eq rfl

theorem modes_drainStage (f : Frame) : KeepsModes w (drainStage f w).1 := by
  unfold drainStage
  repeat' split
  · exact .of_eq rfl
  · exact .of_eq rfl
  · dsimp only
    split
    · exact .of_eq rfl
    · exact (modes_ballEndEntryCheck _).after rfl
  · exact .of_eq rfl

/-- R11: no kind's checks and effects bring the mode table past its eight entries. -/
theorem modes_kindChecks (own : Station) (sync : Bool) (f : Frame) : KeepsModes w (kindChecks own sync f w).1 := by
  unfold kindChecks
  split
  · unfold tiltStage
    repeat' split
    · exact modes_refuse _ _ _
    · exact .refl w
    · exact modes_tiltEffects w
  · unfold nudgeStage
    repeat' split
    · exact modes_refuse _ _ _
    · exact .refl w
    · exact (modes_tiltEffects _).after rfl
    · exact .of_eq rfl
  · unfold lockStage
    repeat' split
    · exact modes_refuse _ _ _
    · exact modes_refuse _ _ _
    · exact modes_refuse _ _ _
    · exact modes_refuse _ _ _
    · exact modes_refuse _ _ _
    · exact modes_lockEffects _ _ _
  · unfold lostStage
    split <;> exact .of_eq rfl
  · unfold releasedStage
    split
    · refine .of_eq ?_
      show ((w.setSlot _ _).table.countRelease _).modes = _
      unfold GameTable.countRelease
      split <;> rfl
    · exact .of_eq rfl
  · exact modes_jammedStage w f _
  · exact modes_drainStage w f
  · unfold launchedStage
    repeat' split
    all_goals exact .of_eq rfl
  · unfold startStage addPlayerStage
    split
    · exact ⟨fun _ => Nat.zero_le _⟩
    · repeat' split
      all_goals exact .of_eq rfl
  · unfold hitStage
    repeat' split
    · exact modes_refuse _ _ _
    · exact modes_refuse _ _ _
    · exact modes_hitEffects _ _ _ _ _ _
  · unfold modeStage
    repeat' split
    · exact modes_refuse _ _ _
    · exact modes_refuse _ _ _
    · exact modes_refuse _ _ _
    · next h => exact modes_modeEffects w _ (modeRefusal_none h)
  · split
    · unfold holdClearStage
      split <;> exact .of_eq rfl
    · unfold holdSetStage
      split <;> exact .of_eq rfl
  · unfold tickStage
    split
    · exact modes_tickEffects w _
    · exact .refl w
  · unfold presenceStage
    split <;> exact .of_eq rfl
  · unfold joinStage
    repeat' split
    · exact modes_refuse _ _ _
    · exact modes_judgeJoin _ _ _ _ _ _
    all_goals exact .of_eq rfl

theorem applyFrame_modes (own : Station) (sync : Bool) (f : Frame) (t : GameTable) (h : t.modes.length ≤ 8) :
    (applyFrame own sync f t).1.table.modes.length ≤ 8 := by
  have hg : KeepsModes (Work.begin t f) (gatedStage own sync f (Work.begin t f)).1 := by
    unfold gatedStage
    split
    · exact modes_refuse _ _ _
    · exact modes_kindChecks _ own sync f
  have hk : (kindStage own sync f (Work.begin t f)).1.table.modes.length ≤ 8 :=
    (hg.trans (modes_completionCheck _)).keeps h
  have hr := applyFrame_recomputed own sync f t
  unfold RecomputedFrom at hr
  rw [hr]
  simpa only [List.length_map] using hk

end ModeTable

end Sys2Proof.Machine

namespace Sys2Proof.Machine

section RoomOfApplications

variable (s : State)

/-! #### One application -/

theorem room_validatedIf (sync : Bool) : KeepsRoom s (if sync then s.validated else s) :=
  KeepsRoom.ite (fun _ => room_validated s) fun _ => .refl s

/-- R22: the ring holds at most 16 entries. -/
theorem pushHistory_length {ring : List (Word32 × Word16)} (e : Word32 × Word16) (h : ring.length ≤ 16) :
    (pushHistory ring e).length ≤ 16 := by
  unfold pushHistory
  split
  · next hlt =>
    have : ring.length < 16 := hlt
    rw [List.length_append, List.length_singleton]
    omega
  · next hlt =>
    have : ¬ring.length < 16 := hlt
    rw [List.length_append, List.length_drop, List.length_singleton]
    omega

theorem historyAfter_length (sync : Bool) (f : Frame) (t : GameTable) (h : s.eng.history.length ≤ 16) :
    (s.historyAfter sync f t).length ≤ 16 := by
  unfold State.historyAfter
  refine pushHistory_length _ ?_
  split
  · exact Nat.zero_le _
  · exact h

theorem room_afterStages (f : Frame) : KeepsRoom s (s.afterStages f) :=
  (room_setTable s _ (applyFrame_modes _ _ f s.table)).trans
    (room_setEng _ _ (historyAfter_length s (s.syncStart f) f (applyFrame s.ctl.station (s.syncStart f) f s.table).1.table))

theorem room_completed (f : Frame) : KeepsRoom s (s.completed f) :=
  (((room_afterStages s f).trans (room_notifyAll _ _)).trans (room_validatedIf _ (s.syncStart f))).trans
    (room_handOff _ f _ _ _)

theorem room_application (f : Frame) : KeepsRoom s (s.application f) :=
  KeepsRoom.ite (fun _ => (room_completed s f).trans (room_takeLoss _ _)) fun _ => .refl s

theorem room_taken : KeepsRoom s s.taken := by
  unfold State.taken
  split
  · exact room_updEng s _ rfl
  · exact room_setBus s _ fun h => (List.length_drop ▸ Nat.sub_le _ _ : (s.bus.inbound.drop 1).length ≤ _).trans h

theorem room_applyNext (sort : Frame → Bool) : KeepsRoom s (s.applyNext sort) := by
  unfold State.applyNext
  split
  · exact KeepsRoom.ite (fun _ => (room_taken s).trans (room_application _ _)) fun _ => .refl s
  · exact .refl s

/-! #### The bus -/

theorem room_enterQuiet : KeepsRoom s s.enterQuiet :=
  room_derived (((((room_setFault s .quiet).trans (room_moveStation _ .quiet)).trans (room_flushClaims _)).trans
    (room_updBus _ (fun b => { b with cleanRun := 0 }) rfl)).trans (room_causeLoss _ .quiet))

theorem room_quietCheck (scored : Bool) : KeepsRoom s (s.quietCheck scored) :=
  KeepsRoom.ite (fun _ => room_enterQuiet s) fun _ => .refl s

theorem room_changeOrJudge : KeepsRoom s (if s.ctl.state = .member then s.changeStation .bystander else s.judgeTickTimer) :=
  KeepsRoom.ite (fun _ => room_changeStation s _) fun _ => room_judgeTickTimer s

theorem room_mute : KeepsRoom s s.mute :=
  ((((room_updBus s (fun b => { b with muted := true }) rfl).trans (room_setFault _ .duplicate)).trans
    (room_discardWaiting _)).trans (room_changeOrJudge _)).trans (room_refreshLamps _)

theorem room_endFrame (bits : List Bool) (accepted scored clean missing : Bool) :
    KeepsRoom s (s.endFrame bits accepted scored clean missing) := room_updBus s _ rfl

theorem room_waitOver : KeepsRoom s s.waitOver := room_updBus s _ rfl

/-- R120: a frame is appended where the queue has room. -/
theorem room_appendFrame (f : Frame) (h : s.bus.inbound.length < 4) : KeepsRoom s (s.appendFrame f) := by
  have h1 : KeepsRoom s (s.updBus fun b => { b with inbound := b.inbound ++ [f] }) :=
    room_setBus s _ fun _ => by rw [List.length_append]; exact h
  exact KeepsRoom.ite (fun _ => h1.trans (room_restartSync _)) fun _ => h1

theorem room_deliver (f : Option Frame) (sound overrun : Bool)
    (hc : s.checksFrames = true ∨ overrun = false → s.bus.inbound.length < 4) :
    KeepsRoom s (s.deliver f sound overrun) := by
  unfold State.deliver
  split
  · exact KeepsRoom.ite (fun _ => room_causeLoss s _) fun _ => .refl s
  · refine KeepsRoom.ite (fun h => room_appendFrame s _ (hc (.inl h))) fun _ => ?_
    refine KeepsRoom.ite (fun _ => ?_) fun _ => .refl s
    refine KeepsRoom.ite (fun h => room_appendFrame s _ (hc (.inr h.2))) fun _ => ?_
    exact KeepsRoom.ite (fun _ => room_causeLoss s _) fun _ => .refl s

theorem overrun_eq_false : s.overrun = false ↔ s.bus.inbound.length < 4 := by
  unfold State.overrun
  rw [decide_eq_false_iff_not, Nat.not_le]

theorem Kept.checksFrames {s t : State} (h : Kept s t) : t.checksFrames = s.checksFrames := by
  unfold State.checksFrames
  rw [h.listener, h.state]

/-- R115: a station that checks frames and drives no veto has passed the overrun check. -/
theorem overrun_of_checks {bits : List Bool} (hc : s.checksFrames = true) (hv : s.drivesVeto bits = false) :
    s.overrun = false := by
  unfold State.drivesVeto at hv
  rw [hc] at hv
  simp only [Bool.true_and, Bool.or_eq_false_iff] at hv
  exact hv.2

theorem room_frameEnd (bits : List Bool) (v : Bool) : KeepsRoom s (s.frameEnd bits v) := by
  unfold State.frameEnd
  dsimp only
  generalize ha : (!s.slotDominant bits v) = accepted
  refine KeepsRoom.trans ?_ (room_quietCheck _ _)
  have hk := kept_reportEnd (s.endFrame bits accepted (s.checksFrames && !s.sound bits) (s.sound bits) false)
    s.transmitting accepted
  have h2 := (room_endFrame s bits accepted (s.checksFrames && !s.sound bits) (s.sound bits) false).trans
    (room_reportEnd _ s.transmitting accepted)
  refine KeepsRoom.ite (fun hacc => h2.trans (room_deliver _ _ _ _ ?_)) fun _ => h2
  have hv : s.drivesVeto bits = false := by
    rw [hacc] at ha
    unfold State.slotDominant at ha
    simp only [Bool.not_eq_true', Bool.or_eq_false_iff] at ha
    exact ha.1
  have hin : ((s.endFrame bits accepted (s.checksFrames && !s.sound bits) (s.sound bits) false).reportEnd s.transmitting
      accepted).bus.inbound = s.bus.inbound := by rw [hk.bus]; rfl
  rw [hin]
  rintro (hc | ho)
  · have hchecks : s.checksFrames = true := hk.checksFrames.symm.trans hc
    exact (overrun_eq_false s).1 (overrun_of_checks s hchecks hv)
  · exact (overrun_eq_false s).1 ho

/-! #### The Switch Unit -/

theorem room_appendEvent (n : Switch) (l : Level) : KeepsRoom s (s.appendEvent n l) :=
  KeepsRoom.ite (fun h => room_setSw s _ fun _ => by rw [List.length_append]; exact h) fun _ => room_notify s _

theorem room_setLevel (n : Switch) (l : Level) : KeepsRoom s (s.setLevel n l) := room_updSw s _ rfl
theorem room_setCount (n : Fin 8) (c : Nat) : KeepsRoom s (s.setCount n c) := room_updSw s _ rfl

theorem room_samplePin (pins : Byte) (n : Fin 8) : KeepsRoom s (s.samplePin pins n) :=
  KeepsRoom.ite (fun _ => room_setCount s n _) fun _ => KeepsRoom.ite
    (fun _ => ((room_setLevel s _ _).trans (room_setCount _ n _)).trans (room_appendEvent _ _ _))
    fun _ => room_setCount s n _

theorem room_setScan (x : Scan) : KeepsRoom s (s.setScan x) := room_updSw s _ rfl

theorem room_endPass (attn : Bool) : KeepsRoom s (s.endPass attn) :=
  (room_setScan s .idle).trans (room_updSw _ _ rfl)

theorem room_beginPass (attn : Bool) : KeepsRoom s (s.beginPass attn) := by
  unfold State.beginPass
  have h := (room_updSw s (fun u => { u with refresh := false, attention := false }) rfl).trans
    (room_setScan _ (.pass (s.passCovers s.sw.refresh)))
  exact KeepsRoom.ite (fun _ => h.trans (room_endPass _ attn)) fun _ => h

theorem room_updExpander (e : Expander) (f : ExpanderRecord → ExpanderRecord) : KeepsRoom s (s.updExpander e f) :=
  room_updSw s _ rfl

theorem room_setChange (e : Expander) (i : Fin 8) (due : Option Nat) : KeepsRoom s (s.setChange e i due) :=
  room_updExpander s e _

theorem room_judgeInput (e : Expander) (v : Byte) (i : Fin 8) : KeepsRoom s (s.judgeInput e v i) := by
  unfold State.judgeInput
  refine KeepsRoom.ite (fun _ => room_setChange s e i none) fun _ => ?_
  split
  · exact room_setChange s e i _
  · exact KeepsRoom.ite
      (fun _ => ((room_setLevel s _ _).trans (room_setChange _ e i none)).trans (room_appendEvent _ _ _))
      fun _ => .refl s

theorem room_prime (e : Expander) (v : Byte) : KeepsRoom s (s.prime e v) :=
  (KeepsRoom.foldl (fun t i => room_setLevel t (expanderSwitch e i) (levelOf (v.getLsbD i.val))) _ s).trans
    (room_updExpander _ e _)

theorem room_judgeRead (e : Expander) (v : Byte) : KeepsRoom s (s.judgeRead e v) :=
  (KeepsRoom.ite (fun _ => KeepsRoom.foldl (fun t i => room_judgeInput t e v i) (indices 8) s)
    fun _ => room_prime s e v).trans (room_updExpander _ e _)

theorem room_readSucceeds (e : Expander) (v : Byte) : KeepsRoom s (s.readSucceeds e v) := by
  unfold State.readSucceeds
  have h := (room_updExpander s e fun x => { x with status := .ok }).trans (room_judgeRead _ e v)
  exact KeepsRoom.ite (fun _ => (h.trans (room_clearFault _ _)).trans (room_refreshLamps _)) fun _ => h

theorem room_readEnds (e : Expander) (first retry : Option Byte) : KeepsRoom s (s.readEnds e first retry) := by
  unfold State.readEnds
  split
  · exact room_readSucceeds s e _
  · exact room_readSucceeds s e _
  · exact ((room_updExpander s e _).trans (room_setFault _ _)).trans (room_refreshLamps _)

/-! #### The Sensor Unit and the Driver Unit -/

theorem room_updSen (f : SensorUnit → SensorUnit) : KeepsRoom s (s.updSen f) := room_setSen s _

theorem room_sensorReport (old new : ChannelState) : KeepsRoom s (s.sensorReport old new) :=
  KeepsRoom.ite (fun _ => room_setFault s _) fun _ => KeepsRoom.ite (fun _ => room_clearFault s _) fun _ => .refl s

theorem room_deliverDecision (ch : Channel) (st : ChannelState) : KeepsRoom s (s.deliverDecision ch st) := by
  unfold State.deliverDecision
  split
  · exact (room_claimDelivery s _ st).trans (room_driverDelivery _ _ st)
  · exact room_deriveDuties s

theorem room_measure (ch : Channel) (edges : Nat) : KeepsRoom s (s.measure ch edges) := by
  unfold State.measure
  have h := room_updSen s fun u =>
    { u with channels := vmap (fun k r => if k = ch then s.sen.channels[ch].measured s.cfg.channels[ch] edges else r) u.channels }
  exact KeepsRoom.ite (fun _ => h) fun _ =>
    ((h.trans (room_sensorReport _ _ _)).trans (room_deliverDecision _ _ _)).trans (room_refreshLamps _)

theorem afterUnverified_requests (d : DriverUnit) (id : DutyId) : (d.afterUnverified id).requests = d.requests := by
  cases id <;> rfl

theorem room_pulseEnds (o : Output) : KeepsRoom s (s.pulseEnds o) := by
  unfold State.pulseEnds
  dsimp only
  split
  · exact KeepsRoom.ite (fun _ => room_updOutput s o _) fun _ =>
      (room_updDrv_eq s _ (afterUnverified_requests _ _)).trans (room_enterRecycle _ o)
  · exact room_enterRecycle s o

theorem room_verifyResult (id : DutyId) : KeepsRoom s (s.verifyResult id) := by
  unfold State.verifyResult
  split
  · exact KeepsRoom.ite (fun _ => room_succeedEject s _) fun _ => room_failEject s _
  · exact room_failServe s
  · exact .refl s

theorem room_timedFailure (n : Slot) : KeepsRoom s (s.timedFailure n) :=
  (room_updEject s n _).trans (room_jammedAfter _ n)

theorem room_retryEnds (n : Slot) (disabled : Bool) : KeepsRoom s (s.retryEnds n disabled) := by
  unfold State.retryEnds
  have h := room_updEject s n fun x => { x with retryDue := some (s.now + Config.retryTime) }
  refine KeepsRoom.ite (fun _ => h.trans (room_jammedAfter _ n)) fun _ => ?_
  split
  · exact room_updEject s n _
  · exact h
  all_goals exact h.trans (room_jammedAfter _ n)

/-! #### The switch events -/

theorem room_handOn (r : SwitchRule) (n : Switch) (l : Level) (entered : Bool) : KeepsRoom s (s.handOn r n l entered) := by
  unfold State.handOn
  split
  · exact KeepsRoom.ite (fun _ => room_scoopHandOn s n _ _) fun _ => room_scoopEmptied s n
  · exact KeepsRoom.ite (fun _ => room_launchHandOn s entered) fun _ => .refl s
  all_goals exact .refl s

theorem room_dealEvent (e : SwitchEvent) : KeepsRoom s (s.dealEvent e) := by
  unfold State.dealEvent
  exact ((KeepsRoom.foldl (fun t p => room_build t p _) _ s).trans (room_handOn _ _ _ _ _)).trans (room_refreshLamps _)

end RoomOfApplications

/-! #### The commands -/

section RoomOfSteps

variable (s : State)

theorem deviceReset_room (straps : BitVec 4) (low : Bool) : Answers (KeepsRoom s) (exec (.deviceReset straps low) s) :=
  .next ⟨fun _ => ⟨Nat.zero_le _, Nat.zero_le _, Nat.zero_le _, Nat.zero_le _, Nat.zero_le _, Nat.zero_le _, List.nodup_nil⟩⟩

theorem room_loadImage (image : List Byte) : KeepsRoom s (s.loadImage image) :=
  ⟨fun h => ⟨h.inbound, h.claims, h.events, h.notices, h.history, h.modes, h.requests⟩⟩

theorem room_startUnits : KeepsRoom s s.startUnits :=
  ⟨fun h => ⟨h.inbound, h.claims, Nat.zero_le _, h.notices, h.history, h.modes, List.nodup_nil⟩⟩

theorem room_configured (image : List Byte) : KeepsRoom s (s.configured image) :=
  ((((room_loadImage s image).trans (room_startUnits _)).trans (room_changeStation _ .syncing)).trans
    (KeepsRoom.ite (fun _ => room_setFault _ _) fun _ => .refl _)).trans (room_refreshLamps _)

theorem configurationRead_room (image : List Byte) : Answers (KeepsRoom s) (exec (.configurationRead image) s) :=
  Answers.ite (fun _ => Answers.ite (fun _ => .next ((room_setCtl s _).trans (room_configured _ _)))
    fun _ => .next ((((room_setCtl s _).trans (room_setCtl _ _)).trans (room_setFault _ .config)).trans (room_refreshLamps _)))
    fun _ => .next (.refl s)

theorem busFree_room : Answers (KeepsRoom s) (exec .busFree s) :=
  Answers.ite (fun _ => .next ((room_advanceTo s _).trans (room_updBus _ _ rfl))) fun _ => .next (.refl s)

theorem yieldTimeout_room : Answers (KeepsRoom s) (exec .yieldTimeout s) :=
  Answers.ite (fun _ => .next ((room_advanceTo s _).trans (room_updBus _ _ rfl))) fun _ => .next (.refl s)

theorem contention_room : Answers (KeepsRoom s) (exec .contention s) :=
  Answers.ite (fun _ => .next ((room_launchHead s).trans (room_updBus _ _ rfl))) fun _ => .next (.refl s)

theorem startMark_room : Answers (KeepsRoom s) (exec .startMark s) :=
  Answers.ite (fun _ => .next (room_updBus s _ rfl)) fun _ => .next (.refl s)

theorem arbitrationLost_room : Answers (KeepsRoom s) (exec .arbitrationLost s) :=
  Answers.ite (fun _ => .next ((room_reportReturned s).trans (room_updBus _ _ rfl))) fun _ => .next (.refl s)

theorem lateLoss_room : Answers (KeepsRoom s) (exec .lateLoss s) :=
  Answers.ite (fun _ => .next (((room_reportReturned s).trans (room_updBus _ _ rfl)).trans (room_mute _)))
    fun _ => .next (.refl s)

theorem strayMark_room : Answers (KeepsRoom s) (exec .strayMark s) :=
  Answers.ite (fun _ => .next (room_updBus s _ rfl)) fun _ => .next (.refl s)

theorem endMark_room (bits : List Bool) (v : Bool) : Answers (KeepsRoom s) (exec (.endMark bits v) s) :=
  Answers.ite (fun _ => .next (room_frameEnd s bits v)) fun _ =>
    Answers.ite (fun _ => .next (room_waitOver s)) fun _ => .next (.refl s)

theorem missingEndMark_room (bits : List Bool) : Answers (KeepsRoom s) (exec (.missingEndMark bits) s) :=
  Answers.ite (fun _ => .next (((room_endFrame s _ _ _ _ _).trans (room_reportEnd _ _ _)).trans (room_quietCheck _ _)))
    fun _ => .next (.refl s)

theorem cut_room : Answers (KeepsRoom s) (exec .cut s) :=
  Answers.ite (fun _ => .next
      ((KeepsRoom.ite (fun _ => room_reportReturned s) fun _ => .refl s).trans (room_updBus _ _ rfl)))
    fun _ => Answers.ite (fun _ => .next (room_waitOver s)) fun _ => .next (.refl s)

theorem quietExit_room : Answers (KeepsRoom s) (exec .quietExit s) :=
  Answers.ite (fun _ => .next (((room_updBus s _ rfl).trans (room_clearFault _ _)).trans (room_changeStation _ _)))
    fun _ => .next (.refl s)

theorem stuck_room : Answers (KeepsRoom s) (exec .stuck s) :=
  Answers.ite (fun _ => .next ((((room_updBus s _ rfl).trans (room_updEng _ _ rfl)).trans (room_setFault _ _)).trans
    (room_refreshLamps _))) fun _ => .next (.refl s)

theorem stuckClear_room : Answers (KeepsRoom s) (exec .stuckClear s) :=
  Answers.ite (fun _ => .next ((((room_updBus s _ rfl).trans (room_restartSync _)).trans (room_clearFault _ _)).trans
    (room_refreshLamps _))) fun _ => .next (.refl s)

theorem room_adoptAttract : KeepsRoom s s.adoptAttract :=
  room_derived (((room_setTable s _ fun _ => Nat.zero_le _).trans (room_setEng _ _ fun _ => Nat.zero_le _)).trans
    (room_validated _))

theorem syncSilenceExpiry_room : Answers (KeepsRoom s) (exec .syncSilenceExpiry s) := by
  show Answers _ (execSyncSilenceExpiry s)
  unfold execSyncSilenceExpiry
  split
  · exact .next ((room_advanceTo s _).trans (room_adoptAttract _))
  all_goals exact .next (.refl s)

theorem lossOfValidity_room : Answers (KeepsRoom s) (exec .lossOfValidity s) := by
  show Answers _ (execLossOfValidity s)
  unfold execLossOfValidity
  split
  · exact .next ((room_taken s).trans (room_application _ _))
  · exact .next (room_performLoss s)
  · exact .next (.refl s)

theorem tickTimerExpiry_room : Answers (KeepsRoom s) (exec .tickTimerExpiry s) := by
  show Answers _ (execTickTimerExpiry s)
  unfold execTickTimerExpiry
  split
  · exact .next ((room_advanceTo s _).trans (room_setTickTimer _ _))
  all_goals exact .next (.refl s)

theorem tickClaimBuild_room : Answers (KeepsRoom s) (exec .tickClaimBuild s) := .next (room_buildTick s)
theorem presenceClaimBuild_room : Answers (KeepsRoom s) (exec .presenceClaimBuild s) := .next (room_buildPresence s)

theorem switchEventTake_room : Answers (KeepsRoom s) (exec .switchEventTake s) := by
  show Answers _ (execSwitchEventTake s)
  unfold execSwitchEventTake
  split
  · next e rest he =>
    have hrest : rest.length ≤ s.sw.events.length := by simp [he]
    exact Answers.ite
      (fun _ => .next ((room_setSw s { s.sw with events := rest } hrest.trans).trans (room_dealEvent _ e)))
      fun _ => .next (.refl s)
  · exact .next (.refl s)

theorem switchSample_room (pins : Byte) : Answers (KeepsRoom s) (exec (.switchSample pins) s) := by
  have h := (room_advanceTo s s.sw.sampleDue).trans
    (room_updSw _ (fun u => { u with sampleDue := u.sampleDue + Config.samplePeriod }) rfl)
  exact Answers.ite (fun _ => Answers.ite
      (fun _ => .next (h.trans (KeepsRoom.foldl (fun t n => room_samplePin t pins n) _ _)))
      fun _ => .next (h.trans (room_updSw _ _ rfl)))
    fun _ => .next (.refl s)

theorem attnTake_room : Answers (KeepsRoom s) (exec .attnTake s) :=
  Answers.ite (fun _ => .next (room_updSw s _ rfl)) fun _ => .next (.refl s)

theorem attnRelease_room : Answers (KeepsRoom s) (exec .attnRelease s) :=
  Answers.ite (fun _ => .next (room_updSw s _ rfl)) fun _ => .next (.refl s)

theorem refreshTimer_room : Answers (KeepsRoom s) (exec .refreshTimer s) :=
  Answers.ite (fun _ => .next ((room_advanceTo s _).trans (room_updSw _ _ rfl))) fun _ => .next (.refl s)

theorem pendingChangeDue_room (e : Expander) (i : Fin 8) : Answers (KeepsRoom s) (exec (.pendingChangeDue e i) s) := by
  show Answers _ (execPendingChangeDue e i s)
  unfold execPendingChangeDue
  split
  · exact .next ((room_advanceTo s _).trans (room_updExpander _ e _))
  · exact .next (.refl s)

theorem scannerWork_room (attn : Bool) : Answers (KeepsRoom s) (exec (.scannerWork attn) s) := by
  refine Answers.ite (fun _ => ?_) fun _ => .next (.refl s)
  split
  · exact .next (room_setScan s _)
  · exact Answers.ite (fun _ => .next (room_beginPass s attn)) fun _ => .next (.refl s)

theorem expanderRead_room (first retry : Option Byte) (attn : Bool) :
    Answers (KeepsRoom s) (exec (.expanderRead first retry attn) s) := by
  show Answers _ (execExpanderRead first retry attn s)
  unfold execExpanderRead
  split
  · exact .next (.refl s)
  · exact .next ((room_readEnds s _ first retry).trans (room_setScan _ _))
  · exact .next (room_endPass s attn)
  · next e rest _ =>
    have h := room_readEnds s e first retry
    exact Answers.ite (fun _ => .next (h.trans (room_endPass _ attn))) fun _ => .next (h.trans (room_setScan _ _))

theorem sweepDue_room : Answers (KeepsRoom s) (exec .sweepDue s) :=
  Answers.ite (fun _ => Answers.ite
      (fun _ => .next (((room_advanceTo s _).trans (room_updSen _ _)).trans (room_updSen _ _)))
      fun _ => .next ((room_advanceTo s _).trans (room_updSen _ _)))
    fun _ => .next (.refl s)

theorem measurementEnd_room (edges : Nat) : Answers (KeepsRoom s) (exec (.measurementEnd edges) s) := by
  show Answers _ (execMeasurementEnd edges s)
  unfold execMeasurementEnd
  split
  · exact .next (.refl s)
  · exact .next (((room_advanceTo s _).trans (room_updSen _ _)).trans (room_measure _ _ edges))

theorem pulseEnd_room (o : Output) : Answers (KeepsRoom s) (exec (.pulseEnd o) s) :=
  Answers.ite (fun _ => .next (room_derived ((room_advanceTo s _).trans (room_pulseEnds _ o)))) fun _ => .next (.refl s)

theorem verifyTimeout_room (o : Output) : Answers (KeepsRoom s) (exec (.verifyTimeout o) s) := by
  refine Answers.ite (fun _ => .next (room_derived (KeepsRoom.trans ?_ (room_enterRecycle _ o)))) fun _ => .next (.refl s)
  refine (room_advanceTo s s.drv.outputs[o].due).trans ?_
  split
  · exact room_verifyResult _ _
  · exact .refl _

theorem recycleEnd_room (o : Output) : Answers (KeepsRoom s) (exec (.recycleEnd o) s) :=
  Answers.ite (fun _ => .next (room_derived ((room_advanceTo s _).trans (room_leaveRecycle _ o)))) fun _ => .next (.refl s)

theorem ejectRetryTimer_room (n : Slot) : Answers (KeepsRoom s) (exec (.ejectRetryTimer n) s) := by
  show Answers _ (execEjectRetryTimer n s)
  unfold execEjectRetryTimer
  split
  · split
    · next due _ =>
      refine .next (room_derived ((room_advanceTo s due).trans ?_))
      split
      · exact room_timedFailure _ n
      · exact room_retryEnds _ n _
    · exact .next (.refl s)
  · exact .next (.refl s)

theorem serveRetryTimer_room : Answers (KeepsRoom s) (exec .serveRetryTimer s) := by
  show Answers _ (execServeRetryTimer s)
  unfold execServeRetryTimer
  split
  · exact .next (room_derived ((room_advanceTo s _).trans (room_updServe _ _)))
  · exact .next (.refl s)

theorem scoopDwellEnd_room (n : Switch) : Answers (KeepsRoom s) (exec (.scoopDwellEnd n) s) := by
  show Answers _ (execScoopDwellEnd n s)
  unfold execScoopDwellEnd
  split
  · split
    · exact .next (room_derived ((room_advanceTo s _).trans (room_updScoop _ n _)))
    · exact .next (.refl s)
  · exact .next (.refl s)

theorem attractHalfCycle_room : Answers (KeepsRoom s) (exec .attractHalfCycle s) :=
  Answers.ite (fun _ => .next (((room_advanceTo s _).trans (room_setLamp _ _)).trans (room_refreshLamps _)))
    fun _ => .next (.refl s)

theorem noticeSend_room : Answers (KeepsRoom s) (exec .noticeSend s) := by
  show Answers _ (execNoticeSend s)
  unfold execNoticeSend
  split
  · next n rest hf =>
    have hrest : rest.length ≤ s.rpt.fifo.length := by simp [hf]
    exact .next ((room_advanceTo s _).trans (room_setRpt _ _ hrest.trans))
  · exact .next (.refl s)

theorem room_takeInFlight : KeepsRoom s s.takeInFlight := by
  unfold State.takeInFlight
  split
  · next f rest hb =>
    have hrest : rest.length ≤ s.bus.inbound.length := by simp [hb]
    exact KeepsRoom.ite (fun _ => (room_setBus s _ hrest.trans).trans (room_setEng _ _ id)) fun _ => .refl s
  · exact .refl s

theorem room_idle : KeepsRoom s s.idle := (room_passTo s _).trans (room_takeInFlight _)

/-- R11, R22, R120, R128, R152, R164, R182: no command brings a buffer past its capacity. -/
theorem exec_room (c : Instr) : Answers (KeepsRoom s) (exec c s) := by
  have app : ∀ sort : Frame → Bool, Answers (KeepsRoom s) (.next (s.applyNext sort)) :=
    fun sort => .next (room_applyNext s sort)
  cases c with
  | deviceReset straps low => exact deviceReset_room s straps low
  | configurationRead image => exact configurationRead_room s image
  | busFree => exact busFree_room s
  | yieldTimeout => exact yieldTimeout_room s
  | contention => exact contention_room s
  | startMark => exact startMark_room s
  | arbitrationLost => exact arbitrationLost_room s
  | lateLoss => exact lateLoss_room s
  | strayMark => exact strayMark_room s
  | endMark bits v => exact endMark_room s bits v
  | missingEndMark bits => exact missingEndMark_room s bits
  | cut => exact cut_room s
  | quietExit => exact quietExit_room s
  | stuck => exact stuck_room s
  | stuckClear => exact stuckClear_room s
  | syncSilenceExpiry => exact syncSilenceExpiry_room s
  | lossOfValidity => exact lossOfValidity_room s
  | tickTimerExpiry => exact tickTimerExpiry_room s
  | tickClaimBuild => exact tickClaimBuild_room s
  | presenceClaimBuild => exact presenceClaimBuild_room s
  | switchEventTake => exact switchEventTake_room s
  | switchSample pins => exact switchSample_room s pins
  | attnTake => exact attnTake_room s
  | refreshTimer => exact refreshTimer_room s
  | pendingChangeDue e i => exact pendingChangeDue_room s e i
  | scannerWork attn => exact scannerWork_room s attn
  | expanderRead first retry attn => exact expanderRead_room s first retry attn
  | sweepDue => exact sweepDue_room s
  | measurementEnd edges => exact measurementEnd_room s edges
  | pulseEnd o => exact pulseEnd_room s o
  | verifyTimeout o => exact verifyTimeout_room s o
  | recycleEnd o => exact recycleEnd_room s o
  | ejectRetryTimer n => exact ejectRetryTimer_room s n
  | serveRetryTimer => exact serveRetryTimer_room s
  | scoopDwellEnd n => exact scoopDwellEnd_room s n
  | attractHalfCycle => exact attractHalfCycle_room s
  | noticeSend => exact noticeSend_room s
  | attnRelease => exact attnRelease_room s
  | tilt | nudge | lock | lost | released | jammed | drain | launched | start | hit | mode | holdSet | holdClear | tick
  | holdExpiry | rollcallEnd | saveWindowClose | modeExpiry | ballEndLimit | silence | presence | join => exact app _

end RoomOfSteps

/-- Settles O58, by one lemma for each command: every writer of a buffer finds room in it or makes room. -/
theorem capacitiesKept : Obligations.CapacitiesKept := by
  unfold Obligations.CapacitiesKept
  intro s t hs ht
  exact kept_by_step (fun s l h => (room_setPending s l).keeps h)
    (fun c s hc => (exec_room s c).mono fun _ h => h.keeps hc) (fun s h => (room_idle s).keeps h) hs ht

end Sys2Proof.Machine

namespace Sys2Proof.Machine

/-! ### What the Claim, Driver and Lamp Units do of their own -/

/-- From `s` to `t` only the Claim, Driver and Lamp Units have worked: they change their own state, hand over CLAIM_LOST
notices, and report DRIVE. -/
inductive Tends (s : State) : State → Prop
  | refl : Tends s s
  | claim {t : State} (x : ClaimUnit) : Tends s t → Tends s (t.setClaim x)
  | drv {t : State} (x : DriverUnit) : Tends s t → Tends s (t.setDrv x)
  | lamp {t : State} (x : LampUnit) : Tends s t → Tends s (t.setLamp x)
  | lost {t : State} (p : Payload) (o : Origin) (c : LostCause) : Tends s t → Tends s (t.claimLost p o c)
  | driveOn {t : State} : Tends s t → Tends s (t.setFault .drive)
  | driveOff {t : State} : Tends s t → Tends s (t.clearFault .drive)

section FaultSet

variable (s : State)

@[simp] theorem putFaults_faults (x : Byte) : (s.putFaults x).ctl.faults = x := by
  unfold State.putFaults
  split
  · assumption
  · rfl

@[simp] theorem setFault_faults (f : StationFault) : (s.setFault f).ctl.faults = s.ctl.faults ||| f.bit :=
  putFaults_faults s _

@[simp] theorem clearFault_faults (f : StationFault) : (s.clearFault f).ctl.faults = s.ctl.faults &&& ~~~f.bit :=
  putFaults_faults s _

theorem or_drive_masked (x : Byte) : (x ||| StationFault.drive.bit) &&& 0xBF#8 = x &&& 0xBF#8 := by
  revert x
  decide +kernel

theorem andNot_drive_masked (x : Byte) : (x &&& ~~~StationFault.drive.bit) &&& 0xBF#8 = x &&& 0xBF#8 := by
  revert x
  decide +kernel

/-- A change of the fault set touches Station Control's set and the report port alone. -/
theorem putFaults_eq (x : Byte) :
    s.putFaults x =
      { s with
        ctl := { s.ctl with faults := x }
        rpt := if s.ctl.faults = x then s.rpt else s.rpt.create s.table.ordinal (.fault s.ctl.station x) } := by
  unfold State.putFaults
  split
  · next h => subst h; rfl
  · rfl

end FaultSet

namespace Tends

theorem trans {s t u : State} (h : Tends s t) (g : Tends t u) : Tends s u := by
  induction g with
  | refl => exact h
  | claim x _ ih => exact .claim x ih
  | drv x _ ih => exact .drv x ih
  | lamp x _ ih => exact .lamp x ih
  | lost p o c _ ih => exact .lost p o c ih
  | driveOn _ ih => exact .driveOn ih
  | driveOff _ ih => exact .driveOff ih

theorem ite {s t u : State} {p : Prop} [Decidable p] (h : Tends s t) (g : Tends s u) : Tends s (if p then t else u) := by
  split <;> assumption

theorem foldl {α : Type} {f : State → α → State} (hf : ∀ s a, Tends s (f s a)) (l : List α) (s : State) :
    Tends s (l.foldl f s) := by
  induction l generalizing s with
  | nil => exact refl
  | cons a l ih => exact (hf s a).trans (ih (f s a))

theorem kept {s t : State} (h : Tends s t) : Kept s t := by
  induction h with
  | refl => exact Kept.refl s
  | claim x _ ih => exact ih.trans (kept_setClaim _ x)
  | drv x _ ih => exact ih.trans (kept_setDrv _ x)
  | lamp x _ ih => exact ih.trans (kept_setLamp _ x)
  | lost p o c _ ih => exact ih.trans (kept_claimLost _ p o c)
  | driveOn _ ih => exact ih.trans (kept_setFault _ _)
  | driveOff _ ih => exact ih.trans (kept_clearFault _ _)

/-- R180: of the fault set only DRIVE can have changed. -/
theorem faults {s t : State} (h : Tends s t) : t.ctl.faults &&& 0xBF#8 = s.ctl.faults &&& 0xBF#8 := by
  induction h with
  | refl => rfl
  | claim x _ ih => exact ih
  | drv x _ ih => exact ih
  | lamp x _ ih => exact ih
  | lost p o c _ ih => exact ih
  | driveOn _ ih => rw [setFault_faults, or_drive_masked, ih]
  | driveOff _ ih => rw [clearFault_faults, andNot_drive_masked, ih]

end Tends

section TendsOfBlocks

variable (s : State)

theorem tends_setClaim (x : ClaimUnit) : Tends s (s.setClaim x) := .claim x .refl
theorem tends_setDrv (x : DriverUnit) : Tends s (s.setDrv x) := .drv x .refl
theorem tends_updDrv (f : DriverUnit → DriverUnit) : Tends s (s.updDrv f) := tends_setDrv s _
theorem tends_refreshLamps : Tends s s.refreshLamps := .lamp _ .refl

/-! #### The Claim Unit -/

theorem tends_setQueue (q : List Claim) : Tends s (s.setQueue q) := (tends_setClaim s _).trans (tends_setDrv _ _)
theorem tends_claimLost (p : Payload) (o : Origin) (c : LostCause) : Tends s (s.claimLost p o c) := .lost p o c .refl

theorem tends_addClaim (p : Payload) (o : Origin) : Tends s (s.addClaim p o) :=
  (tends_setQueue s _).trans (tends_setClaim _ _)

theorem tends_enterClaim (p : Payload) (o : Origin) : Tends s (s.enterClaim p o) := by
  unfold State.enterClaim
  split
  · exact tends_addClaim s p o
  · split
    · exact ((tends_setQueue s _).trans (tends_claimLost _ _ _ _)).trans (tends_addClaim _ p o)
    · exact tends_claimLost s p o _

theorem tends_build (p : Payload) (o : Origin) : Tends s (s.build p o) := Tends.ite (tends_enterClaim s p o) .refl
theorem tends_flushClaims : Tends s s.flushClaims := tends_setQueue s _
theorem tends_removeAccepted : Tends s s.removeAccepted := tends_setQueue s _
theorem tends_setTickTimer (t : TickTimer) : Tends s (s.setTickTimer t) := tends_setClaim s _
theorem tends_setPresence (n : Nat) : Tends s (s.setPresence n) := tends_setClaim s _

theorem tends_judgeTickTimer : Tends s s.judgeTickTimer :=
  Tends.ite (Tends.ite (tends_setTickTimer s _) .refl) (tends_setTickTimer s _)

theorem tends_restartTickTimer : Tends s s.restartTickTimer := Tends.ite (tends_setTickTimer s _) (tends_setTickTimer s _)
theorem tends_buildTick : Tends s s.buildTick := Tends.ite (tends_build s _ _) .refl

theorem tends_buildPresence : Tends s s.buildPresence := by
  unfold State.buildPresence
  split
  · exact Tends.ite (tends_build s _ _) .refl
  · exact .refl

theorem tends_setLatch (n : Slot) (b : Bool) : Tends s (s.setLatch n b) := tends_setClaim s _

theorem tends_reconcilePresent (n : Slot) : Tends s (s.reconcilePresent n) :=
  Tends.ite (Tends.ite (tends_setDrv s _) (Tends.ite .refl (tends_build s _ _))) .refl

theorem tends_reconcileAbsent (n : Slot) : Tends s (s.reconcileAbsent n) :=
  (Tends.ite (tends_setQueue s _) (Tends.ite (tends_build s _ _) (Tends.ite (tends_build s _ _) .refl))).trans
    (tends_setLatch _ n false)

theorem tends_reconcile (n : Slot) : Tends s (s.reconcile n) := by
  refine Tends.ite ?_ .refl
  split
  · exact tends_reconcilePresent s n
  · exact tends_reconcileAbsent s n
  all_goals exact .refl

theorem tends_latchRefused (p : Payload) (o : AppOutcome) : Tends s (s.latchRefused p o) := by
  unfold State.latchRefused
  split
  · exact tends_setLatch s _ _
  · exact .refl

theorem tends_takeOwnClaim (f : Frame) (o : AppOutcome) : Tends s (s.takeOwnClaim f o) := by
  refine Tends.ite ?_ .refl
  split
  · exact (tends_setQueue s _).trans (tends_latchRefused _ _ _)
  · exact .refl

theorem tends_ticksAfter (f : Frame) (o : AppOutcome) : Tends s (s.ticksAfter f o) := by
  unfold State.ticksAfter
  split
  · exact (tends_setQueue s _).trans (tends_restartTickTimer _)
  · exact tends_judgeTickTimer s

theorem tends_presenceAfter (f : Frame) (o : AppOutcome) : Tends s (s.presenceAfter f o) :=
  Tends.ite (Tends.ite (tends_setPresence s _) (Tends.ite (tends_setPresence s _) .refl)) .refl

theorem tends_claimHandOff (f : Frame) (o : AppOutcome) (began : Bool) : Tends s (s.claimHandOff f o began) := by
  have h6 := (((tends_takeOwnClaim s f o).trans (tends_ticksAfter _ f o)).trans (tends_presenceAfter _ f o)).trans
    (Tends.foldl tends_reconcile (indices 8) _)
  exact ((h6.trans (Tends.ite (tends_build _ _ _) .refl)).trans (tends_buildTick _)).trans (tends_buildPresence _)

/-! #### The Driver Unit -/

theorem tends_enterRecycle (o : Output) : Tends s (s.enterRecycle o) := Tends.ite (tends_updDrv s _) (tends_updDrv s _)
theorem tends_closeAttempt (o : Output) : Tends s (s.closeAttempt o) := Tends.ite (tends_enterRecycle s o) (tends_updDrv s _)

theorem tends_endDuty (id : DutyId) : Tends s (s.endDuty id) :=
  (tends_updDrv s fun d => d.dropRequest id).trans
    (Tends.foldl (fun t o => Tends.ite (tends_closeAttempt t o) .refl) (indices 8) _)

theorem tends_settleEject (n : Slot) : Tends s (s.settleEject n) := by
  have h0 : Tends s (s.settleBounce n) := Tends.ite .refl (tends_updDrv s _)
  exact Tends.ite h0 ((Tends.ite (h0.trans (tends_endDuty _ _)) h0).trans (tends_updDrv _ _))

theorem tends_tendEject (n : Slot) : Tends s (s.tendEject n) := by
  have h0 := Tends.ite (p := s.boundState n = some .present) .refl (tends_updDrv s fun d => d.dropRequest (.eject n))
  unfold State.tendEject
  split
  · dsimp only
    split
    · exact h0.trans (tends_updDrv _ _)
    · exact Tends.ite (h0.trans (tends_updDrv _ _)) h0
  · exact .refl

theorem tends_askEject (n : Slot) : Tends s (s.askEject n) := by
  unfold State.askEject
  split
  · exact Tends.ite (tends_updDrv s _) .refl
  · exact .refl

theorem tends_settleServe : Tends s s.settleServe := by
  have h1 := Tends.ite (p := (s.isValid && s.table.isTrough s.ctl.station) = true) .refl
    (tends_updDrv s fun d => d.updServe fun v => { v with launches := 0 })
  unfold State.settleServe
  refine Tends.ite (Tends.ite (.driveOn (h1.trans (tends_updDrv _ _))) (h1.trans (tends_updDrv _ _))) ?_
  refine Tends.ite ?_ h1
  have h2 := (h1.trans (tends_endDuty _ .serve)).trans (tends_updDrv _ fun d => d.updServe fun v =>
    { v with holds := false, failed := 0, retryDue := none, retryReady := false, await := false })
  exact Tends.ite (.driveOff h2) h2

theorem tends_askServe : Tends s s.askServe := by
  unfold State.askServe
  split
  · exact .refl
  · exact Tends.ite (tends_updDrv s _) .refl

theorem tends_askScoop (n : Switch) : Tends s (s.askScoop n) := by
  unfold State.askScoop
  split
  · exact Tends.ite (tends_updDrv s _) .refl
  · exact .refl

theorem tends_deriveDuties : Tends s s.deriveDuties := by
  have h1 := (Tends.foldl tends_settleEject (indices 8) s).trans (tends_settleServe _)
  have h2 := h1.trans (Tends.foldl tends_tendEject (indices 8) _)
  have h3 := (h2.trans (Tends.foldl tends_askEject (indices 8) _)).trans (tends_askServe _)
  exact (h3.trans (Tends.foldl tends_askScoop (indices 32) _)).trans (tends_setDrv _ _)

theorem tends_derived : Tends s s.deriveDuties.refreshLamps := (tends_deriveDuties s).trans (tends_refreshLamps _)

theorem tends_cancelScoop (n : Switch) : Tends s (s.cancelScoop n) := by
  unfold State.cancelScoop
  split
  · exact Tends.ite ((tends_endDuty s _).trans (tends_updDrv _ _)) .refl
  · exact .refl

theorem tends_cancelScoops : Tends s s.cancelScoops := Tends.foldl tends_cancelScoop _ s

/-- R18: the neighbouring blocks behind Station Control's part of a hand-off. -/
theorem tends_handOff (f : Frame) (o : AppOutcome) (began : Bool) (before : GameTable) :
    Tends (s.moveStation s.stateAfter) (s.handOff f o began before) := by
  have h := tends_claimHandOff (s.moveStation s.stateAfter) f o began
  exact (Tends.ite (h.trans (tends_cancelScoops _)) h).trans (tends_derived _)

end TendsOfBlocks

/-- A move of the station state changes no fault and hands over no notice. -/
theorem moveStation_faults_rpt (s : State) (st : StationState) :
    (s.moveStation st).ctl.faults = s.ctl.faults ∧ (s.moveStation st).rpt = s.rpt := by
  have judge : ∀ u : State, u.judgeTickTimer.ctl.faults = u.ctl.faults ∧ u.judgeTickTimer.rpt = u.rpt := fun u => by
    unfold State.judgeTickTimer
    repeat' split
    all_goals exact ⟨rfl, rfl⟩
  unfold State.moveStation
  split
  · exact ⟨rfl, rfl⟩
  · dsimp only
    rw [(judge _).1, (judge _).2]
    repeat' split
    all_goals exact ⟨rfl, rfl⟩

theorem moveStation_faults (s : State) (st : StationState) : (s.moveStation st).ctl.faults = s.ctl.faults :=
  (moveStation_faults_rpt s st).1

theorem moveStation_rpt (s : State) (st : StationState) : (s.moveStation st).rpt = s.rpt := (moveStation_faults_rpt s st).2

end Sys2Proof.Machine

namespace Sys2Proof.Machine

/-! ### Steps, reset, STUCK, the adoption of the ATTRACT defaults, the report port -/

/-- R14: the Table Engine may take the oldest inbound frame. -/
abbrev MayTake (s : State) : Prop := s.isValid = true ∧ s.eng.inFlight = none ∧ s.eng.loss = none

theorem takeInFlight_eq (s : State) :
    s.takeInFlight =
      { s with
        bus := { s.bus with inbound := if MayTake s then s.bus.inbound.drop 1 else s.bus.inbound }
        eng := { s.eng with inFlight := if MayTake s then s.bus.inbound.head? else s.eng.inFlight } } := by
  unfold State.takeInFlight
  split
  · next f rest hin =>
    by_cases h : MayTake s
    · rw [if_pos h, if_pos h, if_pos h, hin]
      rfl
    · rw [if_neg h, if_neg h, if_neg h]
  · next hin =>
    rw [hin]
    by_cases h : MayTake s
    · rw [if_pos h, if_pos h, List.head?_nil, ← h.2.1, List.drop_nil, ← hin]
    · rw [if_neg h, if_neg h, ← hin]

/-- Settles O2: local time passes, then the Table Engine takes the oldest frame if it may (`takeInFlight_eq`). -/
theorem emptyQueueIdles : Obligations.EmptyQueueIdles := by
  unfold Obligations.EmptyQueueIdles
  intro s hp takes
  have hstep : step s = .next s.idle := by
    unfold step
    rw [hp]
  rw [hstep]
  exact congrArg Host.Outcome.next (takeInFlight_eq (s.passTo (s.now + 1)))

theorem reset_slots (n : Slot) : State.reset.table.slots[n] = .absent := by
  revert n
  decide

/-- Settles O3: each law at the reset values. -/
theorem lawsHoldAtReset : Obligations.LawsHoldAtReset := by
  unfold Obligations.LawsHoldAtReset
  refine ⟨?_, ?_, ?_, ?_, ?_, ?_, ?_⟩
  · exact replicaFollowsState_iff.2 ⟨⟨fun _ => rfl, fun _ => .inl rfl, by decide, by decide⟩, nofun, nofun⟩
  · intro h
    cases h
  · refine ⟨by decide, ?_, ?_⟩
    all_goals decide
  · exact ⟨Nat.zero_le _, Nat.zero_le _, Nat.zero_le _, Nat.zero_le _, Nat.zero_le _, Nat.zero_le _, List.nodup_nil⟩
  · exact ⟨List.Pairwise.nil, List.nodup_nil, nofun, Nat.zero_le _, fun _ => rfl, fun _ => rfl⟩
  · intro n o p h
    rw [reset_slots] at h
    cases h
  · intro n o h
    rw [reset_slots] at h
    cases h

/-- Settles O4, by evaluation at the reset values, and the definition of DEVICE_RESET. -/
theorem deviceReset : Obligations.DeviceReset := by
  unfold Obligations.DeviceReset
  refine ⟨?_, fun straps low s => ⟨rfl, ?_⟩⟩
  · refine ⟨rfl, rfl, rfl, rfl, rfl, rfl, rfl, rfl, rfl, rfl, rfl, rfl, rfl, rfl, rfl, rfl, rfl, rfl, rfl, rfl, by decide,
      rfl, rfl, rfl, rfl, rfl, by decide, rfl, by decide, by decide, by decide, by decide, rfl, rfl, rfl⟩
  · exact Nat.mod_eq_of_lt straps.isLt

/-! #### STUCK -/

theorem restartSync_eq (s : State) :
    s.restartSync = { s with eng := { s.eng with sync := if s.eng.sync = .stopped then .stopped else s.freshSync } } := by
  unfold State.restartSync
  split
  · next h => rw [← h]
  · rfl

/-- Settles O13, by the fault set's change (`putFaults_eq`). -/
theorem stuckBus : Obligations.StuckBus := by
  unfold Obligations.StuckBus
  refine fun s => ⟨fun hl hs => ?_, fun h => if_neg ?_, fun hs => ?_, fun hs => if_neg (by simp [hs])⟩
  · refine ⟨_, if_pos ⟨hl, hs⟩, ?_⟩
    unfold State.setFault
    dsimp only
    rw [putFaults_eq]
    refine ⟨rfl, rfl, fun since h => ?_, rfl⟩
    show s.eng.sync.hold s.now = _
    rw [h]
    rfl
  · rintro ⟨hl, hs⟩
    rcases h with h | h
    · exact h hl
    · rw [hs] at h
      cases h
  · refine ⟨_, if_pos hs, ?_⟩
    unfold State.clearFault
    dsimp only
    rw [restartSync_eq, putFaults_eq]
    exact ⟨rfl, rfl, rfl, rfl⟩

/-! #### The sync silence timer -/

theorem moveStation_bus (s : State) (st : StationState) : (s.moveStation st).bus = s.bus := by
  unfold State.moveStation
  split
  · rfl
  · dsimp only
    rw [(kept_judgeTickTimer _).bus]
    repeat' split
    all_goals rfl

theorem validated_bus (s : State) : s.validated.bus = s.bus := by
  have hk := kept_clearFault (s.updEng fun e => { e with replica := .valid }) .diverged
  unfold State.validated
  dsimp only
  split
  · rw [moveStation_bus, hk.bus]
    rfl
  · rw [hk.bus]
    rfl

theorem validated_faults (s : State) : s.validated.ctl.faults = s.ctl.faults &&& ~~~StationFault.diverged.bit := by
  unfold State.validated
  dsimp only
  split
  · rw [moveStation_faults, clearFault_faults]
    rfl
  · rw [clearFault_faults]
    rfl

theorem andNot_diverged_masked (x : Byte) : (x &&& ~~~StationFault.diverged.bit) &&& 0xBF#8 = x &&& 0xB7#8 := by
  revert x
  decide +kernel

theorem game_adoptAttract (s : State) :
    SameGame (s.setTable (GameTable.attractDefaults s.table.profile)) s.adoptAttract :=
  ((game_updEng _ _).trans (game_validated _)).trans (tends_derived _).kept.game

theorem adoptAttract_bus (s : State) : s.adoptAttract.bus = s.bus := by
  unfold State.adoptAttract
  dsimp only
  rw [(tends_derived _).kept.bus, validated_bus]
  rfl

theorem adoptAttract_faults (s : State) : s.adoptAttract.ctl.faults &&& 0xBF#8 = s.ctl.faults &&& 0xB7#8 := by
  unfold State.adoptAttract
  dsimp only
  rw [(tends_derived _).faults, validated_faults, andNot_diverged_masked]
  rfl

/-- Settles O16, by what an adoption of the ATTRACT defaults makes of each part of the station. -/
theorem syncSilenceExpiry : Obligations.SyncSilenceExpiry := by
  unfold Obligations.SyncSilenceExpiry
  refine fun s => ⟨fun since hsy hst => ?_, fun h => ?_⟩
  · have hex : exec .syncSilenceExpiry s = .next (s.advanceTo (since + Config.syncSilence)).adoptAttract := by
      show execSyncSilenceExpiry s = _
      unfold execSyncSilenceExpiry
      rw [hsy]
    have hg := game_adoptAttract (s.advanceTo (since + Config.syncSilence))
    have hstate : (s.advanceTo (since + Config.syncSilence)).adoptAttract.ctl.state = .ready :=
      (adoptAttract_state _).trans (if_pos hst)
    refine ⟨_, hex, hg.table, ?_, ?_, adoptAttract_faults _, hg.now, ?_, hg.cfg, hg.sw, hg.sen, hg.pending⟩
    · rw [adoptAttract_eng]
      simp only [State.advanceTo, State.passTo_eng, State.passTo_ctl, hst, if_true]
    · have hc := hg.ctl
      rw [hstate] at hc
      exact hc
    · rw [adoptAttract_bus, hg.now]
      rfl
  · show execSyncSilenceExpiry s = _
    unfold execSyncSilenceExpiry
    split
    · next since hs => exact absurd hs (h since)
    all_goals rfl

/-! #### The report port -/

theorem code_eq_layout (x : NoticeBody) : x.code = (noticeLayout x).1 := by cases x <;> rfl

theorem truth_byte (b : Bool) : byte (flag b) = if b then 1#8 else 0#8 := by cases b <;> rfl

theorem phase_byte (ph : Phase) : byte ph.code = codeAlong 0 [.attract, .rollcall, .play, .ballEnd] ph := by
  cases ph <;> rfl

theorem kind_byte (k : FrameKind) : byte k.code = kindByte k := by cases k <;> rfl

theorem reason_byte (r : Reason) :
    byte r.code =
      codeAlong 1 [.notPlaying, .tilted, .notMember, .slotState, .noLockLit, .stray, .already, .full, .group, .notQualified,
        .tableFull, .done, .tooLate, .playersFull, .lateJoin, .notHeld, .rollcallFailed] r := by
  cases r <;> rfl

theorem subReason_byte (x : Option SubReason) :
    subByte x = codeAlong 0 [none, some .noTrough, some .twoTroughs, some .mismatch] x := by
  rcases x with _ | c
  · rfl
  · cases c <;> rfl

theorem memberState_byte (st : MemberState) : byte st.code = codeAlong 0 [.absent, .member, .mismatched, .silent] st := by
  cases st <;> rfl

theorem roles_byte (trough start : Bool) :
    rolesByte trough start = codeAlong 0 [(false, false), (true, false), (false, true), (true, true)] (trough, start) := by
  cases trough <;> cases start <;> rfl

theorem lostCause_byte (c : LostCause) : byte c.code = codeAlong 1 [.displaced, .discarded, .vetoed] c := by
  cases c <;> rfl

/-- R184: the fields of a notice are those of its layout. -/
theorem fields_eq_layout (x : NoticeBody) : x.fields = (noticeLayout x).2 := by
  cases x with
  | start sender => rfl
  | phase ph count cur ball tilted nudges =>
    unfold NoticeBody.fields noticeLayout
    dsimp only
    rw [phase_byte, truth_byte]
    rfl
  | score p score total m award jackpot sender sw tag =>
    unfold NoticeBody.fields noticeLayout
    dsimp only
    simp only [toBytes_eq_bigEndian]
    rfl
  | balls inPlay ret serve occ mb save =>
    unfold NoticeBody.fields noticeLayout
    dsimp only
    rw [truth_byte, toBytes_eq_bigEndian]
    rfl
  | lock n r =>
    cases r with
    | releasing k c | jammed k c | strandedReleasing k c => cases c <;> rfl
    | absent | dark | opened | held | strandedHeld => rfl
  | mode m p report remaining progress sweep =>
    unfold NoticeBody.fields noticeLayout
    dsimp only
    rw [truth_byte, toBytes_eq_bigEndian]
    cases report <;> rfl
  | refused kind sender reason sub arg =>
    unfold NoticeBody.fields noticeLayout
    dsimp only
    rw [kind_byte, reason_byte, subReason_byte]
    cases arg <;> rfl
  | member k st dec tr sb digest =>
    unfold NoticeBody.fields noticeLayout
    dsimp only
    rw [memberState_byte, roles_byte, toBytes_eq_bigEndian]
    cases digest <;> rfl
  | fault k summary => rfl
  | claimLost kind arg origin cause =>
    unfold NoticeBody.fields noticeLayout
    dsimp only
    rw [kind_byte, lostCause_byte]
    cases arg <;> cases origin <;> rfl
  | switchLost sw level => cases level <;> rfl

/-- Settles O54: creating a notice, sending one, and its bytes by the layout of each kind (`fields_eq_layout`). -/
theorem reportPort : Obligations.ReportPort := by
  unfold Obligations.ReportPort
  refine ⟨fun s body => ⟨fun h => ?_, fun h => ?_⟩, fun s n rest h => ?_, fun s h => ?_, fun n => ?_⟩
  · unfold State.notify ReportPort.create
    rw [if_neg (by simp [h])]
    rfl
  · unfold State.notify ReportPort.create
    rw [if_pos h]
    rfl
  · show execNoticeSend s = _
    unfold execNoticeSend
    rw [h]
    rfl
  · show execNoticeSend s = _
    unfold execNoticeSend
    rw [h]
  · unfold Notice.bytes Notice.middle
    rw [fields_eq_layout, code_eq_layout, toBytes_eq_bigEndian]
    rfl

end Sys2Proof.Machine

namespace Sys2Proof.Machine

/-! ### The application of the next frame -/

section Application

variable {s : State} {f : Frame}

/-- R14: the command of a frame applies the next frame where it is of that frame's sort. -/
theorem exec_commandOf (s : State) (f : Frame) :
    ∃ sort : Frame → Bool, exec (commandOf f) s = .next (s.applyNext sort) ∧ sort f = true := by
  obtain ⟨sender, p⟩ := f
  cases p with
  | hold v =>
    by_cases hv : v = 0#8
    · exact ⟨Frame.isHold false, by simp only [commandOf, if_pos hv]; rfl, by simp [Frame.isHold, hv]⟩
    · exact ⟨Frame.isHold true, by simp only [commandOf, if_neg hv]; rfl, by simp [Frame.isHold, hv]⟩
  | tilt => exact ⟨Frame.ofKind .tilt, rfl, rfl⟩
  | nudge => exact ⟨Frame.ofKind .nudge, rfl, rfl⟩
  | lock n => exact ⟨Frame.ofKind .lock, rfl, rfl⟩
  | lost n => exact ⟨Frame.ofKind .lost, rfl, rfl⟩
  | released n => exact ⟨Frame.ofKind .released, rfl, rfl⟩
  | jammed n => exact ⟨Frame.ofKind .jammed, rfl, rfl⟩
  | drain => exact ⟨Frame.ofKind .drain, rfl, rfl⟩
  | launched => exact ⟨Frame.ofKind .launched, rfl, rfl⟩
  | start => exact ⟨Frame.ofKind .start, rfl, rfl⟩
  | hit sw base tag flags => exact ⟨Frame.ofKind .hit, rfl, rfl⟩
  | mode m => exact ⟨Frame.ofKind .mode, rfl, rfl⟩
  | tick number => exact ⟨Frame.ofKind .tick, rfl, rfl⟩
  | presence basis digest summary => exact ⟨Frame.ofKind .presence, rfl, rfl⟩
  | join digest declared occupied roles => exact ⟨Frame.ofKind .join, rfl, rfl⟩

theorem exec_application (h : s.nextFrame = some f) : exec (commandOf f) s = .next (s.taken.application f) := by
  obtain ⟨sort, hex, hs⟩ := exec_commandOf s f
  rw [hex, applyNext_eq s sort f h hs]

theorem engine_of_idle (h : s.eng.inFlight = none) : { s.eng with inFlight := none } = s.eng := by rw [← h]

/-- R14: the taking of a frame changes the Table Engine's frame in flight and the inbound queue alone. -/
theorem taken_eq (s : State) :
    s.taken =
      { s with
        bus := { s.bus with inbound := if s.eng.inFlight.isSome then s.bus.inbound else s.bus.inbound.drop 1 }
        eng := { s.eng with inFlight := none } } := by
  unfold State.taken
  split
  · next g h =>
    rw [h]
    rfl
  · next h =>
    rw [engine_of_idle h, h]
    rfl

/-- R4: what is no sync start. -/
theorem syncStart_eq_false
    (h : f.payload ≠ .start ∨ s.ctl.state ≠ .syncing ∨ ∀ n, s.syncCounted = some n → n < 1000 * Config.ms) :
    s.syncStart f = false := by
  unfold State.syncStart
  rcases h with h | h | h
  · simp [h]
  · simp [h]
  · cases hc : s.syncCounted with
    | none => simp
    | some n =>
      have : ¬Config.syncStartMinimum ≤ n := Nat.not_le.2 (h n hc)
      simp [this]

theorem syncStart_valid (hv : s.isValid = true) : s.syncStart f = false := by simp [State.syncStart, hv]

/-- Settles O18: the frame is taken, and not admitted. -/
theorem unknownReplicaDiscards : Obligations.UnknownReplicaDiscards := by
  unfold Obligations.UnknownReplicaDiscards
  intro s f hf hin hv hno
  have hnext : s.nextFrame = some f := by
    unfold State.nextFrame
    rw [hf]
    exact hin
  have had : s.taken.admits f = false := by
    unfold State.admits
    rw [taken_isValid, taken_syncStart, hv, syncStart_eq_false hno]
    rfl
  rw [exec_application hnext, application_discarded _ _ had, taken_eq, engine_of_idle hf, hf]
  rfl

/-! #### Under a VALID replica -/

theorem taken_admits (hv : s.isValid = true) : s.taken.admits f = true := by simp [State.admits, taken_isValid, hv]

theorem appliedTable_valid (hv : s.isValid = true) :
    s.appliedTable f = (applyFrame s.ctl.station false f s.table).1.table := by
  unfold State.appliedTable
  rw [syncStart_valid hv]

/-- What an application leaves unchanged, and the table it leaves. -/
theorem game_taken_application (hv : s.isValid = true) :
    SameGame (s.setTable (applyFrame s.ctl.station false f s.table).1.table) (s.taken.application f) := by
  have h := game_application s.taken f (taken_admits hv)
  rw [taken_appliedTable, appliedTable_valid hv] at h
  have ht := taken_game s
  have h0 : SameGame (s.setTable (applyFrame s.ctl.station false f s.table).1.table)
      (s.taken.setTable (applyFrame s.ctl.station false f s.table).1.table) :=
    ⟨ht.pending, ht.now, ht.cfg, rfl, ht.sw, ht.sen, ht.ctl, ht.bus⟩
  exact h0.trans h

theorem SameGame.frame {s t : State} {k : GameTable} (h : SameGame (s.setTable k) t) (hp : k.profile = s.table.profile) :
    ApplicationFrame s t :=
  ⟨h.pending, h.now, h.cfg, h.sw, h.sen, h.ctl, h.bus, by rw [h.table]; exact hp⟩

theorem applicationFrame_of_valid (hv : s.isValid = true) : ApplicationFrame s (s.taken.application f) :=
  (game_taken_application hv).frame (applyFrame_profile _ _ _ _)

/-- A kind's statement about the table needs only the table behind the gate and the kind's checks and effects. -/
theorem leaves_of_gated {k : GameTable} (h : TakesNext s f)
    (hk : (gatedStage s.ctl.station false f (Work.begin s.table f)).1.table = k) : Leaves (commandOf f) s k := by
  obtain ⟨hn, hv⟩ := h
  refine ⟨_, exec_application hn, ?_, applicationFrame_of_valid hv⟩
  rw [(game_taken_application hv).table, ← hk, ← kindStage_table]
  exact applyFrame_recomputed _ _ _ _

theorem gateRefuses_iff (t : GameTable) (f : Frame) :
    t.gateRefuses f = true ↔
      t.phase ≠ .attract ∧ f.payload.kind ≠ .start ∧ f.payload.kind ≠ .join ∧ t.members[f.sender].state ≠ .member := by
  have hu : f.payload.kind.ungated = false ↔ f.payload.kind ≠ .start ∧ f.payload.kind ≠ .join := by
    cases f.payload.kind <;> simp [FrameKind.ungated]
  unfold GameTable.gateRefuses
  rw [Bool.and_eq_true, Bool.and_eq_true, bne_iff_ne, bne_iff_ne, Bool.not_eq_true', hu]
  tauto

theorem vmap_congr {α β : Type} {n : Nat} {f g : Fin n → α → β} {v : Vector α n} (h : ∀ i : Fin n, f i v[i] = g i v[i]) :
    vmap f v = vmap g v := by
  refine Vector.ext fun i hi => ?_
  rw [vmap_get, vmap_get]
  exact h ⟨i, hi⟩

/-- R9: the sender's entry alone is changed by its being heard. -/
theorem heard_eq_withMember (t : GameTable) (k : Station) :
    t.heard k = withMember t k { t.members[k] with lastHeard := t.tick } := by
  unfold GameTable.heard withMember
  congr 1
  refine vmap_congr fun j => ?_
  by_cases hj : j = k
  · subst hj; simp
  · simp [hj]

/-- Settles O19: the gate refuses before the kind's own checks. -/
theorem membershipGate : Obligations.MembershipGate := by
  unfold Obligations.MembershipGate
  intro s f hn hp hs hj hm
  refine leaves_of_gated hn ?_
  have hg : (Work.begin s.table f).table.gateRefuses f = true := by
    rw [gateRefuses_iff]
    refine ⟨hp, hs, hj, ?_⟩
    rw [begin_table, heard_eq_withMember]
    simpa [withMember] using hm
  unfold gatedStage
  rw [if_pos hg]
  rfl

theorem gateRefuses_of_passes {t : GameTable} {f : Frame} (h : t.phase = .attract ∨ t.members[f.sender].state = .member) :
    (Work.begin t f).table.gateRefuses f = false := by
  rw [← Bool.not_eq_true, gateRefuses_iff]
  rintro ⟨hp, -, -, hm⟩
  rcases h with h | h
  · exact hp h
  · refine hm ?_
    rw [begin_table, heard_eq_withMember]
    simpa [withMember] using h

/-- R26: behind the gate come the kind's checks. -/
theorem gated_of_passes {s : State} {f : Frame} (h : PassesGate s f) (own : Station) (sync : Bool) :
    gatedStage own sync f (Work.begin s.table f) = kindChecks own sync f (Work.begin s.table f) :=
  if_neg (by rw [gateRefuses_of_passes h]; decide)

end Application

end Sys2Proof.Machine

namespace Sys2Proof.Machine

/-! ### The claims behind a move of the station and a loss of validity -/

section ClaimsOfMoves

variable (s : State)

/-- R134: the tick timer as a judgement of its running condition leaves it. -/
def State.judgedTimer (s : State) : TickTimer :=
  if s.tickTimerRuns then if s.claim.tickTimer = .stopped then s.fullTickTimer else s.claim.tickTimer else .stopped

theorem judgeTickTimer_claim : s.judgeTickTimer.claim = { s.claim with tickTimer := s.judgedTimer } := by
  unfold State.judgeTickTimer State.judgedTimer
  split
  · split <;> rfl
  · rfl

/-- R141: what a flush leaves of a queue. -/
def flushedQueue (q : List Claim) : List Claim :=
  (q.filter fun c => !c.isWaiting).map fun c => if c.isInFlight then { c with state := .inFlight true } else c

theorem flushClaims_claim : s.flushClaims.claim = { s.claim with queue := flushedQueue s.claim.queue } := rfl

/-- A move of the station ends with the judgement of the tick timer. -/
theorem moveStation_judged (st : StationState) (h : s.ctl.state ≠ st) :
    ∃ u : State, s.moveStation st = u.judgeTickTimer
      ∧ u.claim =
        { s.claim with
          queue := if s.ctl.state = .member then flushedQueue s.claim.queue else s.claim.queue
          presence := if s.ctl.state = .member ∨ st = .member then 0 else s.claim.presence } := by
  have sync : ∀ u : State,
      (if st = .syncing then u.startSync else if s.ctl.state = .syncing then u.stopSync else u).claim = u.claim := fun u => by
    repeat' split
    all_goals rfl
  unfold State.moveStation
  rw [if_neg h]
  refine ⟨_, rfl, ?_⟩
  rw [sync]
  by_cases hm : s.ctl.state = .member
  · have hst : st ≠ .member := fun e => h (hm.trans e.symm)
    simp only [hm, hst, if_true, if_false, true_or]
    rfl
  · by_cases hst : st = .member
    · simp only [hm, hst, if_true, if_false, or_true]
      rfl
    · simp only [hm, hst, if_false, or_self]
      rfl

/-- R134: the judgement of the tick timer does not touch what it looks at. -/
theorem judgeTickTimer_runs (u : State) :
    u.judgeTickTimer.tickTimerRuns = u.tickTimerRuns ∧ u.judgeTickTimer.fullTickTimer = u.fullTickTimer := by
  have hk := kept_judgeTickTimer u
  unfold State.tickTimerRuns State.isValid State.fullTickTimer
  rw [hk.state, hk.listener, hk.station, hk.bus, hk.eng, hk.table, hk.now]
  exact ⟨rfl, rfl⟩

/-- R134, R135, R141: the Claim Unit behind a move of the station. -/
theorem moveStation_claim (st : StationState) (h : s.ctl.state ≠ st) :
    (s.moveStation st).claim =
      { s.claim with
        queue := if s.ctl.state = .member then flushedQueue s.claim.queue else s.claim.queue
        presence := if s.ctl.state = .member ∨ st = .member then 0 else s.claim.presence
        tickTimer := if (s.moveStation st).tickTimerRuns then
            if s.claim.tickTimer = .stopped then (s.moveStation st).fullTickTimer else s.claim.tickTimer
          else .stopped } := by
  obtain ⟨u, hu, hc⟩ := moveStation_judged s st h
  obtain ⟨hr, hf⟩ := judgeTickTimer_runs u
  rw [hu, judgeTickTimer_claim, hr, hf]
  unfold State.judgedTimer
  rw [hc]

theorem tickTimerRuns_valid {s : State} (h : s.tickTimerRuns = true) : s.isValid = true := by
  unfold State.tickTimerRuns at h
  simp only [Bool.and_eq_true] at h
  exact h.1.2

theorem mem_flushedQueue {q : List Claim} {c : Claim} (h : c ∈ flushedQueue q) :
    c.state = .inFlight true ∨ c ∈ q ∧ c.isAccepted = true := by
  obtain ⟨d, hd, he⟩ := List.mem_map.1 h
  obtain ⟨hq, hw⟩ := List.mem_filter.1 hd
  cases hs : d.state with
  | waiting => simp [Claim.isWaiting, hs] at hw
  | inFlight m =>
    have : d.isInFlight = true := by simp [Claim.isInFlight, hs]
    rw [if_pos this] at he
    exact .inl (he ▸ rfl)
  | accepted k =>
    have : ¬d.isInFlight = true := by simp [Claim.isInFlight, hs]
    rw [if_neg this] at he
    exact .inr (he ▸ ⟨hq, by simp [Claim.isAccepted, hs]⟩)

theorem flushedQueue_inFlight {q : List Claim} (h : ∀ c ∈ q, c.isInFlight = true) :
    ∀ c ∈ flushedQueue q, c.isInFlight = true := fun c hc => by
  rcases mem_flushedQueue hc with hs | ⟨hq, _⟩
  · simp [Claim.isInFlight, hs]
  · exact h c hq

theorem invalidate_claims :
    (∀ c ∈ s.invalidate.claim.queue, c.isInFlight = true) ∧ s.invalidate.claim.tickTimer = .stopped := by
  unfold State.invalidate
  dsimp only
  rw [judgeTickTimer_claim]
  constructor
  · intro c hc
    obtain ⟨hf, ha⟩ := List.mem_filter.1 hc
    rcases mem_flushedQueue hf with hs | ⟨_, hs⟩
    · simp [Claim.isInFlight, hs]
    · simp [hs] at ha
  · exact if_neg fun h => by cases tickTimerRuns_valid h

theorem moveStation_isValid (st : StationState) : (s.moveStation st).isValid = s.isValid := by
  unfold State.isValid
  rw [moveStation_eng]
  unfold Engine.moved
  repeat' split
  all_goals rfl

theorem moveStation_claims {s : State} (st : StationState)
    (hq : ∀ c ∈ s.claim.queue, c.isInFlight = true) (ht : s.claim.tickTimer = .stopped) (hv : s.isValid = false) :
    (∀ c ∈ (s.moveStation st).claim.queue, c.isInFlight = true) ∧ (s.moveStation st).claim.tickTimer = .stopped := by
  by_cases h : s.ctl.state = st
  · rw [← h, moveStation_same]
    exact ⟨hq, ht⟩
  · rw [moveStation_claim s st h]
    refine ⟨?_, if_neg fun hr => ?_⟩
    · dsimp only
      split
      · exact flushedQueue_inFlight hq
      · exact hq
    · rw [← moveStation_isValid s st, tickTimerRuns_valid hr] at hv
      cases hv

theorem refreshLamps_claim : s.refreshLamps.claim = s.claim := rfl

theorem derived_claim : s.deriveDuties.refreshLamps.claim = s.claim := by
  rw [refreshLamps_claim, (claims_deriveDuties s).claim]

/-- R3, R141, R134: behind a loss of validity only claims IN_FLIGHT stay, and the tick timer is stopped. -/
theorem performLoss_claims :
    (∀ c ∈ s.performLoss.claim.queue, c.isInFlight = true) ∧ s.performLoss.claim.tickTimer = .stopped := by
  obtain ⟨hq, ht⟩ := invalidate_claims s
  unfold State.performLoss
  dsimp only
  rw [derived_claim]
  split
  · exact ⟨hq, ht⟩
  · exact moveStation_claims _ hq ht (by unfold State.isValid; rw [invalidate_eng]; rfl)

theorem performLoss_bus : s.performLoss.bus = { s.bus with inbound := [] } := by
  have hi : s.invalidate.bus = { s.bus with inbound := [] } := by
    unfold State.invalidate
    dsimp only
    rw [(kept_judgeTickTimer _).bus, (kept_removeAccepted _).bus, (kept_flushClaims _).bus]
    rfl
  unfold State.performLoss
  dsimp only
  rw [(tends_derived _).kept.bus]
  split
  · exact hi
  · rw [moveStation_bus, hi]

theorem performLoss_isValid : s.performLoss.isValid = false := by
  unfold State.isValid
  rw [performLoss_eng]
  rfl

theorem invalidate_faults : s.invalidate.ctl.faults = s.ctl.faults := by
  unfold State.invalidate State.judgeTickTimer
  dsimp only
  repeat' split
  all_goals rfl

/-- R180: a loss of validity changes no fault but DRIVE. -/
theorem performLoss_faults : s.performLoss.ctl.faults &&& 0xBF#8 = s.ctl.faults &&& 0xBF#8 := by
  unfold State.performLoss
  dsimp only
  rw [(tends_derived _).faults]
  split
  · rw [invalidate_faults]
  · rw [moveStation_faults, invalidate_faults]

end ClaimsOfMoves

/-! ### The hand-off leaves the Table Engine and the bus -/

section HandOffOfEngine

variable (s : State) (f : Frame) (o : AppOutcome) (began : Bool) (before : GameTable)

theorem handOff_state : (s.handOff f o began before).ctl.state = s.stateAfter := by
  rw [(tends_handOff s f o began before).kept.state, moveStation_state]

theorem handOff_bus : (s.handOff f o began before).bus = s.bus := by
  rw [(tends_handOff s f o began before).kept.bus, moveStation_bus]

/-- R179, R2: a hand-off never starts or stops the sync silence timer. -/
theorem handOff_eng : (s.handOff f o began before).eng = s.eng := by
  rw [(tends_handOff s f o began before).kept.eng, moveStation_eng]
  rcases stateAfter_cases s with he | ⟨hst, hn⟩
  · rw [he]
    simp [Engine.moved]
  · have h1 : s.stateAfter ≠ .syncing := by rcases hn with h | h | h <;> rw [h] <;> decide
    have h2 : s.ctl.state ≠ .syncing := by rcases hst with h | h | h <;> rw [h] <;> decide
    rw [Engine.moved_of_ne h1, if_neg h2]

end HandOffOfEngine

/-! ### An application under a VALID replica -/

section ValidApplication

variable {s : State} {f : Frame}

/-- R15, R18: the state that the stages and the Table Engine's notices leave, before the hand-off. -/
def State.staged (s : State) (f : Frame) : State :=
  (s.afterStages f).notifyAll (applyFrame s.ctl.station (s.syncStart f) f s.table).1.notices

theorem staged_kept (s : State) (f : Frame) : Kept (s.afterStages f) (s.staged f) := kept_notifyAll _ _

theorem completed_valid (hv : s.isValid = true) :
    s.completed f =
      (s.staged f).handOff f (applyFrame s.ctl.station false f s.table).2 (beginsGame false f s.table) s.table := by
  unfold State.completed State.staged
  rw [syncStart_valid hv]
  rfl

theorem completed_eng (hv : s.isValid = true) :
    (s.completed f).eng =
      { s.eng with
        history := s.historyAfter false f (applyFrame s.ctl.station false f s.table).1.table
        tally := s.tallyAfter f } := by
  rw [completed_valid hv, handOff_eng, (staged_kept s f).eng]
  unfold State.afterStages
  rw [syncStart_valid hv]
  rfl

theorem completed_bus (hv : s.isValid = true) : (s.completed f).bus = s.bus := by
  rw [completed_valid hv, handOff_bus, (staged_kept s f).bus]
  rfl

theorem completed_state (hv : s.isValid = true) (hq : s.ctl.state ≠ .quiet) : (s.completed f).ctl.state ≠ .quiet := by
  have hst : (s.staged f).ctl.state = s.ctl.state := (staged_kept s f).state
  rw [completed_valid hv, handOff_state]
  rcases stateAfter_cases (s.staged f) with he | ⟨_, hn⟩
  · rw [he, hst]
    exact hq
  · rcases hn with h | h | h <;> rw [h] <;> decide

end ValidApplication

section Losses

variable {s : State} {f : Frame}

theorem taken_eng (s : State) : s.taken.eng = { s.eng with inFlight := none } := by rw [taken_eq]

theorem or_diverged_set (x : Byte) : (x ||| StationFault.diverged.bit) &&& StationFault.diverged.bit ≠ 0#8 := by
  revert x
  decide +kernel

/-- DIVERGED is not DRIVE: the two summaries agree about it where they agree about all but DRIVE. -/
theorem diverged_of_masked {x y : Byte} (h : x &&& 0xBF#8 = y &&& 0xBF#8) :
    x &&& StationFault.diverged.bit = y &&& StationFault.diverged.bit := by
  have mask : ∀ z : Byte, z &&& StationFault.diverged.bit = (z &&& 0xBF#8) &&& StationFault.diverged.bit := by decide +kernel
  rw [mask x, mask y, h]

/-- R3, R24: the loss of validity behind a completed application, with what its state keeps of the application: `v` is the
state in which the loss is taken. -/
structure TakesLoss (u : State) (f : Frame) (v : State) : Prop where
  loss     : u.application f = v.performLoss
  bus      : v.bus = u.bus
  inFlight : v.eng.inFlight = u.eng.inFlight
  state    : u.ctl.state ≠ .quiet → v.ctl.state ≠ .quiet

/-- R24: a disagreement at its threshold: DIVERGED is set and the loss is taken. -/
theorem application_diverges {u : State} (hv : u.isValid = true) (hd : u.diverges f = true) :
    ∃ v : State, TakesLoss u f v ∧ v.hasFault .diverged = true := by
  have had : u.admits f = true := by simp [State.admits, hv]
  have hk := kept_setFault (u.completed f) .diverged
  refine ⟨(u.completed f).setFault .diverged, ⟨?_, by rw [hk.bus, completed_bus hv], by rw [hk.eng, completed_eng hv],
    fun hq => by rw [hk.state]; exact completed_state hv hq⟩, ?_⟩
  · unfold State.application State.takeLoss
    rw [if_pos had, if_pos hd]
  · unfold State.hasFault
    rw [setFault_faults]
    exact bne_iff_ne.2 (or_diverged_set _)

/-- R3: a loss that has waited is taken behind the application. -/
theorem application_waits {u : State} (hv : u.isValid = true) (hl : u.eng.loss.isSome = true) : ∃ v : State, TakesLoss u f v := by
  by_cases hd : u.diverges f = true
  · obtain ⟨v, h, _⟩ := application_diverges hv hd
    exact ⟨v, h⟩
  · have had : u.admits f = true := by simp [State.admits, hv]
    refine ⟨u.completed f, ?_, completed_bus hv, by rw [completed_eng hv], completed_state hv⟩
    unfold State.application State.takeLoss
    rw [if_pos had, if_neg hd, if_pos (by rw [completed_eng hv]; exact hl)]

/-- What a taken loss leaves of the Table Engine, the bus and the claims. -/
theorem TakesLoss.leaves {u v : State} (h : TakesLoss u f v) :
    (u.application f).isValid = false ∧ (u.application f).eng.inFlight = u.eng.inFlight
      ∧ (u.application f).eng.loss = none ∧ (u.application f).eng.history = [] ∧ (u.application f).eng.tally = 0
      ∧ (u.application f).bus = { u.bus with inbound := [] }
      ∧ (u.ctl.state ≠ .quiet → (u.application f).ctl.state = .syncing)
      ∧ (∀ d ∈ (u.application f).claim.queue, d.isInFlight = true) ∧ (u.application f).claim.tickTimer = .stopped := by
  obtain ⟨hl, hb, hf, hs⟩ := h
  obtain ⟨hq, ht⟩ := performLoss_claims v
  rw [hl, performLoss_isValid, performLoss_eng, performLoss_bus, performLoss_state, hb, ← hf]
  exact ⟨rfl, rfl, rfl, rfl, rfl, rfl, fun h => if_neg (hs h), hq, ht⟩

/-- Settles O17, by the loss that waits behind the application (`application_waits`). -/
theorem lossOfValidity : Obligations.LossOfValidity := by
  unfold Obligations.LossOfValidity
  refine fun s => ⟨fun c f hl hf hv => ?_, fun h => ?_⟩
  · have hex : exec .lossOfValidity s = .next (s.taken.application f) := by
      show execLossOfValidity s = _
      unfold execLossOfValidity
      rw [hl, hf]
    have htv : s.taken.isValid = true := (taken_isValid s).trans hv
    obtain ⟨v, hw⟩ := application_waits (f := f) htv (by rw [taken_eng]; simp [hl])
    obtain ⟨h1, h2, h3, h4, h5, h6, h7, h8, h9⟩ := hw.leaves
    have hb : ({ s.taken.bus with inbound := [] } : Bus) = { s.bus with inbound := [] } := by rw [taken_eq]
    rw [taken_ctl] at h7
    exact ⟨_, hex, (game_taken_application hv).table, h1, h2.trans (by rw [taken_eng]), h3, h4, h5, h6.trans hb, h7, h8, h9,
      applicationFrame_of_valid hv⟩
  · show execLossOfValidity s = _
    unfold execLossOfValidity
    rw [h]

/-! #### The digest comparison -/

theorem divergenceThreshold_eq (t : GameTable) : t.divergenceThreshold = tallyThreshold t := by
  unfold GameTable.divergenceThreshold tallyThreshold
  rw [List.countP_eq_length_filter]

/-- R23: the taking of a frame leaves what the comparison looks at. -/
theorem taken_comparison (s : State) (f : Frame) : s.taken.comparison f = s.comparison f := by
  unfold State.comparison
  rw [taken_isValid, taken_ctl, taken_eng]

theorem taken_tallyAfter (s : State) (f : Frame) : s.taken.tallyAfter f = s.tallyAfter f := by
  unfold State.tallyAfter
  rw [taken_comparison, taken_eng]

theorem taken_diverges (s : State) (f : Frame) : s.taken.diverges f = s.diverges f := by
  unfold State.diverges
  rw [taken_comparison, taken_tallyAfter, taken_table]

/-- R23: what a PRESENCE of another station compares. -/
theorem comparison_presence {basis digest : Word16} {summary : Byte} (hv : s.isValid = true)
    (hp : f.payload = .presence basis digest summary) (hs : f.sender ≠ s.ctl.station) :
    s.comparison f = (lookupBasis s.eng.history basis).map (· == digest) := by
  unfold State.comparison
  rw [hp]
  exact if_pos ⟨hv, hs⟩

/-- Settles O40: the comparison's disagreement brings the tally to its threshold (`application_diverges`). -/
theorem diverged : Obligations.Diverged := by
  unfold Obligations.Diverged
  intro s f basis digest known summary hn hp hs hq hk hne htally
  obtain ⟨hnext, hv⟩ := hn
  have hcmp : s.comparison f = some false := by
    rw [comparison_presence hv hp hs, hk, Option.map_some, beq_eq_false_iff_ne.2 hne]
  have hd : s.taken.diverges f = true := by
    rw [taken_diverges]
    unfold State.diverges State.tallyAfter
    rw [hcmp, divergenceThreshold_eq]
    unfold tallyThreshold
    simp only [beq_self_eq_true, Bool.true_and, decide_eq_true_eq]
    split
    · omega
    · have : 1 ≤ s.eng.tally := htally.resolve_right ‹_›
      omega
  have hcmd : exec .presence s = .next (s.taken.application f) := by
    have := exec_application hnext
    rwa [show commandOf f = .presence by unfold commandOf; rw [hp]] at this
  obtain ⟨v, hw, hfault⟩ := application_diverges ((taken_isValid s).trans hv) hd
  obtain ⟨h1, h2, h3, h4, h5, h6, h7, h8, h9⟩ := hw.leaves
  rw [taken_ctl] at h7
  refine ⟨_, hcmd, (game_taken_application hv).table, h1, ?_, h7 hq, h4, h5, by rw [h6], h9, h8⟩
  unfold State.hasFault at hfault ⊢
  rw [hw.loss, diverged_of_masked (performLoss_faults v)]
  exact hfault

end Losses

end Sys2Proof.Machine

namespace Sys2Proof.Machine

/-! ### Notices join behind those that wait -/

section NoticesOfWork

/-- The notices of `w` go on from those of `v`. -/
abbrev GoesOnFrom (v w : Work) : Prop := v.notices <+: w.notices

variable (w : Work)

theorem goesOn_note (n : NoticeBody) : GoesOnFrom w (w.note n) := List.prefix_append _ _
theorem goesOn_mapModes (f : ModeEntry → ModeStep) : GoesOnFrom w (w.mapModes f) := List.prefix_append _ _
theorem goesOn_mapSlots (g : Slot → SlotRecord → SlotRecord) : GoesOnFrom w (w.mapSlots g) := List.prefix_append _ _

theorem goesOn_gameOver : GoesOnFrom w w.gameOver := by
  show w.notices <+: ((w.notices ++ _) ++ _) ++ _
  rw [List.append_assoc, List.append_assoc]
  exact List.prefix_append _ _

theorem goesOn_nextBall : GoesOnFrom w w.nextBall := by
  show w.notices <+: (w.notices ++ _) ++ _
  rw [List.append_assoc]
  exact List.prefix_append _ _

theorem goesOn_completeBallEnd : GoesOnFrom w w.completeBallEnd := by
  unfold Work.completeBallEnd
  dsimp only
  generalize hv : (Work.upd _ _ : Work) = v
  have hn : v.notices = w.notices := by rw [← hv]; rfl
  rw [GoesOnFrom, ← hn]
  split
  · exact goesOn_gameOver v
  · exact goesOn_nextBall v

theorem goesOn_completionCheck : GoesOnFrom w w.completionCheck := by
  unfold Work.completionCheck
  split
  · exact goesOn_completeBallEnd w
  · exact List.prefix_refl _

theorem goesOn_recompute : GoesOnFrom w w.recompute := by
  have h : w.endMultiball.notices = w.notices := by
    unfold Work.endMultiball
    split <;> rfl
  have h1 : GoesOnFrom w w.endMultiball := by rw [GoesOnFrom, h]
  exact (h1.trans (goesOn_mapSlots _ _)).trans (goesOn_mapModes _ _)

theorem goesOn_noteBalls (t : GameTable) : GoesOnFrom w (w.noteBalls t) := by
  unfold Work.noteBalls
  split
  · exact List.prefix_refl _
  · exact goesOn_note w _

/-- R15, R18: the notices of a kind's checks and effects come first. -/
theorem goesOn_applyFrame (own : Station) (sync : Bool) (f : Frame) (t : GameTable) :
    GoesOnFrom (gatedStage own sync f (Work.begin t f)).1 (applyFrame own sync f t).1 :=
  ((goesOn_completionCheck _).trans (goesOn_recompute _)).trans (goesOn_noteBalls _ t)

end NoticesOfWork

section NoticesOfState

variable (s : State)

/-- The notice FIFO of `t` goes on from that of `s`. -/
abbrev QueuesBehind (s t : State) : Prop := s.rpt.fifo <+: t.rpt.fifo

theorem queues_notify (b : NoticeBody) : QueuesBehind s (s.notify b) := by
  unfold QueuesBehind State.notify ReportPort.create
  split
  · rw [State.setRpt_rpt]
    dsimp only
    split
    · exact List.prefix_append _ _
    · exact List.prefix_refl _
  · exact List.prefix_refl _

theorem queues_notifyAll (l : List NoticeBody) : QueuesBehind s (s.notifyAll l) := by
  induction l generalizing s with
  | nil => exact List.prefix_refl _
  | cons b l ih => exact (queues_notify s b).trans (ih (s.notify b))

theorem queues_putFaults (x : Byte) : QueuesBehind s (s.putFaults x) := by
  unfold State.putFaults
  split
  · exact List.prefix_refl _
  · exact queues_notify (s.setCtl { s.ctl with faults := x }) _

theorem Tends.queues {s t : State} (h : Tends s t) : QueuesBehind s t := by
  induction h with
  | refl => exact List.prefix_refl _
  | claim x _ ih => exact ih
  | drv x _ ih => exact ih
  | lamp x _ ih => exact ih
  | lost p o c _ ih => exact ih.trans (queues_notify _ _)
  | driveOn _ ih => exact ih.trans (queues_putFaults _ _)
  | driveOff _ ih => exact ih.trans (queues_putFaults _ _)

theorem queues_moveStation (st : StationState) : QueuesBehind s (s.moveStation st) := by
  unfold QueuesBehind
  rw [moveStation_rpt]

theorem queues_handOff (f : Frame) (o : AppOutcome) (began : Bool) (before : GameTable) :
    QueuesBehind s (s.handOff f o began before) :=
  (queues_moveStation s _).trans (tends_handOff s f o began before).queues

theorem queues_validated : QueuesBehind s s.validated := by
  have h : QueuesBehind s ((s.updEng fun e => { e with replica := .valid }).clearFault .diverged) :=
    queues_putFaults (s.updEng fun e => { e with replica := .valid }) _
  unfold State.validated
  dsimp only
  split
  · exact h.trans (queues_moveStation _ _)
  · exact h

theorem judgeTickTimer_rpt : s.judgeTickTimer.rpt = s.rpt := by
  unfold State.judgeTickTimer State.setTickTimer
  repeat' split
  all_goals rfl

theorem invalidate_rpt : s.invalidate.rpt = s.rpt := by
  unfold State.invalidate
  dsimp only
  rw [judgeTickTimer_rpt]
  simp only [State.removeAccepted, State.flushClaims, State.setQueue, State.updEng, State.setDrv_rpt, State.setClaim_rpt,
    State.setBus_rpt, State.setEng_rpt]

theorem queues_performLoss : QueuesBehind s s.performLoss := by
  have h : QueuesBehind s s.invalidate := by rw [QueuesBehind, invalidate_rpt]
  unfold State.performLoss
  dsimp only
  refine List.IsPrefix.trans ?_ (tends_derived _).queues
  split
  · exact h
  · exact h.trans (queues_moveStation _ _)

theorem queues_takeLoss (d : Bool) : QueuesBehind s (s.takeLoss d) := by
  unfold State.takeLoss
  split
  · exact (queues_putFaults s _).trans (queues_performLoss (s.setFault .diverged))
  · split
    · exact queues_performLoss s
    · exact List.prefix_refl _

/-- R18: the Table Engine's notices of an application come before those of the other blocks. -/
theorem queues_application (f : Frame) (h : s.admits f = true) : QueuesBehind (s.staged f) (s.application f) := by
  unfold State.application
  rw [if_pos h]
  refine List.IsPrefix.trans ?_ (queues_takeLoss _ _)
  unfold State.completed
  refine List.IsPrefix.trans ?_ (queues_handOff _ _ _ _ _)
  split
  · exact queues_validated _
  · exact List.prefix_refl _

/-- The first notices of an application stand in the FIFO as they join it. -/
theorem queues_first {s : State} {f : Frame} {first : List NoticeBody} (h : s.admits f = true)
    (hfirst : first <+: (applyFrame s.ctl.station (s.syncStart f) f s.table).1.notices) :
    QueuesBehind ((s.afterStages f).notifyAll first) (s.application f) := by
  obtain ⟨rest, hr⟩ := hfirst
  have hs : (s.staged f) = ((s.afterStages f).notifyAll first).notifyAll rest := by
    unfold State.staged State.notifyAll
    rw [← hr, List.foldl_append]
  exact (hs ▸ queues_notifyAll _ rest).trans (queues_application s f h)

end NoticesOfState

/-! ### PRESENCE -/

section Presence

theorem taken_rpt (s : State) : s.taken.rpt = s.rpt := by rw [taken_eq]

/-- Settles O34: the kind's only effect is its FAULT notice, the first of the application. -/
theorem presence : Obligations.Presence := by
  unfold Obligations.Presence
  intro s f basis digest summary hn hpass hp
  have hcmd : commandOf f = .presence := by
    unfold commandOf
    rw [hp]
  have hgated : gatedStage s.ctl.station false f (Work.begin s.table f)
      = presenceStage s.ctl.station f summary (Work.begin s.table f) := by
    rw [gated_of_passes hpass]
    unfold kindChecks
    rw [hp]
  constructor
  · rw [← hcmd, ← heard_eq_withMember]
    refine leaves_of_gated hn ?_
    rw [hgated]
    unfold presenceStage
    split <;> rfl
  · intro hsum hown hen hfifo
    obtain ⟨hnext, hv⟩ := hn
    have hfirst : [NoticeBody.fault f.sender summary] <+:
        (applyFrame s.taken.ctl.station (s.taken.syncStart f) f s.taken.table).1.notices := by
      rw [taken_ctl, taken_syncStart, taken_table, syncStart_valid hv]
      have h := goesOn_applyFrame s.ctl.station false f s.table
      rw [hgated] at h
      unfold presenceStage at h
      rwa [if_pos ⟨hsum, hown⟩] at h
    have hq := queues_first (taken_admits hv) hfirst
    have hrpt : (s.taken.afterStages f).rpt = s.rpt := taken_rpt s
    have hone := notify_rpt (s.taken.afterStages f) (.fault f.sender summary) (by rw [hrpt]; exact hen)
      (by rw [hrpt]; exact hfifo.le)
    refine ⟨_, hcmd ▸ exec_application hnext, ?_⟩
    refine ⟨⟨s.rpt.number, (s.taken.afterStages f).table.ordinal.truncate 16, .fault f.sender summary⟩, hq.subset ?_, rfl,
      rfl⟩
    show _ ∈ ((s.taken.afterStages f).notify (.fault f.sender summary)).rpt.fifo
    rw [hone, hrpt]
    simp [List.take_of_length_le (show (s.rpt.fifo ++ [_]).length ≤ 32 by simpa using hfifo)]

end Presence

end Sys2Proof.Machine

namespace Sys2Proof.Machine

/-! ### The claims behind a hand-off -/

section HandOffClaims

variable (s : State)

theorem claims_cancelScoop (n : Switch) : ClaimsKept s (s.cancelScoop n) := by
  unfold State.cancelScoop
  split
  · exact ClaimsKept.ite ((claims_endDuty s _).trans (claims_updDrv _ _)) (.refl s)
  · exact .refl s

theorem claims_cancelScoops : ClaimsKept s s.cancelScoops := ClaimsKept.foldl claims_cancelScoop _ s

/-- R18: the Claim Unit's part of a hand-off is behind Station Control's and before the Driver Unit's. -/
theorem handOff_claim (f : Frame) (o : AppOutcome) (began : Bool) (before : GameTable) :
    (s.handOff f o began before).claim = ((s.moveStation s.stateAfter).claimHandOff f o began).claim := by
  unfold State.handOff
  dsimp only
  rw [derived_claim]
  split
  · rw [(claims_cancelScoops _).claim]
  · rfl

theorem reconcile_of_not_member (n : Slot) (h : s.ctl.state ≠ .member) : s.reconcile n = s := by
  refine if_neg ?_
  simp [State.reconciles, h]

theorem foldl_reconcile_of_not_member (l : List Slot) (h : s.ctl.state ≠ .member) : l.foldl State.reconcile s = s := by
  induction l with
  | nil => rfl
  | cons n l ih => rw [List.foldl_cons, reconcile_of_not_member s n h, ih]

theorem presenceAfter_of_not_member (f : Frame) (o : AppOutcome) (h : s.ctl.state ≠ .member) : s.presenceAfter f o = s :=
  if_neg h

theorem buildTick_of_not_member (h : s.ctl.state ≠ .member) : s.buildTick = s :=
  if_neg (by simp [State.tickClaimReady, h])

theorem buildPresence_of_not_member (h : s.ctl.state ≠ .member) : s.buildPresence = s := by
  have hr : ¬s.presenceClaimReady = true := by simp [State.presenceClaimReady, h]
  unfold State.buildPresence
  split
  · exact if_neg hr
  · rfl

/-- R137: at the hand-off of a station that is not MEMBER the Claim Unit takes its own claim and judges its timer, and
builds a JOIN behind a START that began a game. -/
theorem claimHandOff_of_not_member (f : Frame) (o : AppOutcome) (began : Bool) (h : s.ctl.state ≠ .member) :
    s.claimHandOff f o began =
      if began then ((s.takeOwnClaim f o).ticksAfter f o).build ((s.takeOwnClaim f o).ticksAfter f o).joinPayload .rollcall
      else (s.takeOwnClaim f o).ticksAfter f o := by
  have h4 : ((s.takeOwnClaim f o).ticksAfter f o).ctl.state ≠ .member := by
    rw [(kept_ticksAfter _ f o).state, (kept_takeOwnClaim s f o).state]
    exact h
  unfold State.claimHandOff
  dsimp only
  rw [presenceAfter_of_not_member _ f o h4, foldl_reconcile_of_not_member _ _ h4]
  generalize (s.takeOwnClaim f o).ticksAfter f o = u at h4 ⊢
  have h7 : (if began then u.build u.joinPayload .rollcall else u).ctl.state ≠ .member := by
    split
    · rw [(kept_build u _ _).state]
      exact h4
    · exact h4
  rw [buildTick_of_not_member _ h7, buildPresence_of_not_member _ h7]

theorem takeOwnClaim_length (f : Frame) (o : AppOutcome) :
    (s.takeOwnClaim f o).claim.queue.length ≤ s.claim.queue.length := by
  unfold State.takeOwnClaim
  split
  · split
    · next c _ =>
      have hl : ∀ (u : State) p, (u.latchRefused p o).claim.queue = u.claim.queue := fun u p => by
        unfold State.latchRefused
        split <;> rfl
      rw [hl]
      exact List.length_filter_le _ _
    · exact le_refl _
  · exact le_refl _

theorem ticksAfter_of_not_tick (f : Frame) (o : AppOutcome) (h : f.payload.isTick = false) :
    s.ticksAfter f o = s.judgeTickTimer := by
  unfold State.ticksAfter
  split
  · next hp => rw [hp] at h; cases h
  · rfl

theorem mem_insertClaim (c d : Claim) (q : List Claim) : d ∈ insertClaim c q ↔ d = c ∨ d ∈ q := by
  induction q with
  | nil => simp [insertClaim]
  | cons e q ih =>
    unfold insertClaim
    split
    · rw [List.mem_cons, ih, List.mem_cons]
      tauto
    · rw [List.mem_cons]

theorem addClaim_queue (p : Payload) (o : Origin) :
    (s.addClaim p o).claim.queue = insertClaim (s.newClaim p o) s.claim.queue := rfl

/-- R129: with room in the queue a claim that may be built is entered. -/
theorem build_queue (p : Payload) (o : Origin) (hb : s.mayBuild p.kind = true) (hl : s.claim.queue.length < 8) :
    (s.build p o).claim.queue = insertClaim (s.newClaim p o) s.claim.queue := by
  unfold State.build State.enterClaim
  rw [if_pos hb, if_pos (show s.claim.queue.length < Config.claimCapacity from hl), addClaim_queue]

theorem Kept.joinPayload {s t : State} (h : Kept s t) : t.joinPayload = s.joinPayload := by
  unfold State.joinPayload State.occupiedMask State.boundState
  rw [h.cfg, h.sen, h.ctl]

end HandOffClaims

/-! ### START -/

section Start

variable {s : State} {f : Frame}

/-- R29, R17, R16: the table that the application of a START that begins a game leaves. -/
def GameTable.begun (t : GameTable) : GameTable :=
  { GameTable.attractDefaults t.profile with phase := .rollcall, rollcallRemaining := 10, ordinal := 1#32 }

theorem gated_start {t : GameTable} (own : Station) (sync : Bool) (hp : f.payload = .start) :
    gatedStage own sync f (Work.begin t f) = startStage sync f (Work.begin t f) := by
  have hg : (Work.begin t f).table.gateRefuses f = false := by
    rw [← Bool.not_eq_true, gateRefuses_iff, hp]
    exact fun h => h.2.1 rfl
  unfold gatedStage
  rw [hg, if_neg (by decide)]
  unfold kindChecks
  rw [hp]

theorem gated_newGame {t : GameTable} (own : Station) {sync : Bool} (hp : f.payload = .start)
    (hb : sync = true ∨ t.phase = .attract) :
    gatedStage own sync f (Work.begin t f) = ((Work.begin t f).newGame f.sender).applied := by
  rw [gated_start own sync hp]
  exact if_pos hb

/-- R52: slots that are not there are not lit. -/
theorem light_absent (b : Bool) (v : Vector SlotRecord 8) (h : ∀ n : Slot, v[n] = .absent) :
    vmap (fun _ r => light b r) v = v :=
  vmap_id _ _ fun n => by rw [h n]; rfl

theorem newGame_slots (t : GameTable) (n : Slot) : t.newGame.slots[n] = .absent :=
  Vector.getElem_replicate _

theorem newGame_applied_table (w : Work) (k : Station) : (w.newGame k).applied.1.table = w.table.newGame := rfl

theorem applyFrame_begun {t : GameTable} (own : Station) {sync : Bool} (hp : f.payload = .start)
    (hb : sync = true ∨ t.phase = .attract) : (applyFrame own sync f t).1.table = t.begun := by
  have hr := applyFrame_recomputed own sync f t
  rw [kindStage_table, gated_newGame own hp hb, newGame_applied_table, completionChecked_of_ne _ (by exact nofun),
    recomputedFrom_iff] at hr
  rw [hr, light_absent _ _ (newGame_slots _)]
  rfl

/-- R4, R29: the START begins a game. -/
theorem syncStart_of_counted (hp : f.payload = .start) (hv : s.isValid = false) (hst : s.ctl.state = .syncing) {n : Nat}
    (hc : s.syncCounted = some n) (hn : 1000 * Config.ms ≤ n) : s.syncStart f = true := by
  unfold State.syncStart
  rw [hv, hp, hst, hc]
  simpa using hn

/-- What the application of a START that begins a game finds: it is a sync start, or the VALID replica is in ATTRACT. -/
structure Begins (s : State) (f : Frame) : Prop where
  payload : f.payload = .start
  loss    : s.eng.loss = none
  how     : s.syncStart f = true ∧ s.ctl.state = .syncing ∨ s.isValid = true ∧ s.syncStart f = false ∧ s.table.phase = .attract

/-- The state between the Table Engine and the hand-off: a sync start's validity is set (R1). -/
def State.validStaged (s : State) (f : Frame) : State := if s.syncStart f then (s.staged f).validated else s.staged f

namespace Begins

theorem admits (h : Begins s f) : s.admits f = true := by
  unfold State.admits
  rcases h.how with ⟨hs, -⟩ | ⟨hv, -, -⟩
  · rw [hs, Bool.or_true]
  · rw [hv, Bool.true_or]

theorem begun (h : Begins s f) : beginsGame (s.syncStart f) f s.table = true := by
  unfold beginsGame
  rw [h.payload]
  rcases h.how with ⟨hs, -⟩ | ⟨-, -, ha⟩
  · rw [hs]; rfl
  · rw [ha]; simp

theorem start (h : Begins s f) : s.syncStart f = true ∨ s.table.phase = .attract := by
  rcases h.how with ⟨hs, -⟩ | ⟨-, -, ha⟩
  · exact .inl hs
  · exact .inr ha

theorem table (h : Begins s f) : s.appliedTable f = s.table.begun := applyFrame_begun _ h.payload h.start

theorem staged_table (h : Begins s f) : (s.staged f).table = s.table.begun := by
  rw [(staged_kept s f).table]
  exact h.table

theorem staged_eng (h : Begins s f) :
    (s.staged f).eng =
      { s.eng with history := [(1#32, s.table.begun.digest)], tally := s.tallyAfter f } := by
  rw [(staged_kept s f).eng]
  unfold State.afterStages State.historyAfter
  dsimp only
  rw [h.begun, if_pos rfl, show (applyFrame s.ctl.station (s.syncStart f) f s.table).1.table = s.table.begun from h.table]
  rfl

theorem not_diverges (h : Begins s f) : s.diverges f = false := by
  unfold State.diverges State.comparison
  rw [h.payload]
  rfl

/-- R3: no loss waits behind it. -/
theorem application_eq (h : Begins s f) : s.application f = s.completed f := by
  have hl : (s.completed f).eng.loss = none := by
    unfold State.completed
    rw [handOff_eng]
    split
    · rw [validated_eng]
      exact (congrArg Engine.loss h.staged_eng).trans h.loss
    · exact (congrArg Engine.loss h.staged_eng).trans h.loss
  unfold State.application State.takeLoss
  rw [if_pos h.admits, h.not_diverges, if_neg (by decide), hl, if_neg (by decide)]

theorem completed_eq (h : Begins s f) :
    s.completed f =
      (s.validStaged f).handOff f (applyFrame s.ctl.station (s.syncStart f) f s.table).2 true s.table := by
  unfold State.completed State.validStaged State.staged
  dsimp only
  rw [h.begun]

theorem validStaged_eng (h : Begins s f) :
    (s.validStaged f).eng.replica = .valid ∧ (s.validStaged f).eng.history = [(1#32, s.table.begun.digest)] := by
  unfold State.validStaged
  rcases h.how with ⟨hs, -⟩ | ⟨hv, hs, -⟩
  · rw [if_pos hs, validated_eng, h.staged_eng]
    exact ⟨rfl, rfl⟩
  · rw [if_neg (by rw [hs]; decide), h.staged_eng]
    exact ⟨isValid_iff.1 hv, rfl⟩

theorem validStaged_game (h : Begins s f) : SameGame (s.setTable s.table.begun) (s.validStaged f) := by
  have h0 : SameGame (s.setTable s.table.begun) (s.afterStages f) := by
    refine ⟨rfl, rfl, rfl, h.table, rfl, rfl, rfl, rfl⟩
  have h1 := h0.trans (staged_kept s f).game
  exact SameGame.ite (h1.trans (game_validated _)) h1

theorem validStaged_state (h : Begins s f) (hr : s.isValid = true → s.ctl.state = .ready) :
    (s.validStaged f).ctl.state = .ready := by
  have hst : (s.staged f).ctl.state = s.ctl.state := (staged_kept s f).state
  unfold State.validStaged
  rcases h.how with ⟨hs, hsy⟩ | ⟨hv, hs, -⟩
  · rw [if_pos hs, validated_state, hst, if_pos hsy]
  · rw [if_neg (by rw [hs]; decide), hst, hr hv]

/-- R30: what the neighbouring blocks' conditions look at, behind the table of the new game. -/
theorem stateAfter_begun {v : State} (h : SameGame (s.setTable s.table.begun) v) (hst : v.ctl.state = .ready) :
    v.stateAfter = if s.ctl.listener || s.bus.muted then .bystander else .ready := by
  have hph : v.table.phase = .rollcall := by rw [h.table]; rfl
  have hown : v.table.members[v.ctl.station].state = .absent := by
    rw [h.table]
    exact congrArg Member.state (Vector.getElem_replicate _)
  have hm : v.bus.muted = s.bus.muted := by rw [h.bus]; rfl
  unfold State.stateAfter
  rw [hst, h.listener, hm, hph, hown]
  rfl

/-- R30, R133: the JOIN that a READY station builds. -/
theorem join_built {v : State} (o : AppOutcome) (hg : SameGame (s.setTable s.table.begun) v) (hst : v.ctl.state = .ready)
    (hv : v.isValid = true) (hp : f.payload = .start) (hl : s.ctl.listener = false) (hm : s.bus.muted = false)
    (hq : v.claim.queue.length < 8) :
    ∃ c ∈ (v.handOff f o true s.table).claim.queue, c.state = .waiting ∧ c.origin = .rollcall
      ∧ c.payload = .join s.ctl.profileDigest s.cfg.declaredMask s.occupiedMask (rolesByte s.cfg.trough s.cfg.start) := by
  have hafter : v.stateAfter = v.ctl.state := by
    rw [stateAfter_begun hg hst, hl, hm, hst]
    rfl
  have hne : v.ctl.state ≠ .member := by rw [hst]; decide
  rw [handOff_claim, hafter, moveStation_same, claimHandOff_of_not_member v f o true hne, if_pos rfl]
  have hk := (kept_takeOwnClaim v f o).trans (kept_ticksAfter _ f o)
  have hlen : ((v.takeOwnClaim f o).ticksAfter f o).claim.queue.length < 8 := by
    rw [ticksAfter_of_not_tick _ f o (by rw [hp]; rfl), judgeTickTimer_claim]
    exact (takeOwnClaim_length v f o).trans_lt hq
  have hmay : ((v.takeOwnClaim f o).ticksAfter f o).mayBuild .join = true := by
    have hmut : v.bus.muted = false := by rw [hg.bus]; exact hm
    have hval : ((v.takeOwnClaim f o).ticksAfter f o).isValid = true := by
      unfold State.isValid
      rw [hk.eng]
      exact hv
    unfold State.mayBuild
    rw [hk.listener, hk.bus, hval, hk.state, hg.listener, hst, hmut]
    simp [hl]
  rw [build_queue _ _ _ hmay hlen]
  refine ⟨_, (mem_insertClaim _ _ _).2 (.inl rfl), rfl, rfl, ?_⟩
  show State.joinPayload _ = _
  rw [hk.joinPayload]
  unfold State.joinPayload State.occupiedMask State.boundState
  rw [hg.cfg, hg.sen, hg.ctl]
  rfl

end Begins

/-- R29: the START and PHASE notices come first. -/
theorem start_notices {t : GameTable} (own : Station) {sync : Bool} (hp : f.payload = .start)
    (hb : sync = true ∨ t.phase = .attract) :
    [NoticeBody.start f.sender, .phase .rollcall 1 0 1 false 0] <+: (applyFrame own sync f t).1.notices := by
  have h := goesOn_applyFrame own sync f t
  rwa [gated_newGame own hp hb] at h

end Start

end Sys2Proof.Machine

namespace Sys2Proof.Machine

section StartSettled

variable {s : State} {f : Frame}

theorem notifyAll_claim (s : State) (l : List NoticeBody) : (s.notifyAll l).claim = s.claim := by
  induction l generalizing s with
  | nil => rfl
  | cons b l ih => exact (ih (s.notify b)).trans rfl

theorem staged_claim (s : State) (f : Frame) : (s.staged f).claim = s.claim := by
  unfold State.staged
  rw [notifyAll_claim]
  rfl

theorem moveStation_queue_of_not_member {s : State} (st : StationState) (h : s.ctl.state ≠ .member) :
    (s.moveStation st).claim.queue = s.claim.queue := by
  by_cases hs : s.ctl.state = st
  · rw [← hs, moveStation_same]
  · rw [moveStation_claim s st hs]
    exact if_neg h

/-- R1: a validation outside MEMBER leaves the queue. -/
theorem validated_queue (s : State) (h : s.ctl.state ≠ .member) : s.validated.claim.queue = s.claim.queue := by
  have hk := kept_clearFault (s.updEng fun e => { e with replica := .valid }) .diverged
  have hc := (claims_clearFault (s.updEng fun e => { e with replica := .valid }) .diverged).claim
  unfold State.validated
  dsimp only
  split
  · rw [moveStation_queue_of_not_member _ (by rw [hk.state]; exact h), hc]
    rfl
  · rw [hc]
    rfl

theorem validStaged_queue (h : s.ctl.state ≠ .member) : (s.validStaged f).claim.queue = s.claim.queue := by
  unfold State.validStaged
  split
  · rw [validated_queue _ (by rw [(staged_kept s f).state]; exact h), staged_claim]
  · rw [staged_claim]

/-- R182: a notice that finds room. -/
theorem notify_fifo {s : State} {b : NoticeBody} (he : s.rpt.enabled = true) (hl : s.rpt.fifo.length < 32) :
    (s.notify b).rpt =
      { s.rpt with
        number := s.rpt.number + 1#8
        fifo := s.rpt.fifo ++ [{ number := s.rpt.number, ordinal := s.table.ordinal.truncate 16, body := b }] } := by
  rw [notify_rpt s b he hl.le, List.take_of_length_le (by rw [List.length_append]; exact hl)]

theorem taken_claim (s : State) : s.taken.claim = s.claim := by rw [taken_eq]
theorem taken_bus (s : State) :
    s.taken.bus =
      { s.bus with inbound := if s.eng.inFlight.isSome then s.bus.inbound else s.bus.inbound.drop 1 } := by rw [taken_eq]

/-- R29, R4: the hypotheses of a START that begins a game, behind the taking of the frame. -/
theorem begins_taken (hp : f.payload = .start) (hl : s.eng.loss = none)
    (h : s.isValid = true ∧ s.table.phase = .attract
      ∨ s.isValid = false ∧ s.ctl.state = .syncing ∧ ∃ n, s.syncCounted = some n ∧ 1000 * Config.ms ≤ n) :
    Begins s.taken f := by
  refine ⟨hp, by rw [taken_eng]; exact hl, ?_⟩
  rw [taken_syncStart, taken_ctl, taken_isValid, taken_table]
  rcases h with ⟨hv, ha⟩ | ⟨hv, hst, n, hc, hn⟩
  · exact .inr ⟨hv, syncStart_valid hv, ha⟩
  · exact .inl ⟨syncStart_of_counted hp hv hst hc hn, hst⟩

theorem begins_frame (h : Begins s.taken f) : ApplicationFrame s (s.taken.application f) := by
  have ht := taken_game s
  have h0 : SameGame (s.setTable s.table.begun) (s.taken.setTable s.table.begun) :=
    ⟨ht.pending, ht.now, ht.cfg, rfl, ht.sw, ht.sen, ht.ctl, ht.bus⟩
  have hg := game_application s.taken f h.admits
  rw [h.table, taken_table] at hg
  exact (h0.trans hg).frame rfl

/-- R29, R182: the first two notices of a new game. -/
theorem begins_fifo (h : Begins s.taken f) (he : s.rpt.enabled = true) (hl : s.rpt.fifo.length + 2 ≤ 32) :
    ((s.taken.application f).rpt.fifo.drop s.rpt.fifo.length).take 2 =
      [{ number := s.rpt.number, ordinal := 1#16, body := .start f.sender },
        { number := s.rpt.number + 1#8, ordinal := 1#16, body := .phase .rollcall 1 0 1 false 0 }] := by
  have hr : (s.taken.afterStages f).rpt = s.rpt := taken_rpt s
  have hord : (s.taken.afterStages f).table.ordinal = 1#32 :=
    congrArg GameTable.ordinal (h.table : (s.taken.afterStages f).table = _)
  have hn1 := notify_fifo (s := s.taken.afterStages f) (b := .start f.sender) (by rw [hr]; exact he)
    (by rw [hr]; omega)
  have hn2 := notify_fifo (s := (s.taken.afterStages f).notify (.start f.sender)) (b := .phase .rollcall 1 0 1 false 0)
    (by rw [hn1, hr]; exact he) (by rw [hn1, hr]; simp; omega)
  obtain ⟨rest, hrest⟩ := queues_first h.admits (start_notices _ h.payload h.start)
  have hfifo : ((s.taken.afterStages f).notifyAll [.start f.sender, .phase .rollcall 1 0 1 false 0]).rpt.fifo =
      s.rpt.fifo ++ [{ number := s.rpt.number, ordinal := 1#16, body := .start f.sender },
        { number := s.rpt.number + 1#8, ordinal := 1#16, body := .phase .rollcall 1 0 1 false 0 }] := by
    show (((s.taken.afterStages f).notify (.start f.sender)).notify (.phase .rollcall 1 0 1 false 0)).rpt.fifo = _
    have ht : ((s.taken.afterStages f).notify (.start f.sender)).table.ordinal = 1#32 := hord
    rw [hn2, ht, hn1, hord, hr]
    simp
  rw [← hrest, hfifo]
  simp

/-- R30, R19: a START in a game. -/
theorem addPlayer_table (hn : TakesNext s f) (hph : s.table.phase ≠ .attract) (hp : f.payload = .start) :
    Leaves .start s (addPlayerStage f (Work.begin s.table f)).1.table := by
  have hcmd : commandOf f = .start := by unfold commandOf; rw [hp]
  rw [← hcmd]
  refine leaves_of_gated hn ?_
  rw [gated_start _ _ hp]
  unfold startStage
  rw [if_neg]
  rintro (h | h)
  · cases h
  · exact hph h

/-- R30: the first two checks. -/
abbrev TooLate (t : GameTable) : Prop := t.phase = .ballEnd ∨ t.ballNumber ≠ 1 ∨ t.currentPlayer ≠ 0

theorem addPlayerStage_late (f : Frame) {w : Work} (h : TooLate w.table) : addPlayerStage f w = w.refuse f .tooLate := by
  unfold addPlayerStage
  by_cases hb : w.table.phase = .ballEnd
  · rw [if_pos hb]
  · rw [if_neg hb, if_pos (h.resolve_left hb)]

theorem addPlayerStage_of_not_late (f : Frame) {w : Work} (h : ¬TooLate w.table) :
    addPlayerStage f w =
      if w.table.members[f.sender].state ≠ .member then w.refuse f .notMember
      else if w.table.playerCount = 4 then w.refuse f .playersFull
      else ((w.upd fun t => { t with playerCount := t.playerCount + 1 }).notePhase).applied := by
  unfold addPlayerStage
  rw [if_neg fun hb => h (.inl hb), if_neg fun hb => h (.inr hb)]

/-- Settles O24: a new game by `Begins`, a START in a game by the checks of R30 in their order. -/
theorem start : Obligations.Start := by
  unfold Obligations.Start
  constructor
  · intro s f hn hp hl how
    have h := begins_taken hp hl how
    have hcmd : exec .start s = .next (s.taken.application f) := by
      have := exec_application hn
      rwa [show commandOf f = .start by unfold commandOf; rw [hp]] at this
    have htable : (s.taken.application f).table = s.table.begun := by
      rw [application_table _ _ h.admits, h.table, taken_table]
    obtain ⟨hrep, hhist⟩ := h.validStaged_eng
    have heng : (s.taken.application f).eng = (s.taken.validStaged f).eng := by
      rw [h.application_eq, h.completed_eq, handOff_eng]
    have hstate : (s.taken.application f).ctl.state = (s.taken.validStaged f).stateAfter := by
      rw [h.application_eq, h.completed_eq, handOff_state]
    have hready : (s.isValid = true → s.ctl.state = .ready) → (s.taken.validStaged f).ctl.state = .ready := fun hr =>
      h.validStaged_state (by rw [taken_isValid, taken_ctl]; exact hr)
    refine ⟨_, hcmd, htable, by rw [isValid_iff, heng, hrep], ?_, begins_frame h, begins_fifo h, fun hr hlis hmut => ?_,
      fun hr hbar => ?_⟩
    · rw [heng, hhist, htable, taken_table]
    · refine ⟨?_, fun hq => ?_⟩
      · rw [hstate, Begins.stateAfter_begun h.validStaged_game (hready hr), taken_ctl, taken_bus]
        simp [hlis, hmut]
      · have hne : s.taken.ctl.state ≠ .member := by
          rcases h.how with ⟨-, hsy⟩ | ⟨hv, -, -⟩
          · rw [hsy]; decide
          · rw [taken_ctl, hr ((taken_isValid s).symm.trans hv)]; decide
        have hjoin := Begins.join_built (applyFrame s.taken.ctl.station (s.taken.syncStart f) f s.taken.table).2
          h.validStaged_game (hready hr) (isValid_iff.2 hrep) hp (by rw [taken_ctl]; exact hlis)
          (by rw [taken_bus]; exact hmut) (by rw [validStaged_queue hne, taken_claim]; exact hq)
        rw [h.application_eq, h.completed_eq]
        rw [taken_eq] at hjoin
        rw [taken_eq]
        exact hjoin
    · rw [hstate, Begins.stateAfter_begun h.validStaged_game (hready hr), taken_ctl, taken_bus]
      rcases hbar with hb | hb <;> simp [hb]
  · intro s f hn hph hp b late
    have hL := addPlayer_table hn hph hp
    have hmember : (Work.begin s.table f).table.members[f.sender].state = s.table.members[f.sender].state := by
      rw [begin_table, heard_eq_withMember]
      simp [withMember]
    have hcount : (Work.begin s.table f).table.playerCount = s.table.playerCount := rfl
    refine ⟨fun hlate => ?_, fun hlate hm => ?_, fun hlate hm hc => ?_, fun hlate hm hc => ?_⟩
    · rwa [addPlayerStage_late f hlate] at hL
    · rwa [addPlayerStage_of_not_late f hlate, if_pos (by rwa [hmember])] at hL
    · rwa [addPlayerStage_of_not_late f hlate, if_neg (by rwa [hmember, not_not]), if_pos (hcount.trans hc)] at hL
    · rwa [addPlayerStage_of_not_late f hlate, if_neg (by rwa [hmember, not_not]), if_neg (hcount ▸ hc)] at hL

end StartSettled

end Sys2Proof.Machine

namespace Sys2Proof.Machine

/-! ### The end of a frame -/

section Reports

variable {s t : State}

theorem launchedIn_eq (q : List Claim) : launchedIn q = launchedClaims q := by
  unfold launchedIn launchedClaims
  rw [List.countP_eq_length_filter]

/-- R127, R170: a report to the Claim Unit changes the claims, and the launches unapplied as claims leave the queue. -/
structure ClaimsReported (s t : State) : Prop where
  rest     : t = { s with claim := t.claim, drv := t.drv }
  launches : LaunchesFollow s t

theorem ClaimsReported.refl (s : State) : ClaimsReported s s :=
  ⟨rfl, by unfold LaunchesFollow; rw [Nat.sub_self, Nat.sub_zero]⟩

theorem claimsReported_setQueue (s : State) (q : List Claim) : ClaimsReported s (s.setQueue q) :=
  ⟨rfl, by unfold LaunchesFollow; rw [launchedIn_eq, launchedIn_eq]; rfl⟩

/-- R116: the report ACCEPTED. -/
theorem claimsReported_reportAccepted (s : State) : ClaimsReported s s.reportAccepted := by
  unfold State.reportAccepted State.reported
  split
  · exact .refl s
  · split
    · exact claimsReported_setQueue s _
    · have h := claimsReported_setQueue s (setClaimState ‹Claim› (.accepted s.claim.serial) s.claim.queue)
      exact ⟨rfl, h.launches⟩

theorem reportAccepted_queue {c : Claim} (hc : s.inFlightClaim = some c) (hs : c.state = .inFlight false) :
    s.reportAccepted.claim.queue = setClaimState c (.accepted s.claim.serial) s.claim.queue := by
  unfold State.reportAccepted State.reported
  rw [hc]
  dsimp only
  rw [hs, if_neg (by decide)]
  rfl

theorem reportAccepted_flushed {c : Claim} (hc : s.inFlightClaim = some c) (hs : c.state = .inFlight true) :
    s.reportAccepted.claim.queue = removeClaim c s.claim.queue := by
  unfold State.reportAccepted State.reported
  rw [hc]
  dsimp only
  rw [hs, if_pos rfl]
  rfl

end Reports

section FrameEnds

variable {s : State} {bits : List Bool} {g : Frame}

theorem exec_endMark (v : Bool) (h : s.inFrame = true) : exec (.endMark bits v) s = .next (s.frameEnd bits v) := if_pos h

/-- R120, R2: what an appended frame makes of the state. -/
theorem appendFrame_eq (s : State) (g : Frame) :
    s.appendFrame g =
      { s with
        bus := { s.bus with inbound := s.bus.inbound ++ [g] }
        eng := { s.eng with
          sync := if g.payload.isTick = true ∧ s.eng.sync ≠ .stopped then s.freshSync else s.eng.sync } } := by
  unfold State.appendFrame
  dsimp only
  by_cases hg : g.payload.isTick = true
  · rw [if_pos hg, restartSync_eq]
    by_cases hs : s.eng.sync = .stopped
    · simp only [updBus_eng, hs, if_true, ne_eq, not_true_eq_false, and_false, if_false]
      rfl
    · simp only [updBus_eng, hs, hg, if_false, ne_eq, not_false_eq_true, and_self, if_true]
      rfl
  · rw [if_neg hg, if_neg fun h => hg h.1]
    rfl

theorem quietCheck_unscored (s : State) : s.quietCheck false = s := if_neg fun h => by cases h.2.1

/-- R115: a sound frame with room for it is not vetoed by a station that checks it. -/
theorem drivesVeto_eq_false (hs : s.sound bits = true) (hl : s.bus.inbound.length < 4) : s.drivesVeto bits = false := by
  unfold State.drivesVeto
  rw [hs, (overrun_eq_false s).2 hl]
  simp

/-- Settles O10: no veto is driven, so the frame is reported ACCEPTED and appended (`appendFrame_eq`). -/
theorem frameAccepted : Obligations.FrameAccepted := by
  unfold Obligations.FrameAccepted
  intro bits s g hin hch hso hg hl
  have hveto := drivesVeto_eq_false hso hl
  have hdom : s.slotDominant bits false = false := by
    unfold State.slotDominant
    rw [hveto]
    rfl
  have hquiet : s.ctl.state ≠ .quiet := by
    intro h
    unfold State.checksFrames at hch
    rw [h] at hch
    simp at hch
  have hend : s.frameEnd bits false =
      ((s.endFrame bits true false true false).reportEnd s.transmitting true).appendFrame g := by
    have hk := kept_reportEnd (s.endFrame bits true false true false) s.transmitting true
    have hc : ((s.endFrame bits true false true false).reportEnd s.transmitting true).checksFrames = true :=
      hk.checksFrames.trans hch
    unfold State.frameEnd
    dsimp only
    rw [hdom, hso, hg]
    simp only [Bool.not_true, Bool.not_false, Bool.and_false, if_true]
    rw [quietCheck_unscored]
    unfold State.deliver
    dsimp only
    rw [if_pos hc]
  have hbus : (s.endFrame bits true false true false).bus =
      { s.bus with
        link := .idle, busFree := false, freeDue := s.now + Config.freeAfterFrame, awaitEnd := false, stray := false
        yielding := if s.transmitting then true else if rxSender bits = s.ctl.station then s.bus.yielding else false
        score := s.bus.score - 1, vetoDriven := false } := by
    unfold State.endFrame State.yieldAfter State.scoreAfter State.cleanRunAfter
    rw [hch, hveto, if_neg hquiet]
    rfl
  have hrep : ClaimsReported (s.endFrame bits true false true false)
      ((s.endFrame bits true false true false).reportEnd s.transmitting true) := by
    unfold State.reportEnd
    split
    · exact claimsReported_reportAccepted _
    · exact .refl _
  refine ⟨_, (exec_endMark false hin).trans (congrArg Host.Outcome.next hend), ?_⟩
  have huntx : s.transmitting = false →
      ((s.endFrame bits true false true false).reportEnd s.transmitting true) = s.endFrame bits true false true false :=
    fun h => by rw [h]; rfl
  have htx : s.transmitting = true →
      ((s.endFrame bits true false true false).reportEnd s.transmitting true) =
        (s.endFrame bits true false true false).reportAccepted := fun h => by rw [h]; rfl
  have hflight : (s.endFrame bits true false true false).inFlightClaim = s.inFlightClaim := rfl
  obtain ⟨hrest, hlaunch⟩ := hrep
  rw [appendFrame_eq]
  generalize (s.endFrame bits true false true false).reportEnd s.transmitting true = u at hrest hlaunch huntx htx
  have hub : u.bus = (s.endFrame bits true false true false).bus := by rw [hrest]
  have hue : u.eng = s.eng := by rw [hrest]; rfl
  have hfresh : u.freshSync = if s.bus.stuck then .held 0 else .running s.now := by
    unfold State.freshSync
    rw [hub, hbus, show u.now = s.now by rw [hrest]; rfl]
  refine ⟨?_, ?_, fun h => ⟨?_, ?_⟩, hlaunch, fun c h hc hst => ?_, fun c h hc hst => ?_, ?_⟩
  · rw [hub, hbus]
  · rw [hue, hfresh]
  · show u.claim = _
    rw [huntx h]
    rfl
  · show u.drv = _
    rw [huntx h]
    rfl
  · show u.claim.queue = _
    rw [htx h]
    exact reportAccepted_queue (hflight.trans hc) hst
  · show u.claim.queue = _
    rw [htx h]
    exact reportAccepted_flushed (hflight.trans hc) hst
  · rw [hrest]
    rfl

/-! #### Listeners -/

/-- A listener drives no veto and reports nothing: what becomes of a frame at its end mark. -/
theorem frameEnd_listener (v : Bool) (hl : s.ctl.listener = true) (hr : s.bus.link = .receiving) :
    s.frameEnd bits v =
      if v then s.endFrame bits false false (s.sound bits) false
      else (s.endFrame bits true false (s.sound bits) false).deliver (rxFrame bits) (s.sound bits) s.overrun := by
  have hch : s.checksFrames = false := by simp [State.checksFrames, hl]
  have htx : s.transmitting = false := by simp [State.transmitting, hr]
  have hrd : s.readFrame bits = rxFrame bits := by simp [State.readFrame, State.ownFrame, htx]
  have hdom : s.slotDominant bits v = v := by simp [State.slotDominant, State.drivesVeto, hch]
  unfold State.frameEnd
  dsimp only
  rw [hdom, hch, htx, hrd]
  simp only [Bool.false_and, quietCheck_unscored]
  cases v <;> rfl

theorem endFrame_listener_score (hl : s.ctl.listener = true) (a sc cl m : Bool) :
    (s.endFrame bits a sc cl m).bus.score = s.bus.score := by
  have hch : s.checksFrames = false := by simp [State.checksFrames, hl]
  show s.scoreAfter a sc = _
  unfold State.scoreAfter
  rw [hch]
  rfl

/-- R125: a listener that can take an accepted frame appends it. -/
theorem deliver_listener_takes {o : Bool} (hl : s.ctl.listener = true) (ho : o = false) :
    s.deliver (some g) true o = s.appendFrame g := by
  have hch : ¬s.checksFrames = true := by simp [State.checksFrames, hl]
  unfold State.deliver
  dsimp only
  rw [if_neg hch, if_pos hl, if_pos ⟨rfl, ho⟩]

/-- R125: a listener that cannot take an accepted frame loses the validity it has. -/
theorem deliver_listener_loses {f : Option Frame} {so o : Bool} (hl : s.ctl.listener = true) (h : so = false ∨ o = true) :
    s.deliver f so o = if s.isValid then s.causeLoss .overrun else s := by
  have hch : ¬s.checksFrames = true := by simp [State.checksFrames, hl]
  have hno : ¬(so = true ∧ o = false) := by
    rintro ⟨h1, h2⟩
    rcases h with h | h
    · rw [h1] at h
      cases h
    · rw [h2] at h
      cases h
  unfold State.deliver
  split
  · by_cases hv : s.isValid = true
    · rw [if_pos ⟨hl, hv⟩, if_pos hv]
    · rw [if_neg fun h => hv h.2, if_neg hv]
  · rw [if_neg hch, if_pos hl, if_neg hno]

/-- Settles O14, by the three ends that a frame has at a listener. -/
theorem listenerFrames : Obligations.ListenerFrames := by
  unfold Obligations.ListenerFrames
  intro bits s hl hr hq
  have hin : s.inFrame = true := by simp [State.inFrame, hr]
  refine ⟨⟨_, (exec_endMark true hin).trans (congrArg Host.Outcome.next (frameEnd_listener true hl hr)), rfl, rfl⟩,
    fun g hs hg hlen => ?_, fun hno => ?_⟩
  · have hov : s.overrun = false := (overrun_eq_false s).2 hlen
    refine ⟨_, (exec_endMark false hin).trans (congrArg Host.Outcome.next (frameEnd_listener false hl hr)), ?_⟩
    rw [if_neg (by decide), hg, hs, deliver_listener_takes (s := s.endFrame bits true false true false) hl hov, appendFrame_eq]
    exact ⟨rfl, rfl, endFrame_listener_score (bits := bits) hl true false true false⟩
  · have hlost : s.sound bits = false ∨ s.overrun = true := hno.imp_right fun h => by
      unfold State.overrun
      exact decide_eq_true h
    have hend := (frameEnd_listener (bits := bits) false hl hr).trans (if_neg (by decide))
    rw [deliver_listener_loses (s := s.endFrame bits true false (s.sound bits) false) hl hlost] at hend
    have hval : (s.endFrame bits true false (s.sound bits) false).isValid = s.isValid := rfl
    refine ⟨fun hv hf => ?_, fun hv => ?_⟩
    · rw [if_pos (hval.trans hv)] at hend
      have hc : (s.endFrame bits true false (s.sound bits) false).causeLoss .overrun =
          (s.endFrame bits true false (s.sound bits) false).performLoss := by
        refine if_neg ?_
        show ¬s.eng.inFlight.isSome = true
        rw [hf]
        decide
      rw [hc] at hend
      refine ⟨_, (exec_endMark false hin).trans (congrArg Host.Outcome.next hend), performLoss_isValid _, ?_, ?_, ?_, ?_, ?_⟩
      · rw [performLoss_state]
        exact if_neg hq
      · rw [performLoss_bus]
      · rw [performLoss_eng]
      · rw [performLoss_eng]
      · exact (game_performLoss _).table
    · rw [if_neg (by rw [hval, hv]; decide)] at hend
      exact ⟨_, (exec_endMark false hin).trans (congrArg Host.Outcome.next hend), rfl, rfl, rfl⟩

/-! #### QUIET -/

theorem or_quiet_set (x : Byte) : (x ||| StationFault.quiet.bit) &&& StationFault.quiet.bit ≠ 0#8 := by
  revert x
  decide +kernel

theorem quiet_of_masked {x y : Byte} (h : x &&& 0xBF#8 = y &&& 0xBF#8) :
    x &&& StationFault.quiet.bit = y &&& StationFault.quiet.bit := by
  have mask : ∀ z : Byte, z &&& StationFault.quiet.bit = (z &&& 0xBF#8) &&& StationFault.quiet.bit := by decide +kernel
  rw [mask x, mask y, h]

theorem andNot_quiet_masked (x : Byte) : (x &&& ~~~StationFault.quiet.bit) &&& 0xBF#8 = x &&& 0xBB#8 := by
  revert x
  decide +kernel

/-- R122: the entry to QUIET up to the loss of validity. -/
def State.quieted (s : State) : State :=
  (((s.setFault .quiet).moveStation .quiet).flushClaims).updBus fun b => { b with cleanRun := 0 }

theorem enterQuiet_eq (s : State) : s.enterQuiet = ((s.quieted.causeLoss .quiet).deriveDuties).refreshLamps := rfl

section Quieted

variable (s : State)

theorem flushClaims_ctl : s.flushClaims.ctl = s.ctl := rfl

theorem quieted_state : s.quieted.ctl.state = .quiet := by
  show ((s.setFault .quiet).moveStation .quiet).flushClaims.ctl.state = _
  rw [flushClaims_ctl, moveStation_state]

theorem quieted_faults : s.quieted.ctl.faults = s.ctl.faults ||| StationFault.quiet.bit := by
  show ((s.setFault .quiet).moveStation .quiet).flushClaims.ctl.faults = _
  rw [flushClaims_ctl, moveStation_faults, setFault_faults]

theorem quieted_bus : s.quieted.bus = { s.bus with cleanRun := 0 } := by
  show { ((s.setFault .quiet).moveStation .quiet).bus with cleanRun := 0 } = _
  rw [moveStation_bus, (kept_setFault s .quiet).bus]

theorem quieted_table : s.quieted.table = s.table := by
  show ((s.setFault .quiet).moveStation .quiet).flushClaims.table = _
  rw [(kept_flushClaims _).table, (game_moveStation _ _).table, (kept_setFault s .quiet).table]

/-- R122: entering QUIET touches the sync silence timer alone. -/
theorem quieted_eng : s.quieted.eng = { s.eng with sync := s.quieted.eng.sync } := by
  show ((s.setFault .quiet).moveStation .quiet).eng = { s.eng with sync := ((s.setFault .quiet).moveStation .quiet).eng.sync }
  rw [moveStation_eng, Engine.moved_of_ne (by decide), (kept_setFault s .quiet).eng]
  split <;> rfl

theorem mem_quieted_queue {c : Claim} (h : c ∈ s.quieted.claim.queue) : c.state ≠ .waiting := by
  rcases mem_flushedQueue (show c ∈ flushedQueue ((s.setFault .quiet).moveStation .quiet).claim.queue from h) with hs | ⟨_, hs⟩
  · rw [hs]
    nofun
  · intro hw
    simp [Claim.isAccepted, hw] at hs

/-- R134: the tick timer does not run in QUIET. -/
theorem quieted_tickTimer (h : s.ctl.state ≠ .quiet) : s.quieted.claim.tickTimer = .stopped := by
  show ((s.setFault .quiet).moveStation .quiet).claim.tickTimer = _
  rw [moveStation_claim _ _ (by rw [(kept_setFault s .quiet).state]; exact h)]
  refine if_neg ?_
  unfold State.tickTimerRuns
  rw [moveStation_state]
  simp

end Quieted

/-- R121: the raise that takes the station into QUIET. -/
theorem quietCheck_enters (hc : s.checksFrames = true) (hs : 32 ≤ s.bus.score) : s.quietCheck true = s.enterQuiet :=
  if_pos ⟨hc, rfl, hs⟩

/-- R121: the score behind a veto of this station's raising, or a missing end mark. -/
theorem endFrame_scored (hc : s.checksFrames = true) (cl m : Bool) :
    (s.endFrame bits false true cl m).bus.score = min 255 (s.bus.score + 4) := by
  show s.scoreAfter false true = _
  unfold State.scoreAfter
  rw [hc]
  rfl

/-- R121: both ways into QUIET: a veto for CRC, FORMAT or framing, and a missing end mark. -/
theorem scored_end {c : Instr} {v : Bool} (hin : s.inFrame = true) (hch : s.checksFrames = true)
    (hsc : 28 ≤ s.bus.score) (hc : c = .endMark bits v ∧ s.sound bits = false ∨ c = .missingEndMark bits) :
    ∃ cl m, exec c s = .next ((s.endFrame bits false true cl m).reportEnd s.transmitting false).enterQuiet := by
  have enters : ∀ cl m, ((s.endFrame bits false true cl m).reportEnd s.transmitting false).quietCheck true =
      ((s.endFrame bits false true cl m).reportEnd s.transmitting false).enterQuiet := fun cl m => by
    have hk := kept_reportEnd (s.endFrame bits false true cl m) s.transmitting false
    refine quietCheck_enters (hk.checksFrames.trans hch) ?_
    rw [hk.bus, endFrame_scored hch]
    omega
  rcases hc with ⟨rfl, hs⟩ | rfl
  · refine ⟨false, false, ?_⟩
    have hdom : s.slotDominant bits v = true := by simp [State.slotDominant, State.drivesVeto, hch, hs]
    rw [exec_endMark v hin, ← enters]
    unfold State.frameEnd
    dsimp only
    rw [hdom, hch, hs]
    rfl
  · refine ⟨false, true, ?_⟩
    rw [← enters]
    exact if_pos hin

theorem changeStation_bus (s : State) (st : StationState) : (s.changeStation st).bus = s.bus := by
  unfold State.changeStation
  split
  · rfl
  · rw [(tends_derived _).kept.bus, moveStation_bus]

theorem changeStation_faults (s : State) (st : StationState) :
    (s.changeStation st).ctl.faults &&& 0xBF#8 = s.ctl.faults &&& 0xBF#8 := by
  unfold State.changeStation
  split
  · rfl
  · rw [(tends_derived _).faults, moveStation_faults]

/-- R122, R3, R141: what the entry to QUIET leaves. -/
theorem enterQuiet_leaves {u : State} (hq : u.ctl.state ≠ .quiet) :
    u.enterQuiet.ctl.state = .quiet ∧ u.enterQuiet.hasFault .quiet = true ∧ u.enterQuiet.bus.cleanRun = 0
      ∧ u.enterQuiet.bus.score = u.bus.score ∧ u.enterQuiet.bus.link = u.bus.link ∧ u.enterQuiet.table = u.table
      ∧ u.enterQuiet.claim.tickTimer = .stopped ∧ (∀ d ∈ u.enterQuiet.claim.queue, d.state ≠ .waiting)
      ∧ (u.eng.inFlight = none →
          u.enterQuiet.isValid = false ∧ u.enterQuiet.bus.inbound = [] ∧ u.enterQuiet.eng.history = []
            ∧ u.enterQuiet.eng.tally = 0 ∧ (∀ d ∈ u.enterQuiet.claim.queue, d.isAccepted = false))
      ∧ (u.eng.inFlight.isSome = true →
          u.enterQuiet.eng.replica = u.eng.replica ∧ u.enterQuiet.eng.inFlight = u.eng.inFlight
            ∧ u.enterQuiet.eng.loss = some .quiet) := by
  have hd := tends_derived (u.quieted.causeLoss .quiet)
  have hk := hd.kept
  have hflight : u.quieted.eng.inFlight = u.eng.inFlight := by rw [quieted_eng]
  have hfaults : u.enterQuiet.hasFault .quiet = true := by
    have hc : (u.quieted.causeLoss .quiet).ctl.faults &&& 0xBF#8 = u.quieted.ctl.faults &&& 0xBF#8 := by
      unfold State.causeLoss
      split
      · rfl
      · exact performLoss_faults _
    unfold State.hasFault
    rw [enterQuiet_eq, quiet_of_masked (hd.faults.trans hc), quieted_faults]
    exact bne_iff_ne.2 (or_quiet_set _)
  have hclaim : u.enterQuiet.claim = (u.quieted.causeLoss .quiet).claim := derived_claim _
  unfold State.isValid
  rw [hclaim, hfaults, enterQuiet_eq, hk.state, hk.bus, hk.table, hk.eng]
  by_cases hf : u.eng.inFlight.isSome = true
  · have hcl : u.quieted.causeLoss .quiet = u.quieted.updEng fun e => { e with loss := some .quiet } :=
      if_pos (by rw [hflight]; exact hf)
    have hn : u.eng.inFlight ≠ none := fun h => by simp [h] at hf
    rw [hcl, updEng_bus, updEng_eng, quieted_bus, hflight]
    exact ⟨quieted_state u, rfl, rfl, rfl, rfl, quieted_table u, quieted_tickTimer u hq, fun d hd => mem_quieted_queue u hd,
      fun h => absurd h hn, fun _ => ⟨by rw [quieted_eng], rfl, rfl⟩⟩
  · have hcl : u.quieted.causeLoss .quiet = u.quieted.performLoss := if_neg (by rw [hflight]; exact hf)
    obtain ⟨hclaims, htimer⟩ := performLoss_claims u.quieted
    rw [hcl, performLoss_state, performLoss_bus, performLoss_eng, quieted_bus, (game_performLoss _).table, quieted_table]
    refine ⟨if_pos (quieted_state u), rfl, rfl, rfl, rfl, rfl, htimer, fun d hd hw => ?_,
      fun _ => ⟨rfl, rfl, rfl, rfl, fun d hd => ?_⟩, fun h => absurd h hf⟩
    · have := hclaims d hd
      simp [Claim.isInFlight, hw] at this
    · have := hclaims d hd
      unfold Claim.isInFlight at this
      unfold Claim.isAccepted
      split at this <;> simp_all

/-- Settles O12, by the state in which QUIET is entered (`State.quieted`) and the loss of validity that goes with it. -/
theorem quietEntryAndExit : Obligations.QuietEntryAndExit := by
  unfold Obligations.QuietEntryAndExit
  refine ⟨fun c bits v s hin hch hsc hc => ?_, fun s => ⟨fun hq hl hr => ?_, fun h => if_neg ?_⟩⟩
  · obtain ⟨cl, m, hex⟩ := scored_end hin hch hsc hc
    have hk := kept_reportEnd (s.endFrame bits false true cl m) s.transmitting false
    have hq : s.ctl.state ≠ .quiet := by
      intro h
      simp [State.checksFrames, h] at hch
    have hscore := endFrame_scored (bits := bits) hch cl m
    have hlink : (s.endFrame bits false true cl m).bus.link = .idle := rfl
    rw [← hk.bus] at hscore hlink
    have heng : ((s.endFrame bits false true cl m).reportEnd s.transmitting false).eng = s.eng := hk.eng
    have htable : ((s.endFrame bits false true cl m).reportEnd s.transmitting false).table = s.table := hk.table
    have hstate : ((s.endFrame bits false true cl m).reportEnd s.transmitting false).ctl.state ≠ .quiet := by
      rw [hk.state]
      exact hq
    refine ⟨_, hex, ?_⟩
    generalize (s.endFrame bits false true cl m).reportEnd s.transmitting false = u at hscore hlink heng htable hstate
    rw [← hscore, ← hlink, ← htable, ← heng]
    exact enterQuiet_leaves hstate
  · refine ⟨_, if_pos ⟨hq, hl, hr⟩, ?_⟩
    have hk : Kept (s.updBus fun b => { b with score := 0, cleanRun := 0 })
        ((s.updBus fun b => { b with score := 0, cleanRun := 0 }).clearFault .quiet) := kept_clearFault _ _
    have hfaults : ((s.updBus fun b => { b with score := 0, cleanRun := 0 }).clearFault .quiet).ctl.faults =
        s.ctl.faults &&& ~~~StationFault.quiet.bit := clearFault_faults _ _
    have hctl : ((s.updBus fun b => { b with score := 0, cleanRun := 0 }).clearFault .quiet).ctl =
        { s.ctl with
          faults := ((s.updBus fun b => { b with score := 0, cleanRun := 0 }).clearFault .quiet).ctl.faults } := hk.ctl
    generalize (s.updBus fun b => { b with score := 0, cleanRun := 0 }).clearFault .quiet = u at hk hfaults hctl
    have hst : u.ctl.state = .quiet := hk.state.trans hq
    have hg := game_changeStation u .syncing
    refine ⟨?_, ?_, ?_, ?_, hg.table.trans hk.table, hg.cfg.trans hk.cfg, hg.sw.trans hk.sw, hg.sen.trans hk.sen,
      hg.now.trans hk.now⟩
    · rw [hg.ctl, changeStation_state, hctl]
    · rw [changeStation_faults, hfaults, andNot_quiet_masked]
    · rw [changeStation_bus, hk.bus]
      rfl
    · rw [changeStation_eng, hst, hk.eng, Engine.moved, if_neg (by decide), if_pos rfl]
      congr 1
      unfold State.freshSync
      rw [hk.bus, hk.now]
      rfl
  · rintro ⟨hq, hl, hr⟩
    rcases h with h | h | h
    · exact h hq
    · exact h hl
    · exact absurd hr (Nat.not_le.2 h)

end FrameEnds

end Sys2Proof.Machine

namespace Sys2Proof.Machine

/-! ### The bytes and numbers of an image -/

section ImageBytes

variable {img : List Byte}

theorem fullImage_length (image : List Byte) : (fullImage image).length = 526 := by
  unfold fullImage
  rw [List.length_take, List.length_append, List.length_replicate]
  simp [imageLength]

/-- R176, log entry 4: a byte that is not supplied reads FFh. -/
theorem fullImage_getD (image : List Byte) {k : Nat} (h : k < 526) :
    (fullImage image).getD k 0xFF#8 = image.getD k 0xFF#8 := by
  have hk : k < imageLength := h
  unfold fullImage
  simp only [List.getD_eq_getElem?_getD, List.getElem?_take, if_pos hk, List.getElem?_append, List.getElem?_replicate]
  split
  · rfl
  · next hl =>
    rw [List.getElem?_eq_none (Nat.not_lt.1 hl)]
    split <;> rfl

theorem byteAt_lt (img : List Byte) (k : Nat) : byteAt img k < 256 := BitVec.isLt _

theorem byteAt_eq {k : Nat} (h : k < img.length) : byteAt img k = img[k].toNat := by
  unfold byteAt
  rw [List.getD_eq_getElem?_getD, List.getElem?_eq_getElem h]
  rfl

theorem numberAt_two {k : Nat} (h : k + 1 < img.length) : numberAt img k 2 = wordAt img k := by
  unfold numberAt wordAt
  rw [List.drop_eq_getElem_cons (by omega : k < img.length), List.drop_eq_getElem_cons h, byteAt_eq (by omega), byteAt_eq h]
  simp only [List.take_succ_cons, List.take_zero, bytesValue, List.foldl_cons, List.foldl_nil, Nat.mul_zero, Nat.zero_add]

theorem numberAt_three {k : Nat} (h : k + 2 < img.length) : numberAt img k 3 = tripleAt img k := by
  unfold numberAt tripleAt
  rw [List.drop_eq_getElem_cons (by omega : k < img.length), List.drop_eq_getElem_cons (by omega : k + 1 < img.length),
    List.drop_eq_getElem_cons h, byteAt_eq (by omega), byteAt_eq (by omega : k + 1 < img.length), byteAt_eq h]
  simp only [List.take_succ_cons, List.take_zero, bytesValue, List.foldl_cons, List.foldl_nil]
  omega

theorem tripleAt_lt (img : List Byte) (k : Nat) : tripleAt img k < 2 ^ 24 := by
  have h0 := byteAt_lt img k
  have h1 := byteAt_lt img (k + 1)
  have h2 := byteAt_lt img (k + 2)
  unfold tripleAt
  omega

/-- R176: the four checks. -/
theorem imageUsable_iff (h : img.length = 526) : imageUsable img = true ↔ Usable img := by
  unfold imageUsable profileInRange
  rw [numberAt_two (by omega : 2 + 1 < img.length), numberAt_two (by omega : 4 + 1 < img.length),
    numberAt_two (by omega : 413 + 1 < img.length)]
  simp only [Bool.and_eq_true, beq_iff_eq, decide_eq_true_eq]
  constructor
  · rintro ⟨⟨⟨⟨h1, h2⟩, h3⟩, h4⟩, ⟨⟨⟨⟨⟨⟨h5, h6⟩, h7⟩, h8⟩, h9⟩, h10⟩, h11⟩, h12⟩
    exact ⟨⟨h1, h2⟩, h3, h4, h5, h6, h7, h8, h9, h10, h11, h12⟩
  · rintro ⟨⟨h1, h2⟩, h3, h4, h5, h6, h7, h8, h9, h10, h11, h12⟩
    exact ⟨⟨⟨⟨h1, h2⟩, h3⟩, h4⟩, ⟨⟨⟨⟨⟨⟨h5, h6⟩, h7⟩, h8⟩, h9⟩, h10⟩, h11⟩, h12⟩

theorem natIndex_some {n v : Nat} (h : v < n) : natIndex n v = some ⟨v, h⟩ := dif_pos h

theorem natIndex_eq_some {n v : Nat} {i : Fin n} : natIndex n v = some i ↔ v = i.val := by
  unfold natIndex
  constructor
  · intro h
    split at h
    · rw [← Option.some.inj h]
    · cases h
  · rintro rfl
    rw [dif_pos i.isLt]

end ImageBytes

/-! ### The station section, field by field -/

section StationFields

variable {img : List Byte}

/-- R142, R177, log entry 16. -/
theorem readExpander_present (img : List Byte) (e : Expander) : (readExpander img e).1 = true ↔ ExpanderPresent img e := by
  unfold readExpander ExpanderPresent
  split
  · next h =>
    split
    · next h' => simp [h, h']
    · next h' => simp [h']
  · next h => simp [h]

theorem readExpander_corrected (img : List Byte) (e : Expander) :
    (readExpander img e).2 = true ↔ (byteAt img 338).testBit e.val = true ∧ 0x7F < byteAt img (339 + e.val) := by
  unfold readExpander
  split
  · next h =>
    split
    · next h' => simp [h, h']
    · next h' => simp [h, Nat.not_le.1 h']
  · next h => simp [h]

theorem switchPresent_iff (img : List Byte) (n : Switch) : switchPresent img n = true ↔ Wired img n := by
  unfold switchPresent Wired
  split
  · next h => simp [h]
  · next h =>
    rw [readExpander_present]
    constructor
    · exact fun hp => .inr ⟨_, by simp; omega, hp⟩
    · rintro (h' | ⟨e, he, hp⟩)
      · exact absurd h' h
      · rwa [show (⟨(n.val - 8) / 8, by omega⟩ : Expander) = e from Fin.ext (by simp; omega)]

theorem ruleMode_eq_none (v : Nat) : ruleMode v = none ↔ v ≠ 0xFF ∧ 7 < v := by
  unfold ruleMode
  split
  · next h => simp [h]
  · next h =>
    rw [Option.map_eq_none_iff, natIndex_eq_none]
    omega

theorem ruleMode_eq_some {v : Nat} {m : Option ModeId} (h : ruleMode v = some m) :
    m = none ∧ v = 0xFF ∨ ∃ k : ModeId, m = some k ∧ v = k.val := by
  unfold ruleMode at h
  split at h
  · next hv => exact .inl ⟨(Option.some.inj h).symm, hv⟩
  · obtain ⟨k, hk, rfl⟩ := Option.map_eq_some_iff.1 h
    exact .inr ⟨k, rfl, natIndex_eq_some.1 hk⟩

/-- R177: a rule in range, read field by field. -/
theorem readRule_inside {k : Nat} (h : RuleInRange img k) :
    ∃ kind debounce mode driver, RuleKind.ofCode (byteAt img k) = some kind
      ∧ Debounce.ofCode (byteAt img (k + 1) / 2 % 4) = some debounce ∧ ruleMode (byteAt img (k + 6)) = some mode
      ∧ natIndex 8 (byteAt img (k + 7)) = some driver
      ∧ readRule img k =
        ({ kind := kind, edge := if byteAt img (k + 1) % 2 = 0 then .closed else .opened
           base := BitVec.ofNat 24 (numberAt img (k + 2) 3), tag := BitVec.ofNat 8 (byteAt img (k + 5))
           lightLock := (byteAt img (k + 1)).testBit 3, jackpot := (byteAt img (k + 1)).testBit 4, mode := mode
           driver := driver, dwell := 20 * byteAt img (k + 8), debounce := debounce }, false) := by
  obtain ⟨h1, h2, h3, h4, h5, h6⟩ := h
  obtain ⟨kind, hk⟩ : ∃ x, RuleKind.ofCode (byteAt img k) = some x :=
    Option.ne_none_iff_exists'.1 fun e => absurd ((ruleKind_ofCode_eq_none _).1 e) (by omega)
  obtain ⟨deb, hd⟩ : ∃ x, Debounce.ofCode (byteAt img (k + 1) / 2 % 4) = some x :=
    Option.ne_none_iff_exists'.1 fun e => absurd ((debounce_ofCode_eq_none _).1 e) (by omega)
  obtain ⟨mode, hm⟩ : ∃ x, ruleMode (byteAt img (k + 6)) = some x :=
    Option.ne_none_iff_exists'.1 fun e => absurd ((ruleMode_eq_none _).1 e) (by omega)
  obtain ⟨drv, ho⟩ : ∃ x, natIndex 8 (byteAt img (k + 7)) = some x :=
    Option.ne_none_iff_exists'.1 fun e => absurd ((natIndex_eq_none _ _).1 e) (by omega)
  refine ⟨kind, deb, mode, drv, hk, hd, hm, ho, ?_⟩
  unfold readRule
  dsimp only
  rw [hk, hd, hm, ho]
  dsimp only
  rw [if_pos ⟨h3, h6⟩]

/-- R177: a rule out of range. -/
theorem readRule_outside {k : Nat} (h : ¬RuleInRange img k) :
    (readRule img k).2 = true ∧ (readRule img k).1.kind = .none
      ∧ (readRule img k).1.debounce = (Debounce.ofCode (byteAt img (k + 1) / 2 % 4)).getD .normal := by
  unfold readRule
  dsimp only
  split
  · next kind deb mode drv hk hd hm ho =>
    split
    · next hr =>
      refine absurd ⟨?_, ?_, hr.1, ?_, ?_, hr.2⟩ h
      · by_contra hc
        rw [(ruleKind_ofCode_eq_none _).2 (by omega)] at hk
        cases hk
      · intro hc
        rw [hc] at hd
        cases hd
      · by_contra hc
        rw [(ruleMode_eq_none _).2 (by omega)] at hm
        cases hm
      · by_contra hc
        rw [(natIndex_eq_none 8 _).2 (by omega)] at ho
        cases ho
    · exact ⟨rfl, rfl, by rw [hd]; rfl⟩
  · next hd _ => exact ⟨rfl, rfl, by rw [hd]; rfl⟩
  · next hd => exact ⟨rfl, rfl, by rw [hd]; rfl⟩

theorem readRule_corrected (img : List Byte) (k : Nat) : (readRule img k).2 = true ↔ ¬RuleInRange img k := by
  constructor
  · intro h hr
    obtain ⟨kind, deb, mode, drv, -, -, -, -, he⟩ := readRule_inside hr
    rw [he] at h
    cases h
  · exact fun h => (readRule_outside h).1

theorem readSwitch_corrected (img : List Byte) (n : Switch) :
    (readSwitch img n).2 = true ↔ Wired img n ∧ ¬RuleInRange img (8 + 9 * n.val) := by
  by_cases h : switchPresent img n = true
  · rw [readSwitch_present h, readRule_corrected, ← switchPresent_iff]
    simp [h]
  · rw [readSwitch_absent (by simpa using h), ← switchPresent_iff]
    simp [h]

theorem debounce_getD {c : Nat} (h : c < 4) :
    some ((Debounce.ofCode c).getD .normal) = [Debounce.fast, .normal, .slow, .normal][c]? := by
  interval_cases c <;> rfl

theorem ruleKind_ofCode_some {c : Nat} {kind : RuleKind} (h : RuleKind.ofCode c = some kind) :
    some kind = [RuleKind.none, .score, .start, .tilt, .nudge, .drain, .launchConfirm, .scoop][c]? := by
  have hc : c ≤ 7 := by
    by_contra hc
    rw [(ruleKind_ofCode_eq_none c).2 (by omega)] at h
    cases h
  rw [← h]
  interval_cases c <;> rfl

theorem debounce_ofCode_some {c : Nat} {d : Debounce} (h : Debounce.ofCode c = some d) :
    some d = [Debounce.fast, .normal, .slow][c]? := by
  have hc : c ≤ 2 := by
    by_contra hc
    rw [(debounce_ofCode_eq_none c).2 (by omega)] at h
    cases h
  rw [← h]
  interval_cases c <;> rfl

theorem edge_testBit (v : Nat) :
    (if v % 2 = 0 then Level.closed else .opened) = if v.testBit 0 then .opened else .closed := by
  rw [Nat.testBit_zero]
  rcases Nat.mod_two_eq_zero_or_one v with h | h <;> simp [h]

/-- R131, R142, R177: the rule of a switch. -/
theorem switchTaken (h : img.length = 526) (n : Switch) : SwitchTaken img n (readSwitch img n).1 := by
  constructor
  · intro hw
    rw [readSwitch_absent (by simpa using mt (switchPresent_iff img n).1 hw)]
  · intro hw hr
    rw [readSwitch_present ((switchPresent_iff img n).2 hw)]
    obtain ⟨-, hk, hd⟩ := readRule_outside hr
    refine ⟨hk, ?_⟩
    rw [hd, show 8 + 9 * n.val + 1 = 9 + 9 * n.val by omega]
    exact debounce_getD (Nat.mod_lt _ (by decide))
  · intro hw hr
    rw [readSwitch_present ((switchPresent_iff img n).2 hw)]
    obtain ⟨kind, deb, mode, drv, hk, hd, hm, ho, he⟩ := readRule_inside hr
    have hn := n.isLt
    rw [he, numberAt_three (by omega)]
    rw [show 8 + 9 * n.val + 1 = 9 + 9 * n.val by omega] at hd ⊢
    rw [show 8 + 9 * n.val + 2 = 10 + 9 * n.val by omega, show 8 + 9 * n.val + 5 = 13 + 9 * n.val by omega,
      show 8 + 9 * n.val + 8 = 16 + 9 * n.val by omega]
    rw [show 8 + 9 * n.val + 6 = 14 + 9 * n.val by omega] at hm
    rw [show 8 + 9 * n.val + 7 = 15 + 9 * n.val by omega] at ho
    refine ⟨ruleKind_ofCode_some hk, edge_testBit _, debounce_ofCode_some hd, rfl, rfl,
      (BitVec.toNat_ofNat _ _).trans (Nat.mod_eq_of_lt (tripleAt_lt _ _)),
      (BitVec.toNat_ofNat _ _).trans (Nat.mod_eq_of_lt (byteAt_lt _ _)), ?_, (natIndex_eq_some.1 ho).symm, rfl⟩
    rcases ruleMode_eq_some hm with ⟨rfl, hv⟩ | ⟨m, rfl, hv⟩
    · exact hv.symm
    · exact hv.symm

/-! #### Outputs, the concurrency limit, the sweep period and lamps -/

theorem driverRole_ofCode_some {c : Nat} {r : DriverRole} (h : DriverRole.ofCode c = some r) :
    c ≤ 3 ∧ some r = [DriverRole.general, .eject, .serve, .scoop][c]? := by
  have hc : c ≤ 3 := by
    by_contra hc
    rw [(driverRole_ofCode_eq_none c).2 (by omega)] at h
    cases h
  refine ⟨hc, ?_⟩
  rw [← h]
  interval_cases c <;> rfl

/-- R177: the verify time is looked at for EJECT and SERVE. -/
theorem verifyOk_iff {c : Nat} {r : DriverRole} (h : DriverRole.ofCode c = some r) (v : Nat) :
    verifyOk r v = true ↔ (c = 1 ∨ c = 2 → 50 ≤ v ∧ v ≤ 1000) := by
  obtain ⟨hc, -⟩ := driverRole_ofCode_some h
  interval_cases c <;> cases h <;> simp [verifyOk]

theorem readOutput_corrected (h : img.length = 526) (o : Output) :
    (readOutput img (296 + 5 * o.val)).2 = true ↔ ¬OutputInRange img (296 + 5 * o.val) := by
  have ho := o.isLt
  unfold readOutput OutputInRange
  dsimp only
  rw [numberAt_two (by omega)]
  cases hr : DriverRole.ofCode (byteAt img (296 + 5 * o.val)) with
  | none =>
    have := (driverRole_ofCode_eq_none _).1 hr
    simp
    omega
  | some r =>
    obtain ⟨hc, -⟩ := driverRole_ofCode_some hr
    have hv := verifyOk_iff hr (wordAt img (296 + 5 * o.val + 3))
    simp only [Option.isNone_some, Bool.false_or, Option.getD_some, Bool.or_eq_true, beq_iff_eq, Bool.not_eq_true',
      ← Bool.not_eq_true, hv, hc, true_and]
    tauto

/-- R162, R177: the configuration of an output. -/
theorem outputTaken (h : img.length = 526) (o : Output) : OutputTaken img o (readOutput img (296 + 5 * o.val)).1 := by
  have ho := o.isLt
  refine ⟨readOutput_corrected h o, fun hd => ?_⟩
  have hin : OutputInRange img (296 + 5 * o.val) := by
    by_contra hc
    have : (readOutput img (296 + 5 * o.val)).1.disabled = true := (readOutput_corrected h o).2 hc
    rw [this] at hd
    cases hd
  obtain ⟨r, hr⟩ : ∃ r, DriverRole.ofCode (byteAt img (296 + 5 * o.val)) = some r :=
    Option.ne_none_iff_exists'.1 fun e => absurd ((driverRole_ofCode_eq_none _).1 e) (Nat.not_lt.2 hin.1)
  refine ⟨?_, ?_, ?_, ?_⟩
  · show some ((DriverRole.ofCode (byteAt img (296 + 5 * o.val))).getD .general) = _
    rw [hr]
    exact (driverRole_ofCode_some hr).2
  · show byteAt img (296 + 5 * o.val + 1) = _
    congr 1
    omega
  · show 10 * byteAt img (296 + 5 * o.val + 2) = _
    congr 2
    omega
  · show numberAt img (296 + 5 * o.val + 3) 2 = _
    rw [numberAt_two (by omega)]
    congr 1
    omega

theorem readConcurrency_eq (img : List Byte) :
    readConcurrency img =
      if 1 ≤ byteAt img 336 ∧ byteAt img 336 ≤ 4 then (byteAt img 336, false) else (1, true) := rfl

theorem readConcurrency_corrected (img : List Byte) :
    (readConcurrency img).2 = true ↔ byteAt img 336 = 0 ∨ 4 < byteAt img 336 := by
  rw [readConcurrency_eq]
  split
  · simp
    omega
  · simp
    omega

theorem readPeriod_period (img : List Byte) :
    (readPeriod img).1 = if byteAt img 375 = 2 ∨ byteAt img 375 = 4 then byteAt img 375 else 8 := by
  unfold readPeriod
  dsimp only
  by_cases h : byteAt img 375 = 2 ∨ byteAt img 375 = 4
  · rw [if_pos h, if_pos (by tauto)]
  · rw [if_neg h]
    split
    · simp only
      omega
    · rfl

theorem readPeriod_corrected (img : List Byte) :
    (readPeriod img).2 = true ↔ byteAt img 375 ≠ 2 ∧ byteAt img 375 ≠ 4 ∧ byteAt img 375 ≠ 8 := by
  unfold readPeriod
  dsimp only
  split
  · simp
    omega
  · simp
    omega

theorem readLamp_corrected (img : List Byte) (k : Nat) : (readLamp img k).2 = true ↔ ¬LampInRange img k := by
  unfold readLamp LampInRange
  dsimp only
  rw [Option.isNone_iff_eq_none, lampSource_ofCode_eq_none]
  omega

/-- R172, R177: the binding of a lamp. -/
theorem lampTaken (img : List Byte) (n : Lamp) : LampTaken img n (readLamp img (376 + 2 * n.val)).1 := by
  have hoff : 376 + 2 * n.val + 1 = 377 + 2 * n.val := by omega
  have hsrc : (readLamp img (376 + 2 * n.val)).1.source =
      (LampSource.ofCode (byteAt img (376 + 2 * n.val) % 128) (byteAt img (377 + 2 * n.val))).getD .none := by
    unfold readLamp
    dsimp only
    rw [hoff]
  constructor
  · rfl
  · intro hr
    have := (readLamp_corrected img _).2 hr
    unfold readLamp at this
    dsimp only at this
    rw [hoff, Option.isNone_iff_eq_none] at this
    rw [hsrc, this]
    rfl
  · intro k hc ha
    rw [hsrc, hc, ha]
    simp [LampSource.ofCode, natIndex_some k.isLt]
  · intro m hc ha
    rw [hsrc, hc, ha]
    simp [LampSource.ofCode, natIndex_some m.isLt]
  · intro v hc ha h1 h4
    rw [hsrc, hc, ha]
    simp [LampSource.ofCode, h1, h4]
  · intro p hc ha
    rw [hsrc, hc, ha]
    simp [LampSource.ofCode, natIndex_some p.isLt]
  · intro x hx hc
    rw [hsrc, hc]
    simp only [List.mem_cons, List.not_mem_nil, or_false] at hx
    rcases hx with rfl | rfl | rfl | rfl | rfl | rfl <;> rfl

end StationFields

end Sys2Proof.Machine

namespace Sys2Proof.Machine

/-! ### The scan list -/

theorem mem_indices {n : Nat} (i : Fin n) : i ∈ indices n := List.mem_finRange i

section ScanList

variable {img : List Byte}

/-- Of the entries `vs`, one that names `a` stands before every one that names `b`. -/
def Precedes (vs : List Nat) (a b : Channel) : Prop := ∃ i : Nat, vs[i]? = some a.val ∧ ∀ j : Nat, j ≤ i → vs[j]? ≠ some b.val

theorem Precedes.cons {vs : List Nat} {a b : Channel} (h : Precedes vs a b) {v : Nat} (hv : v ≠ b.val) :
    Precedes (v :: vs) a b := by
  obtain ⟨i, hi, hj⟩ := h
  refine ⟨i + 1, by simpa using hi, fun j hji => ?_⟩
  cases j with
  | zero => simpa using hv
  | succ j => simpa using hj j (by omega)

theorem precedes_head (vs : List Nat) {a b : Channel} (h : a ≠ b) : Precedes (a.val :: vs) a b :=
  ⟨0, rfl, fun j hj => by
    rw [Nat.le_zero.1 hj]
    simpa using fun e : a.val = b.val => h (Fin.ext e)⟩

/-- R154: `r` is what the entries `vs` add behind the channels `acc`. -/
structure ScannedBehind (vs : List Nat) (acc r : List Channel) : Prop where
  nodup : r.Nodup
  mem   : ∀ ch, ch ∈ r ↔ ch ∉ acc ∧ ch.val ∈ vs
  order : r.Pairwise (Precedes vs)

/-- An entry that is dropped adds nothing. -/
theorem ScannedBehind.dropped {vs : List Nat} {acc r : List Channel} (h : ScannedBehind vs acc r) {v : Nat}
    (hv : ∀ ch : Channel, ch ∉ acc → v ≠ ch.val) : ScannedBehind (v :: vs) acc r := by
  refine ⟨h.nodup, fun ch => ?_, ?_⟩
  · rw [h.mem, List.mem_cons]
    exact ⟨fun ⟨ha, hm⟩ => ⟨ha, .inr hm⟩, fun ⟨ha, hm⟩ => ⟨ha, hm.resolve_left fun e => hv ch ha e.symm⟩⟩
  · exact h.order.imp_of_mem fun _ hb hab => hab.cons (hv _ ((h.mem _).1 hb).1)

/-- An entry that names a new channel adds it. -/
theorem ScannedBehind.taken {vs : List Nat} {acc r : List Channel} {ch : Channel} (hch : ch ∉ acc)
    (h : ScannedBehind vs (acc ++ [ch]) r) : ScannedBehind (ch.val :: vs) acc (ch :: r) := by
  have hne : ∀ b ∈ r, b ≠ ch := by
    rintro b hb rfl
    exact ((h.mem b).1 hb).1 (by simp)
  refine ⟨List.nodup_cons.2 ⟨fun hc => hne _ hc rfl, h.nodup⟩, fun b => ?_, List.pairwise_cons.2 ⟨fun b hb => ?_, ?_⟩⟩
  · rw [List.mem_cons, h.mem, List.mem_cons, ← Fin.ext_iff, List.mem_append, List.mem_singleton]
    constructor
    · rintro (rfl | ⟨ha, hm⟩)
      · exact ⟨hch, .inl rfl⟩
      · exact ⟨fun hb => ha (.inl hb), .inr hm⟩
    · rintro ⟨ha, hm⟩
      by_cases e : b = ch
      · exact .inl e
      · exact .inr ⟨fun hc => hc.elim ha e, hm.resolve_left e⟩
  · exact precedes_head vs (hne b hb).symm
  · exact h.order.imp_of_mem fun _ hb hab => hab.cons fun e => hne _ hb (Fin.ext e.symm)

theorem readScanEntries_taken (vs : List Nat) :
    ∀ acc : List Channel, ∃ r, (readScanEntries vs acc).1 = acc ++ r ∧ ScannedBehind vs acc r := by
  induction vs with
  | nil => exact fun acc => ⟨[], (List.append_nil acc).symm, List.nodup_nil, by simp, List.Pairwise.nil⟩
  | cons v vs ih =>
    intro acc
    unfold readScanEntries
    cases hv : natIndex 4 v with
    | none =>
      obtain ⟨r, hr, h⟩ := ih acc
      have hle := (natIndex_eq_none 4 v).1 hv
      exact ⟨r, hr, h.dropped fun ch _ => by omega⟩
    | some ch =>
      obtain rfl := natIndex_eq_some.1 hv
      dsimp only
      by_cases hc : ch ∈ acc
      · rw [if_pos (by simpa using hc)]
        obtain ⟨r, hr, h⟩ := ih acc
        refine ⟨r, hr, h.dropped fun b hb e => ?_⟩
        rw [Fin.ext e] at hc
        exact hb hc
      · rw [if_neg (by simpa using hc)]
        obtain ⟨r, hr, h⟩ := ih (acc ++ [ch])
        exact ⟨ch :: r, by rw [hr, List.append_assoc]; rfl, h.taken hc⟩

/-- R154: no entry is dropped where each names a channel, none twice. -/
theorem readScanEntries_clean (vs : List Nat) :
    ∀ acc : List Channel, (readScanEntries vs acc).2 = false ↔
      (∀ v ∈ vs, v ≤ 3 ∧ ∀ ch ∈ acc, ch.val ≠ v) ∧ vs.Nodup := by
  induction vs with
  | nil => simp [readScanEntries]
  | cons v vs ih =>
    intro acc
    unfold readScanEntries
    rw [List.forall_mem_cons, List.nodup_cons]
    cases hv : natIndex 4 v with
    | none =>
      have hle := (natIndex_eq_none 4 v).1 hv
      exact ⟨fun h => (Bool.noConfusion h), fun h => absurd h.1.1.1 (by omega)⟩
    | some ch =>
      obtain rfl := natIndex_eq_some.1 hv
      dsimp only
      by_cases hc : ch ∈ acc
      · rw [if_pos (by simpa using hc)]
        exact ⟨fun h => (Bool.noConfusion h), fun h => absurd rfl (h.1.1.2 ch hc)⟩
      · rw [if_neg (by simpa using hc), ih]
        simp only [List.mem_append, List.mem_singleton]
        constructor
        · rintro ⟨hall, hnd⟩
          refine ⟨⟨⟨by omega, fun b hb e => hc (by rwa [Fin.ext e] at hb)⟩, fun w hw => ?_⟩, fun hm => ?_, hnd⟩
          · exact ⟨(hall w hw).1, fun b hb => (hall w hw).2 b (.inl hb)⟩
          · exact (hall _ hm).2 ch (.inr rfl) rfl
        · rintro ⟨⟨-, hall⟩, hm, hnd⟩
          refine ⟨fun w hw => ⟨(hall w hw).1, ?_⟩, hnd⟩
          rintro b (hb | rfl)
          · exact (hall w hw).2 b hb
          · rintro rfl
            exact hm hw

/-- R177: the entries that the scan list's count takes. -/
def scanEntries (img : List Byte) : List Nat := (List.range (min 4 (byteAt img 370))).map fun i => byteAt img (371 + i)

theorem scanEntries_get (img : List Byte) (i v : Nat) :
    (scanEntries img)[i]? = some v ↔ i < 4 ∧ i < byteAt img 370 ∧ byteAt img (371 + i) = v := by
  unfold scanEntries
  rw [List.getElem?_map, Option.map_eq_some_iff]
  constructor
  · rintro ⟨a, ha, rfl⟩
    obtain ⟨hlt, rfl⟩ := List.getElem?_eq_some_iff.1 ha
    rw [List.length_range] at hlt
    rw [List.getElem_range]
    exact ⟨by omega, by omega, rfl⟩
  · rintro ⟨h4, hc, rfl⟩
    exact ⟨i, List.getElem?_range (by omega), rfl⟩

theorem mem_scanEntries (img : List Byte) (v : Nat) :
    v ∈ scanEntries img ↔ ∃ i, i < 4 ∧ i < byteAt img 370 ∧ byteAt img (371 + i) = v := by
  rw [List.mem_iff_getElem?]
  exact exists_congr fun i => scanEntries_get img i v

theorem nodup_scanEntries (img : List Byte) :
    (scanEntries img).Nodup ↔ ∀ i, i < 4 → i < byteAt img 370 → ∀ j < i, byteAt img (371 + j) ≠ byteAt img (371 + i) := by
  unfold scanEntries List.Nodup
  rw [List.pairwise_map, List.pairwise_iff_getElem]
  simp only [List.length_range, List.getElem_range]
  constructor
  · exact fun h i h4 hc j hj => h j i (by omega) (by omega) hj
  · exact fun h j i _ hi hj => h i (by omega) (by omega) j hj

theorem readScanList_list (img : List Byte) : (readScanList img).1 = (readScanEntries (scanEntries img) []).1 := rfl

theorem scanList_behind (img : List Byte) : ScannedBehind (scanEntries img) [] (readScanList img).1 := by
  obtain ⟨r, hr, h⟩ := readScanEntries_taken (scanEntries img) []
  rwa [readScanList_list, hr]

theorem mem_scanList (img : List Byte) (ch : Channel) : ch ∈ (readScanList img).1 ↔ Scanned img ch := by
  rw [(scanList_behind img).mem, mem_scanEntries]
  simp [Scanned]

/-- R154: a channel stands before another where its first entry does. -/
theorem scanList_inOrder (img : List Byte) :
    (readScanList img).1.Pairwise fun a b =>
      ∃ i, i < 4 ∧ i < byteAt img 370 ∧ byteAt img (371 + i) = a.val ∧ ∀ j, j ≤ i → byteAt img (371 + j) ≠ b.val := by
  refine (scanList_behind img).order.imp fun {a b} => ?_
  rintro ⟨i, hi, hj⟩
  obtain ⟨h4, hc, ha⟩ := (scanEntries_get img i a.val).1 hi
  exact ⟨i, h4, hc, ha, fun j hji e => hj j hji ((scanEntries_get img j b.val).2 ⟨by omega, by omega, e⟩)⟩

/-- R177: an entry of the scan list is out of range. -/
def ScanEntryBad (img : List Byte) : Prop :=
  ∃ i, i < 4 ∧ i < byteAt img 370 ∧ (3 < byteAt img (371 + i) ∨ ∃ j < i, byteAt img (371 + j) = byteAt img (371 + i))

theorem scanEntries_corrected (img : List Byte) : (readScanEntries (scanEntries img) []).2 = true ↔ ScanEntryBad img := by
  rw [← not_iff_not, Bool.not_eq_true, readScanEntries_clean, nodup_scanEntries]
  unfold ScanEntryBad
  push Not
  constructor
  · rintro ⟨hall, hnd⟩ i h4 hc
    exact ⟨(hall _ ((mem_scanEntries img _).2 ⟨i, h4, hc, rfl⟩)).1, hnd i h4 hc⟩
  · refine fun h => ⟨fun v hv => ⟨?_, fun _ hm => absurd hm (List.not_mem_nil)⟩, fun i h4 hc => (h i h4 hc).2⟩
    obtain ⟨i, h4, hc, rfl⟩ := (mem_scanEntries img v).1 hv
    exact (h i h4 hc).1

theorem readScanList_corrected (img : List Byte) :
    (readScanList img).2 = true ↔ (byteAt img 370 = 0 ∨ 4 < byteAt img 370) ∨ ScanEntryBad img := by
  rw [← scanEntries_corrected, or_comm]
  show ((readScanEntries (scanEntries img) []).2 || byteAt img 370 == 0 || decide (4 < byteAt img 370)) = true ↔ _
  simp only [Bool.or_eq_true, beq_iff_eq, decide_eq_true_eq, or_assoc]

end ScanList

/-! ### The channels -/

section Channels

variable {img : List Byte}

theorem channelValid_iff (h : img.length = 526) (ch : Channel) :
    channelValid img (342 + 7 * ch.val) = true ↔ SensorValid img (342 + 7 * ch.val) := by
  have hch := ch.isLt
  unfold channelValid SensorValid
  rw [numberAt_two (by omega), numberAt_two (by omega)]
  simp only [Bool.and_eq_true, decide_eq_true_eq]
  tauto

/-- R177: the binding as stored names a slot and an eject driver. -/
theorem readBinding_some (img : List Byte) (k : Nat) (n : Slot) (o : Output) :
    (readBinding img k).1 = some (n, o) ↔ byteAt img (k + 5) = n.val ∧ byteAt img (k + 6) = o.val := by
  rw [← natIndex_eq_some, ← natIndex_eq_some]
  unfold readBinding
  cases hn : natIndex 8 (byteAt img (k + 5)) <;> cases ho : natIndex 8 (byteAt img (k + 6)) <;> simp

theorem readBinding_corrected (img : List Byte) (k : Nat) : (readBinding img k).2 = true ↔ ¬BindingInRange img k := by
  unfold readBinding BindingInRange
  cases ho : natIndex 8 (byteAt img (k + 6)) with
  | none =>
    have hle := (natIndex_eq_none 8 _).1 ho
    cases hn : natIndex 8 (byteAt img (k + 5)) <;> simp <;> omega
  | some o =>
    have hle := natIndex_eq_some.1 ho
    cases hn : natIndex 8 (byteAt img (k + 5)) with
    | none =>
      have := (natIndex_eq_none 8 _).1 hn
      simp
      omega
    | some n =>
      have := natIndex_eq_some.1 hn
      simp
      omega

/-- R154: the channels' settings with their bindings as stored. -/
def storedChannels (img : List Byte) : Vector ChannelConfig 4 := vtab fun ch => (readChannel img (readScanList img).1 ch).1

theorem stored_inUse (h : img.length = 526) (ch : Channel) :
    (storedChannels img)[ch].inUse = true ↔ ChannelInUse img ch := by
  unfold storedChannels readChannel ChannelInUse
  rw [vtab_get_fin]
  dsimp only
  rw [Bool.and_eq_true, List.contains_iff_mem, mem_scanList, channelValid_iff h]

theorem stored_binding (h : img.length = 526) (ch : Channel) (n : Slot) (o : Output) :
    (storedChannels img)[ch].binding = some (n, o) ↔ Binds img ch n o := by
  have hin := stored_inUse h ch
  unfold storedChannels readChannel at hin ⊢
  rw [vtab_get_fin] at hin ⊢
  dsimp only at hin ⊢
  have hk := readBinding_some img (342 + 7 * ch.val) n o
  rw [show 342 + 7 * ch.val + 5 = 347 + 7 * ch.val by omega, show 342 + 7 * ch.val + 6 = 348 + 7 * ch.val by omega] at hk
  unfold Binds
  split
  · next hu => rw [hk, and_iff_right (hin.1 hu)]
  · next hu => exact ⟨fun e => absurd e (by simp), fun e => absurd (hin.2 e.1) hu⟩

/-- R154: a lower-numbered channel binds the slot that the channel names. -/
theorem boundBelow_iff (h : img.length = 526) (ch : Channel) :
    boundBelow (storedChannels img) ch = true ↔
      ∃ (k : Channel) (n : Slot) (o o' : Output), k < ch ∧ Binds img ch n o ∧ Binds img k n o' := by
  unfold boundBelow
  split
  · next n o hb =>
    rw [List.any_eq_true]
    have hbind := (stored_binding h ch n o).1 hb
    constructor
    · rintro ⟨k, -, hk⟩
      rw [Bool.and_eq_true, decide_eq_true_eq, beq_iff_eq, Option.map_eq_some_iff] at hk
      obtain ⟨hlt, ⟨n', o'⟩, hb', rfl⟩ := hk
      exact ⟨k, _, o, o', hlt, hbind, (stored_binding h k _ o').1 hb'⟩
    · rintro ⟨k, n', o1, o', hlt, hc, hk⟩
      obtain ⟨rfl, -⟩ : n' = n ∧ o1 = o := by
        rw [← stored_binding h, hb] at hc
        simpa [eq_comm] using hc
      rw [← stored_binding h] at hk
      exact ⟨k, mem_indices k, by rw [hk]; simpa using hlt⟩
  · next hb =>
    refine ⟨fun e => absurd e (by simp), ?_⟩
    rintro ⟨k, n, o, o', -, hc, -⟩
    rw [← stored_binding h, hb] at hc
    cases hc

theorem readChannels_get (img : List Byte) (ch : Channel) :
    (readChannels img (readScanList img).1).1[ch] =
      { (storedChannels img)[ch] with
        binding := if boundBelow (storedChannels img) ch then none else (storedChannels img)[ch].binding } := by
  unfold readChannels
  exact vtab_get_fin _ _

/-- R154: the settings of a channel. -/
theorem channelTaken (h : img.length = 526) (ch : Channel) :
    ChannelTaken img ch (readChannels img (readScanList img).1).1[ch] := by
  have hch := ch.isLt
  rw [readChannels_get]
  constructor
  · exact stored_inUse h ch
  · unfold storedChannels readChannel
    rw [vtab_get_fin]
    dsimp only
    rw [numberAt_two (by omega), numberAt_two (by omega)]
    refine ⟨rfl, ?_, ?_⟩
    · congr 1
      omega
    · congr 1
      omega
  · intro n o
    dsimp only
    split
    · next hb =>
      obtain ⟨k, n', o1, o', hlt, hc, hk⟩ := (boundBelow_iff h ch).1 hb
      refine ⟨fun e => absurd e (by simp), fun ⟨hn, hall⟩ => ?_⟩
      have : n' = n := Fin.ext (hc.2.1.symm.trans hn.2.1)
      exact absurd (this ▸ hk) (hall k hlt o')
    · next hb =>
      rw [stored_binding h]
      exact ⟨fun hc => ⟨hc, fun k hlt o' hk => hb ((boundBelow_iff h ch).2 ⟨k, n, o, o', hlt, hc, hk⟩)⟩, And.left⟩

theorem readChannels_corrected (h : img.length = 526) :
    (readChannels img (readScanList img).1).2 = true ↔
      (∃ ch : Channel, ¬SensorValid img (342 + 7 * ch.val) ∨ ¬BindingInRange img (342 + 7 * ch.val))
        ∨ ∃ (ch k : Channel) (n : Slot) (o o' : Output), k < ch ∧ Binds img ch n o ∧ Binds img k n o' := by
  have hb : ∀ ch : Channel, (readChannel img (readScanList img).1 ch).2 = true ↔
      ¬SensorValid img (342 + 7 * ch.val) ∨ ¬BindingInRange img (342 + 7 * ch.val) := by
    intro ch
    rw [← channelValid_iff h, ← readBinding_corrected]
    show (!channelValid img (342 + 7 * ch.val) || (readBinding img (342 + 7 * ch.val)).2) = true ↔ _
    simp
  show ((indices 4).any fun ch => (readChannel img (readScanList img).1 ch).2 || boundBelow (storedChannels img) ch)
    = true ↔ _
  simp only [List.any_eq_true, mem_indices, true_and, Bool.or_eq_true, hb, boundBelow_iff h, exists_or]

end Channels

end Sys2Proof.Machine

namespace Sys2Proof.Machine

/-! ### What a usable image gives -/

section ImageGives

variable {img : List Byte}

theorem any_indices {n : Nat} (p : Fin n → Bool) : (indices n).any p = true ↔ ∃ i, p i = true := by
  rw [List.any_eq_true]
  exact ⟨fun ⟨i, _, h⟩ => ⟨i, h⟩, fun ⟨i, h⟩ => ⟨i, mem_indices i, h⟩⟩

theorem readStation_corrected (img : List Byte) :
    (readStation img).2 = true ↔
      (∃ n, (readSwitch img n).2 = true) ∨ (∃ o : Output, (readOutput img (296 + 5 * o.val)).2 = true)
        ∨ (readConcurrency img).2 = true ∨ (∃ e, (readExpander img e).2 = true)
        ∨ (readChannels img (readScanList img).1).2 = true ∨ (readScanList img).2 = true ∨ (readPeriod img).2 = true
        ∨ ∃ n : Lamp, (readLamp img (376 + 2 * n.val)).2 = true := by
  unfold readStation
  simp only [Bool.or_eq_true, any_indices, or_assoc]

theorem readMode_flag (h : img.length = 526) (m : ModeId) :
    (decide (numberAt img (422 + 13 * m.val + 1) 2 ≤ 6000) && decide (1 ≤ byteAt img (422 + 13 * m.val + 3))
      && decide (byteAt img (422 + 13 * m.val + 3) ≤ 15) && decide (1 ≤ byteAt img (422 + 13 * m.val + 4))
      && decide (byteAt img (422 + 13 * m.val + 11) ≤ 3)) = true ↔ ModeInRange img (422 + 13 * m.val) := by
  have hm := m.isLt
  rw [numberAt_two (by omega)]
  unfold ModeInRange
  simp only [Bool.and_eq_true, decide_eq_true_eq, and_assoc]

theorem readMode_defined (h : img.length = 526) (m : ModeId) :
    (readMode img (422 + 13 * m.val)).1.defined = true ↔
      byteAt img (422 + 13 * m.val) ≠ 0 ∧ ModeInRange img (422 + 13 * m.val) := by
  unfold readMode
  dsimp only
  rw [Bool.and_eq_true, readMode_flag h, bne_iff_ne]

theorem readMode_corrected (h : img.length = 526) (m : ModeId) :
    (readMode img (422 + 13 * m.val)).2 = true ↔
      byteAt img (422 + 13 * m.val) ≠ 0 ∧ ¬ModeInRange img (422 + 13 * m.val) := by
  unfold readMode
  dsimp only
  rw [Bool.and_eq_true, Bool.not_eq_true', ← Bool.not_eq_true, readMode_flag h, bne_iff_ne]

/-- R177: CONFIG is set for a field out of range. -/
theorem imageCorrected_iff (h : img.length = 526) : imageCorrected img = true ↔ OutOfRange img := by
  have ho : (readOverride img).2 = true ↔ 16 ≤ byteAt img 6 ∧ byteAt img 6 ≠ 0xFF := by simp [readOverride]
  have hp : (readProfile img).2 = true ↔
      ∃ m : ModeId, byteAt img (422 + 13 * m.val) ≠ 0 ∧ ¬ModeInRange img (422 + 13 * m.val) := by
    simp only [readProfile, any_indices, readMode_corrected h]
  unfold imageCorrected OutOfRange
  simp only [Bool.or_eq_true, ho, hp, readStation_corrected, readSwitch_corrected, readOutput_corrected h,
    readConcurrency_corrected, readExpander_corrected, readChannels_corrected h, readScanList_corrected,
    readPeriod_corrected, readLamp_corrected, ScanEntryBad]
  simp only [or_assoc]

/-- R177, R178: the station section. -/
theorem stationTaken (h : img.length = 526) : StationTaken img (readStation img).1 where
  roles := ⟨rfl, rfl⟩
  rules n := by
    rw [show (readStation img).1.rules[n] = (readSwitch img n).1 from vtab_get_fin _ n]
    exact switchTaken h n
  outputs o := by
    rw [show (readStation img).1.outputs[o] = (readOutput img (296 + 5 * o.val)).1 from vtab_get_fin _ o]
    exact outputTaken h o
  concurrency := by
    show (readConcurrency img).1 = _
    rw [readConcurrency_eq, apply_ite Prod.fst]
  pairing := bne_iff_ne
  expanders e := by
    rw [show (readStation img).1.expanders[e] = (readExpander img e).1 from vtab_get_fin _ e]
    exact readExpander_present img e
  addresses e he := by
    rw [show (readStation img).1.addresses[e] = _ from vtab_get_fin _ e, if_pos ((readExpander_present img e).2 he),
      BitVec.toNat_ofNat]
    exact Nat.mod_eq_of_lt (Nat.lt_succ_of_le he.2)
  scanned := ⟨(scanList_behind img).nodup, mem_scanList img⟩
  inOrder := scanList_inOrder img
  channels := channelTaken h
  period := readPeriod_period img
  lamps n := by
    rw [show (readStation img).1.lamps[n] = (readLamp img (376 + 2 * n.val)).1 from vtab_get_fin _ n]
    exact lampTaken img n

/-- R12, R73, R178: the profile. -/
theorem profileTaken (h : img.length = 526) : ProfileTaken img (readProfile img).1 := by
  have hm : ∀ m : ModeId, (readProfile img).1.modes[m] = (readMode img (422 + 13 * m.val)).1 := vtab_get_fin _
  refine ⟨?_, fun m => ?_, fun m => ?_⟩
  · exact ⟨rfl, rfl, rfl, numberAt_two (by omega), numberAt_three (by omega), numberAt_three (by omega), rfl⟩
  · rw [hm]
    exact readMode_defined h m
  · have := m.isLt
    rw [hm]
    unfold readMode
    dsimp only
    rw [numberAt_two (by omega), numberAt_three (by omega), numberAt_three (by omega)]

end ImageGives

/-! ### A derivation while no duty holds -/

/-- R166: the replica is not VALID and the Driver Unit has no duty and no request. -/
structure State.Asleep (s : State) : Prop where
  invalid  : s.isValid = false
  requests : s.drv.requests = []
  ejects   : ∀ n : Slot, s.drv.ejects[n] = none
  scoops   : ∀ n : Switch, s.drv.scoops[n] = none
  serve    : s.drv.serve.holds = false

/-- Of the Driver Unit, and of the whole state, only the standing BOUNCE requests and the launches unapplied have moved. -/
def SleepsOn (s t : State) : Prop :=
  ∃ b l, t = s.setDrv { s.drv with bounce := b, serve := { s.drv.serve with launches := l } }

namespace SleepsOn

variable {s t u : State}

theorem refl : SleepsOn s s := ⟨s.drv.bounce, s.drv.serve.launches, rfl⟩

theorem of_eq (h : t = s) : SleepsOn s t := h ▸ refl

theorem trans (h : SleepsOn s t) (g : SleepsOn t u) : SleepsOn s u := by
  obtain ⟨b, l, rfl⟩ := h
  obtain ⟨b', l', rfl⟩ := g
  exact ⟨b', l', rfl⟩

theorem asleep (h : SleepsOn s t) (hs : s.Asleep) : t.Asleep := by
  obtain ⟨b, l, rfl⟩ := h
  exact ⟨hs.invalid, hs.requests, hs.ejects, hs.scoops, hs.serve⟩

theorem foldl {α : Type} {f : State → α → State} (hf : ∀ s a, s.Asleep → SleepsOn s (f s a)) (l : List α) :
    ∀ {s}, s.Asleep → SleepsOn s (l.foldl f s) := by
  induction l with
  | nil => exact fun _ => refl
  | cons a l ih => exact fun hs => (hf _ a hs).trans (ih ((hf _ a hs).asleep hs))

end SleepsOn

section Asleep

variable {s : State}

theorem ejectHolds_of_invalid (h : s.isValid = false) (n : Slot) : s.ejectHolds n = none := by
  unfold State.ejectHolds
  rw [h]
  split
  · rfl
  · simp

theorem sleeps_settleEject (hs : s.Asleep) (n : Slot) : SleepsOn s (s.settleEject n) := by
  unfold State.settleEject
  rw [hs.ejects, ejectHolds_of_invalid hs.invalid]
  simp only [Option.map_none, if_true]
  unfold State.settleBounce
  split
  · exact .refl
  · exact ⟨_, s.drv.serve.launches, rfl⟩

theorem sleeps_settleServe (hs : s.Asleep) : SleepsOn s s.settleServe := by
  unfold State.settleServe State.serveHolds
  rw [hs.invalid, hs.serve]
  exact ⟨s.drv.bounce, 0, rfl⟩

theorem tendEject_asleep (hs : s.Asleep) (n : Slot) : s.tendEject n = s := by
  unfold State.tendEject
  rw [hs.ejects]

theorem askEject_asleep (hs : s.Asleep) (n : Slot) : s.askEject n = s := by
  unfold State.askEject
  rw [hs.ejects]

theorem askServe_asleep (hs : s.Asleep) : s.askServe = s := by
  unfold State.askServe
  split
  · rfl
  · simp [hs.serve]

theorem askScoop_asleep (hs : s.Asleep) (n : Switch) : s.askScoop n = s := by
  unfold State.askScoop
  rw [hs.scoops]

theorem arbiter_asleep (hs : s.Asleep) : s.arbiter = s := by
  unfold State.arbiter
  rw [hs.requests]
  unfold DriverUnit.walk
  rw [← hs.requests]
  rfl

/-- R166: a derivation with no duty, and no replica to give one. -/
theorem sleeps_deriveDuties (hs : s.Asleep) : SleepsOn s s.deriveDuties := by
  have h1 : SleepsOn s ((indices 8).foldl State.settleEject s) :=
    SleepsOn.foldl (fun _ n ht => sleeps_settleEject ht n) _ hs
  have h2 := h1.trans (sleeps_settleServe (h1.asleep hs))
  have h3 := h2.trans (SleepsOn.foldl (fun _ n ht => .of_eq (tendEject_asleep ht n)) (indices 8) (h2.asleep hs))
  have h4 := h3.trans (SleepsOn.foldl (fun _ n ht => .of_eq (askEject_asleep ht n)) (indices 8) (h3.asleep hs))
  have h5 := h4.trans (.of_eq (askServe_asleep (h4.asleep hs)))
  have h6 := h5.trans (SleepsOn.foldl (fun _ n ht => .of_eq (askScoop_asleep ht n)) (indices 32) (h5.asleep hs))
  exact h6.trans (.of_eq (arbiter_asleep (h6.asleep hs)))

end Asleep

end Sys2Proof.Machine

namespace Sys2Proof.Machine

/-! ### The configuration read (R176) -/

section Configured

variable (s : State)

theorem judgeTickTimer_eq : s.judgeTickTimer = s.setClaim s.judgeTickTimer.claim := by
  unfold State.judgeTickTimer
  repeat' split
  all_goals rfl

/-- R2, R179: LOADING is left for SYNCING. -/
theorem moveStation_syncing (h : s.ctl.state = .loading) :
    ∃ c, s.moveStation .syncing =
      { s with
        ctl := { s.ctl with state := .syncing }
        eng := { s.eng with sync := s.freshSync }
        claim := c } := by
  unfold State.moveStation
  rw [h, if_neg (by decide)]
  dsimp only
  rw [judgeTickTimer_eq]
  exact ⟨_, rfl⟩

/-- The Driver Unit's start leaves no duty. -/
theorem asleep_of_reset {s : State} (hv : s.isValid = false) (hd : s.drv = DriverUnit.reset) : s.Asleep := by
  refine ⟨hv, ?_, fun n => ?_, fun n => ?_, ?_⟩
  · rw [hd]
    rfl
  · rw [hd]
    exact Vector.getElem_replicate _
  · rw [hd]
    exact Vector.getElem_replicate _
  · rw [hd]
    rfl

theorem changeStation_syncing (h : s.ctl.state = .loading) (hv : s.isValid = false) (hd : s.drv = DriverUnit.reset) :
    ∃ c b l lamp, s.changeStation .syncing =
      { s with
        ctl := { s.ctl with state := .syncing }
        eng := { s.eng with sync := s.freshSync }
        claim := c
        drv := { DriverUnit.reset with bounce := b, serve := { DriverUnit.reset.serve with launches := l } }
        lamp := lamp } := by
  obtain ⟨c, hm⟩ := moveStation_syncing s h
  have hasleep : (s.moveStation .syncing).Asleep := by
    rw [hm]
    exact asleep_of_reset hv hd
  obtain ⟨b, l, hder⟩ := sleeps_deriveDuties hasleep
  refine ⟨c, b, l, (s.moveStation .syncing).deriveDuties.refreshLamps.lamp, ?_⟩
  unfold State.changeStation
  rw [if_neg (by rw [h]; decide)]
  show (s.moveStation .syncing).deriveDuties.setLamp _ = _
  rw [hder, hm]
  show State.setLamp { s with ctl := _, eng := _, claim := c, drv := { s.drv with bounce := b, serve := _ } } _ = _
  rw [hd]
  rfl

theorem drvPin_reset (b : Vector Bool 8) (v : ServeRecord) (o : Output) :
    { DriverUnit.reset with bounce := b, serve := v }.drvPin o = false := by
  show (DriverUnit.reset.outputs[o].state == OutputState.pulse) = false
  rw [show DriverUnit.reset.outputs[o] = OutputRecord.initial from Vector.getElem_replicate _]
  rfl

end Configured

theorem config_masked (x : Byte) : ((x ||| StationFault.config.bit) &&& 0xFF#8 != 0#8) = true := by
  revert x
  decide +kernel

theorem readMemory_port (p : MemoryPort) :
    p.read = { selected := false, sent := [0x03#8, 0x00#8, 0x00#8, 0x00#8], clocked := 526 } := by
  simp [MemoryPort.read, MemoryPort.select, MemoryPort.send, MemoryPort.clockIn, MemoryPort.release, readBytes,
    imageLength]

theorem override_station (img : List Byte) (old : Station) :
    ((readOverride img).1.getD old).val = if byteAt img 6 < 16 then byteAt img 6 else old.val := by
  unfold readOverride natIndex
  split <;> rfl

/-- R173: every lamp is off in UNCONFIGURED. -/
theorem refreshLamps_unconfigured {s : State} (h : s.ctl.state = .unconfigured) (n : Lamp) :
    s.refreshLamps.lamp.levels[n] = false := by
  have hm : s.lampManner = .allOff := by
    unfold State.lampManner
    rw [h]
  unfold State.refreshLamps
  rw [State.setLamp_lamp, vtab_get_fin, hm]
  rfl

theorem create_enabled (r : ReportPort) (o : Word32) (b : NoticeBody) : (r.create o b).enabled = r.enabled := by
  unfold ReportPort.create
  split <;> rfl

section Read

variable (s : State)

/-- R176: what a read whose image is not usable makes of the station. -/
theorem unconfigured_eq :
    ∃ lamp rpt, s.readMemory.unconfigured =
      { s with
        ctl := { s.ctl with
          state := .unconfigured, mask := 0xFF#8, faults := s.ctl.faults ||| 0x01#8, memory := s.ctl.memory.read }
        lamp := lamp
        rpt := rpt } := by
  unfold State.unconfigured State.setFault
  rw [putFaults_eq]
  exact ⟨_, _, rfl⟩

/-- R176: the station behind the load of a usable image and the start of its units. -/
theorem loaded_eq (img : List Byte) :
    (s.readMemory.loadImage img).startUnits =
      { s with
        ctl := { s.ctl with
          station := (readOverride img).1.getD s.ctl.station
          mask := BitVec.ofNat 8 (byteAt img 408)
          profileDigest := profileDigestOf img
          memory := s.ctl.memory.read }
        cfg := (readStation img).1
        table := { s.table with profile := (readProfile img).1 }
        bus := { s.bus with link := .idle, busFree := false, freeDue := s.now + Config.sixteenBitTimes }
        sw := SwitchUnit.started s.now
        sen := SensorUnit.started s.now
        drv := DriverUnit.reset
        rpt := { s.rpt with enabled := byteAt img 409 != 0 } } := by
  unfold State.startUnits State.loadImage State.readMemory
  rfl

/-- R176, R177: what a usable image makes of the station. -/
theorem configured_eq (img : List Byte) (h : s.ctl.state = .loading) (hv : s.isValid = false) :
    ∃ claim bounce launches lamp rpt, rpt.enabled = (byteAt img 409 != 0) ∧ s.readMemory.configured img =
      { s with
        ctl := { s.ctl with
          state := .syncing
          station := (readOverride img).1.getD s.ctl.station
          mask := BitVec.ofNat 8 (byteAt img 408)
          profileDigest := profileDigestOf img
          memory := s.ctl.memory.read
          faults := if imageCorrected img then s.ctl.faults ||| 0x01#8 else s.ctl.faults }
        cfg := (readStation img).1
        table := { s.table with profile := (readProfile img).1 }
        bus := { s.bus with link := .idle, busFree := false, freeDue := s.now + Config.sixteenBitTimes }
        eng := { s.eng with sync := s.freshSync }
        sw := SwitchUnit.started s.now
        sen := SensorUnit.started s.now
        claim := claim
        drv := { DriverUnit.reset with bounce := bounce, serve := { DriverUnit.reset.serve with launches := launches } }
        lamp := lamp
        rpt := rpt } := by
  obtain ⟨c, b, l, lamp, hch⟩ := changeStation_syncing (s.readMemory.loadImage img).startUnits h hv rfl
  unfold State.configured
  dsimp only
  rw [hch, loaded_eq]
  by_cases hc : imageCorrected img = true
  · rw [if_pos hc, if_pos hc]
    unfold State.setFault
    rw [putFaults_eq]
    refine ⟨c, b, l, _, _, ?_, rfl⟩
    dsimp only
    split
    · rfl
    · exact (create_enabled _ _ _).trans rfl
  · rw [if_neg hc, if_neg hc]
    exact ⟨c, b, l, _, _, rfl, rfl⟩

end Read

/-- Settles O5: the four checks (`imageUsable_iff`), what an image that is not usable and what a usable one makes of the
station (`unconfigured_eq`, `configured_eq`), and the fields it gives (`stationTaken`, `profileTaken`). -/
theorem configurationRead : Obligations.ConfigurationRead := by
  unfold Obligations.ConfigurationRead
  intro image s img port
  have hlen : img.length = 526 := fullImage_length image
  have husable : imageUsable img = true ↔ Usable img := imageUsable_iff hlen
  refine ⟨⟨hlen, fun k hk => fullImage_getD image hk⟩, husable, fun h => if_neg h, fun h hu => ?_, fun h hv hu => ?_⟩
  · obtain ⟨lamp, rpt, he⟩ := unconfigured_eq s
    refine ⟨s.readMemory.unconfigured, ?_, ?_, ?_, ?_, ?_⟩
    · exact (if_pos h).trans (if_neg (mt husable.1 hu))
    · rw [he, readMemory_port]
    · rw [he]
      exact config_masked s.ctl.faults
    · exact refreshLamps_unconfigured (kept_setFault _ _).state
    · rw [he]
  · obtain ⟨claim, b, l, lamp, rpt, hen, he⟩ := configured_eq s img h hv
    refine ⟨s.readMemory.configured img, (if_pos h).trans (if_pos (husable.2 hu)), ?_⟩
    rw [he]
    refine ⟨rfl, readMemory_port _, override_station img _, ?_, rfl, fun ho => ?_, fun ho => ?_, stationTaken hlen,
      profileTaken hlen, rfl, rfl, rfl, rfl, rfl, fun o => drvPin_reset b _ o, rfl, hen, rfl, rfl⟩
    · exact (BitVec.toNat_ofNat _ _).trans (Nat.mod_eq_of_lt (byteAt_lt img 408))
    · exact if_pos ((imageCorrected_iff hlen).2 ho)
    · exact if_neg (mt (imageCorrected_iff hlen).1 ho)

end Sys2Proof.Machine

namespace Sys2Proof.Machine

/-! ### What an application does, by what it tells of it (R182) -/

/-- R25: what a PHASE notice reports. -/
abbrev PhaseValues : Type := Phase × Nat × PlayerIx × Nat × Bool × Nat

/-- R25: what a PHASE notice would report of a table. -/
def GameTable.phaseValues (t : GameTable) : PhaseValues :=
  (t.phase, t.playerCount, t.currentPlayer, t.ballNumber, t.tilted, t.nudgeCount)

/-- A change of a table that no notice of its own goes with: of what the notices report only the values of PHASE and BALLS
have moved. Only a HOLD adds to the hold set. -/
structure Silent (f : Frame) (t u : GameTable) : Prop where
  slots   : u.slots = t.slots
  modes   : u.modes = t.modes
  members : u.members = t.members
  refusal : u.refusal = t.refusal
  ordinal : u.ordinal = t.ordinal
  players : ∀ p : PlayerIx, u.players[p].score = t.players[p].score
    ∧ u.players[p].sweepQualified = t.players[p].sweepQualified
  holds   : ∀ k : Station, u.holds[k] ≠ none → t.holds[k] ≠ none ∨ f.payload.kind = .hold ∧ k = f.sender

/-- R90: the reports of an entry that has left the mode table. -/
def ModeReport.removes (r : ModeReport) : Prop := r = .completed ∨ r = .expired ∨ r = .aborted ∨ r = .ended

/-- The notice says that the entry has left the mode table. -/
def TellsRemoval (e : ModeEntry) (x : NoticeBody) : Prop :=
  ∃ report remaining progress sweep, x = .mode e.mode e.player report remaining progress sweep ∧ report.removes

/-- The notice says how the entry stands over the table `t`. -/
def TellsEntry (f : Frame) (t : GameTable) (e : ModeEntry) (x : NoticeBody) : Prop :=
  ∃ sweep, x = .mode e.mode e.player e.state.report e.remaining e.progress sweep
    ∧ (f.payload.kind ≠ .hit → sweep = t.players[e.player].sweepQualified)

/-- Two entries of the mode table are of one mode and player. -/
def ModeEntry.sameKey (d e : ModeEntry) : Prop := d.mode = e.mode ∧ d.player = e.player

/-- R90: the notices `ns` tell how the mode table of `t` becomes `ms`. -/
structure ModesTold (f : Frame) (t : GameTable) (ms : List ModeEntry) (ns : List NoticeBody) : Prop where
  removed : ∀ e ∈ t.modes, (∀ d ∈ ms, ¬d.sameKey e) → ∃ x ∈ ns, TellsRemoval e x
  told    : ∀ e ∈ ms, e ∈ t.modes ∨ ∃ x ∈ ns, TellsEntry f t e x
  sort    : ∀ x ∈ ns, x.code = 6

/-- The work of the application of `f` begun as `v` has come to `w`, every change told in its notice; the last PHASE notice
said `x`. -/
inductive Told (f : Frame) (v : Work) : PhaseValues → Work → Prop
  | refl : Told f v v.table.phaseValues v
  | upd {x : PhaseValues} {w : Work} (t : GameTable) (hw : Told f v x w) (hs : Silent f w.table t) :
      Told f v x { table := t, notices := w.notices }
  | players {x : PhaseValues} {w : Work} (ps : Vector Player 4) (hw : Told f v x w)
      (hp : f.payload.kind = .hit
        ∨ w.notices = v.notices ∧ ∀ p : PlayerIx, ps[p].score = w.table.players[p].score) :
      Told f v x { table := { w.table with players := ps }, notices := w.notices }
  | slots {x : PhaseValues} {w : Work} (g : Slot → SlotRecord → SlotRecord) (hw : Told f v x w)
      (hg : ∀ n : Slot, g n w.table.slots[n] = w.table.slots[n]
        ∨ (g n w.table.slots[n]).code ≠ w.table.slots[n].code) :
      Told f v x (w.mapSlots g)
  | silence {x : PhaseValues} {w : Work} (hw : Told f v x w) : Told f v x w.silenceEntries
  | modes {x : PhaseValues} {w : Work} (ms : List ModeEntry) (ns : List NoticeBody) (hw : Told f v x w)
      (hm : ModesTold f w.table ms ns) :
      Told f v x { table := { w.table with modes := ms }, notices := w.notices ++ ns }
  | countdown {x : PhaseValues} {w : Work} (hw : Told f v x w) (hm : w.table.modes = v.table.modes) :
      Told f v x (w.mapModes countdownStep)
  | member {x : PhaseValues} {w : Work} (k : Station) (ms : Vector Member 16) (hw : Told f v x w)
      (hm : ∀ j : Station, j ≠ k → ms[j] = w.table.members[j]) :
      Told f v x
        { table := { w.table with members := ms }
          notices := w.notices ++ [memberNotice { w.table with members := ms } k] }
  | refusal {x : PhaseValues} {w : Work} (kind : FrameKind) (sender : Station) (reason : Reason) (sub : Option SubReason)
      (argument : Option (Fin 8)) (hw : Told f v x w) (hr : f.payload.kind = .join ∨ w.notices = v.notices) :
      Told f v x (w.recordRefusal kind sender reason sub argument)
  | phase {x : PhaseValues} {w : Work} (hw : Told f v x w) (hx : w.table.phaseValues ≠ x) :
      Told f v w.table.phaseValues w.notePhase
  | fault {x : PhaseValues} {w : Work} (k : Station) (summary : Byte) (hw : Told f v x w) :
      Told f v x (w.note (.fault k summary))
  | score {x : PhaseValues} {w : Work} (n : NoticeBody) (hw : Told f v x w) (hf : f.payload.kind = .hit)
      (hn : n.code = 3) : Told f v x (w.note n)

/-- The last PHASE notice says what the table says. -/
abbrev Settled (f : Frame) (v w : Work) : Prop := Told f v w.table.phaseValues w

section ModeSteps

variable {f : Frame}

/-- What a change of a mode table's entry tells of it. -/
def StepTold (e : ModeEntry) (st : ModeStep) : Prop :=
  st = .keep e ∨ (∃ m, st = .move e m) ∨ ∃ r : ModeReport, r.removes ∧ st = .remove e r

theorem stepTold_ite {e : ModeEntry} {p : Prop} [Decidable p] {a b : ModeStep} (ha : StepTold e a) (hb : StepTold e b) :
    StepTold e (if p then a else b) := by
  split <;> assumption

theorem stepTold_keep (e : ModeEntry) : StepTold e (.keep e) := .inl rfl
theorem stepTold_move (e : ModeEntry) (m : ModeState) : StepTold e (.move e m) := .inr (.inl ⟨m, rfl⟩)
theorem stepTold_remove (e : ModeEntry) {r : ModeReport} (h : r.removes) : StepTold e (.remove e r) := .inr (.inr ⟨r, h, rfl⟩)

theorem ModeReport.ended_removes : ModeReport.ended.removes := .inr (.inr (.inr rfl))
theorem ModeReport.aborted_removes : ModeReport.aborted.removes := .inr (.inr (.inl rfl))

theorem mem_mapModes {w : Work} {g : ModeEntry → ModeStep} {d : ModeEntry} :
    d ∈ (w.mapModes g).table.modes ↔ ∃ e ∈ w.table.modes, (g e).stays = true ∧ (g e).entry = d := by
  simp only [mapModes_table, List.mem_map, List.mem_filter]
  constructor
  · rintro ⟨st, ⟨⟨e, he, rfl⟩, hs⟩, rfl⟩
    exact ⟨e, he, hs, rfl⟩
  · rintro ⟨e, he, hs, rfl⟩
    exact ⟨_, ⟨⟨e, he, rfl⟩, hs⟩, rfl⟩

/-- R90: the MODE notices of a change of the mode table. -/
def modeNotices (t : GameTable) (g : ModeEntry → ModeStep) : List NoticeBody :=
  (t.modes.map g).filterMap fun st => st.report.map (modeNotice t st.entry)

theorem mem_modeNotices {t : GameTable} {g : ModeEntry → ModeStep} {x : NoticeBody} :
    x ∈ modeNotices t g ↔ ∃ e ∈ t.modes, ∃ r, (g e).report = some r ∧ x = modeNotice t (g e).entry r := by
  unfold modeNotices
  simp only [List.mem_filterMap, List.mem_map, Option.map_eq_some_iff]
  constructor
  · rintro ⟨_, ⟨e, he, rfl⟩, r, hr, rfl⟩
    exact ⟨e, he, r, hr, rfl⟩
  · rintro ⟨e, he, r, hr, rfl⟩
    exact ⟨_, ⟨e, he, rfl⟩, r, hr, rfl⟩

theorem mapModes_notices (w : Work) (g : ModeEntry → ModeStep) :
    (w.mapModes g).notices = w.notices ++ modeNotices w.table g := rfl

theorem mapModes_told {w : Work} {g : ModeEntry → ModeStep} (hg : ∀ e ∈ w.table.modes, StepTold e (g e)) :
    ModesTold f w.table (w.mapModes g).table.modes (modeNotices w.table g) := by
  refine ⟨fun e he hgone => ?_, fun d hd => ?_, fun x hx => ?_⟩
  · have hstay : ∀ d, (g e).stays = true → (g e).entry = d → ¬d.sameKey e := fun d hs hd =>
      hgone d (mem_mapModes.2 ⟨e, he, hs, hd⟩)
    rcases hg e he with hk | ⟨m, hk⟩ | ⟨r, hr, hk⟩
    · rw [hk] at hstay
      exact absurd ⟨rfl, rfl⟩ (hstay e rfl rfl)
    · rw [hk] at hstay
      exact absurd ⟨rfl, rfl⟩ (hstay _ rfl rfl)
    · exact ⟨modeNotice w.table e r, mem_modeNotices.2 ⟨e, he, r, by rw [hk]; exact ⟨rfl, rfl⟩⟩, _, _, _, _, rfl, hr⟩
  · obtain ⟨e, he, hs, rfl⟩ := mem_mapModes.1 hd
    rcases hg e he with hk | ⟨m, hk⟩ | ⟨r, hr, hk⟩
    · rw [hk]
      exact .inl he
    · refine .inr ⟨modeNotice w.table { e with state := m } m.report, ?_, ?_⟩
      · exact mem_modeNotices.2 ⟨e, he, m.report, by rw [hk]; exact ⟨rfl, rfl⟩⟩
      · rw [hk]
        exact ⟨_, rfl, fun _ => rfl⟩
    · rw [hk] at hs
      cases hs
  · obtain ⟨e, he, r, hr, rfl⟩ := mem_modeNotices.1 hx
    rfl

end ModeSteps

/-- What the notices other than PHASE and BALLS report of a table. -/
def GameTable.reported (t : GameTable) :
    Vector SlotRecord 8 × List ModeEntry × Vector Member 16 × Option RefusalRecord × Word32 × Vector Player 4 :=
  (t.slots, t.modes, t.members, t.refusal, t.ordinal, t.players)

namespace Told

variable {f : Frame} {v w : Work} {x : PhaseValues}

/-- A change that leaves all that the notices other than PHASE and BALLS report, and adds to no hold set. -/
theorem silent (h : Told f v x w) (g : GameTable → GameTable) (hs : (g w.table).reported = w.table.reported)
    (hh : (g w.table).holds = w.table.holds ∨ (g w.table).holds = Vector.replicate 16 none) : Told f v x (w.upd g) := by
  simp only [GameTable.reported, Prod.mk.injEq] at hs
  obtain ⟨hslots, hmodes, hmembers, hrefusal, hordinal, hplayers⟩ := hs
  refine .upd _ h ⟨hslots, hmodes, hmembers, hrefusal, hordinal, fun p => by rw [hplayers]; exact ⟨rfl, rfl⟩, fun k hk => ?_⟩
  rcases hh with hh | hh
  · rw [hh] at hk
    exact .inl hk
  · rw [hh] at hk
    exact absurd (Vector.getElem_replicate k.isLt) hk

/-- R54: one change of the lock table. -/
theorem mapSlots_const (h : Told f v x w) (g : SlotRecord → SlotRecord) (hg : ∀ r, g r = r ∨ (g r).code ≠ r.code) :
    Told f v x (w.mapSlots fun _ r => g r) := .slots _ h fun n => hg w.table.slots[n]

theorem setSlot (h : Told f v x w) (n : Slot) (r : SlotRecord)
    (hr : r = w.table.slots[n] ∨ r.code ≠ w.table.slots[n].code) : Told f v x (w.setSlot n r) := by
  refine .slots _ h fun k => ?_
  by_cases hk : k = n
  · subst hk
    simpa using hr
  · exact .inl (if_neg hk)

theorem mapModes (h : Told f v x w) (g : ModeEntry → ModeStep) (hg : ∀ e, StepTold e (g e)) :
    Told f v x (w.mapModes g) := .modes _ _ h (mapModes_told fun e _ => hg e)

theorem notePhase (h : Told f v x w) (hx : w.table.phaseValues ≠ x) : Settled f v w.notePhase := .phase h hx

/-! #### Game over, the ball end, the tilt -/

theorem ended (h : Told f v x w) : Told f v x (w.mapModes fun e => .remove e .ended) :=
  h.mapModes _ fun e => stepTold_remove e ModeReport.ended_removes

theorem code_absent (r : SlotRecord) : SlotRecord.absent = r ∨ SlotRecord.absent.code ≠ r.code := by
  cases r <;> simp [SlotRecord.code]

/-- R47. -/
theorem gameOver (h : Told f v x w) (hx : x.1 ≠ .attract) : Settled f v w.gameOver := by
  have h1 : Told f v x (w.upd fun t => { t with phase := .attract }) := h.silent _ rfl (.inl rfl)
  have h3 := h1.ended.mapSlots_const (fun _ => .absent) code_absent
  show Settled f v (Work.notePhase (Work.upd _ _))
  refine (h3.silent _ rfl (.inr rfl)).notePhase fun e => hx ?_
  rw [← e]
  rfl

/-- R46, R88. -/
theorem nextBall (h : Told f v x w) (hx : x.1 ≠ .play) : Settled f v w.nextBall := by
  have h1 : Told f v x (w.upd fun t => { t with phase := .play }) := h.silent _ rfl (.inl rfl)
  have h2 := h1.notePhase fun e => hx (by rw [← e]; rfl)
  have h3 : Told f v _ (((w.upd fun t => { t with phase := .play }).notePhase).upd fun t =>
      { t with servePending := 1, launchSeen := false }) := h2.silent _ rfl (.inl rfl)
  exact h3.mapModes _ fun e => stepTold_ite (stepTold_move e _) (stepTold_keep e)

/-- R46. -/
theorem completeBallEnd (h : Told f v x w) (hx : x.1 = .ballEnd) : Settled f v w.completeBallEnd := by
  unfold Work.completeBallEnd
  dsimp only
  generalize hu : (Work.upd (Work.upd _ _) _ : Work) = u
  have h2 : Told f v x u := by
    rw [← hu]
    exact (h.silent _ rfl (.inl rfl)).silent _ rfl (.inl rfl)
  split
  · exact h2.gameOver (by rw [hx]; decide)
  · exact h2.nextBall (by rw [hx]; decide)

/-- R44. -/
theorem completionCheck (h : Settled f v w) : Settled f v w.completionCheck := by
  unfold Work.completionCheck
  split
  · next hp => exact Told.completeBallEnd h hp.1
  · exact h

theorem code_ballEndSlot (r : SlotRecord) : ballEndSlot r = r ∨ (ballEndSlot r).code ≠ r.code := by
  cases r <;> simp [ballEndSlot, SlotRecord.code]

theorem stepTold_ballEnd (t : GameTable) (e : ModeEntry) : StepTold e (ballEndModeStep t e) :=
  stepTold_ite (stepTold_ite (stepTold_move e _) (stepTold_remove e ModeReport.ended_removes)) (stepTold_keep e)

/-- R43. -/
theorem enterBallEnd (h : Told f v x w) (hx : x.1 ≠ .ballEnd) : Settled f v w.enterBallEnd := by
  have h1 : Told f v x (w.upd fun t => { t with phase := .ballEnd }) := h.silent _ rfl (.inl rfl)
  have h2 := h1.notePhase fun e => hx (by rw [← e]; rfl)
  have h3 := (Told.mapSlots_const h2 ballEndSlot code_ballEndSlot).mapModes _
    (stepTold_ballEnd ((w.upd fun t => { t with phase := .ballEnd }).notePhase.mapSlots fun _ r => ballEndSlot r).table)
  exact h3.silent (fun t =>
    { t with
      holds := Vector.replicate 16 none, saveWindow := 0, multiball := false,
      ballEndRemaining := Config.ballEndTicks }) rfl (.inr rfl)

/-- R42. -/
theorem ballEndEntryCheck (h : Settled f v w) : Settled f v w.ballEndEntryCheck := by
  unfold Work.ballEndEntryCheck
  split
  · next hp => exact Told.enterBallEnd h (by show w.table.phase ≠ _; rw [hp.1]; decide)
  · exact h

theorem code_darken (r : SlotRecord) : darken r = r ∨ (darken r).code ≠ r.code := by
  cases r <;> simp [darken, SlotRecord.code]

/-- R40. -/
theorem tiltEffects (h : Settled f v w) (ht : w.table.tilted = false) : Settled f v w.tiltEffects := by
  have h1 : Told f v w.table.phaseValues (w.upd fun t => { t with tilted := true }) :=
    h.silent _ rfl (.inl rfl)
  have h2 := h1.mapModes (fun e => if { w.table with tilted := true }.activeOfCurrent e then .remove e .aborted else .keep e)
    fun e => stepTold_ite (stepTold_remove e ModeReport.aborted_removes) (stepTold_keep e)
  have h3 := h2.silent (fun t => { t with holds := Vector.replicate 16 none }) rfl (.inr rfl)
  refine (h3.mapSlots_const darken code_darken).notePhase fun e => ?_
  have htilt : true = w.table.tilted := congrArg (fun y : PhaseValues => y.2.2.2.2.1) e
  rw [ht] at htilt
  cases htilt

/-! #### The silence check and the recomputation -/

/-- R37, R39. -/
theorem silenceCheck (h : Settled f v w) (hp : w.table.phase ≠ .attract) : Settled f v w.silenceCheck := by
  unfold Work.silenceCheck
  have h1 : Settled f v w.silenceEntries := Told.silence h
  split
  · exact (h1.mapModes _ fun e => stepTold_remove e ModeReport.aborted_removes).gameOver hp
  · exact h1

theorem silenceStage (h : Settled f v w) : Settled f v w.silenceStage := by
  unfold Work.silenceStage
  split
  · exact h
  · next hp => exact Told.silenceCheck h hp

theorem code_light (b : Bool) (r : SlotRecord) : light b r = r ∨ (light b r).code ≠ r.code := by
  cases r <;> cases b <;> simp [light, SlotRecord.code]

theorem stepTold_pause (t : GameTable) (e : ModeEntry) : StepTold e (pauseStep t e) :=
  stepTold_ite (stepTold_move e _) (stepTold_keep e)

/-- R17. -/
theorem recompute (h : Settled f v w) : Settled f v w.recompute := by
  have h1 : Settled f v w.endMultiball := by
    unfold Work.endMultiball
    split
    · exact Told.silent h _ rfl (.inl rfl)
    · exact h
  exact (h1.mapSlots_const _ (code_light _)).mapModes _ (stepTold_pause _)

/-! #### Refusals -/

theorem refuse (r : Reason) : Settled f v (v.refuse f r).1 := .refusal _ _ _ _ _ .refl (.inr rfl)

end Told

end Sys2Proof.Machine

namespace Sys2Proof.Machine

/-! ### Every kind's checks and effects are told -/

namespace Told

variable {f : Frame} {v w : Work} {x : PhaseValues}

/-- A change of the current player's record that keeps its score and its sweep. -/
theorem updPlayer (h : Told f v x w) (g : Player → Player)
    (hg : ∀ p, (g p).score = p.score ∧ (g p).sweepQualified = p.sweepQualified) : Told f v x (w.updPlayer g) := by
  refine .upd _ h ⟨rfl, rfl, rfl, rfl, rfl, fun p => ?_, fun k hk => .inl hk⟩
  simp only [vmap_get_fin]
  split
  · exact hg _
  · exact ⟨rfl, rfl⟩

/-- A change that PHASE does not report either. -/
theorem settledUpd (h : Settled f v w) (g : GameTable → GameTable) (hs : (g w.table).reported = w.table.reported)
    (hh : (g w.table).holds = w.table.holds) (hp : (g w.table).phaseValues = w.table.phaseValues) :
    Settled f v (w.upd g) := by
  have h1 := Told.silent h g hs (.inl hh)
  rwa [← hp] at h1

theorem raiseServe (h : Told f v x w) : Told f v x w.raiseServe := h.silent _ rfl (.inl rfl)

/-! #### Tilt and nudge -/

theorem tilt : Settled f v (tiltStage f v).1 := by
  unfold tiltStage
  split
  · exact refuse _
  · split
    · exact refl
    · next ht => exact tiltEffects refl (by simpa using ht)

theorem countNudge (h : Settled f v w) : Settled f v w.countNudge := by
  have h1 : Told f v w.table.phaseValues (w.upd fun t => { t with nudgeCount := t.nudgeCount + 1 }) :=
    Told.silent h _ rfl (.inl rfl)
  refine h1.notePhase fun e => ?_
  have hn : w.table.nudgeCount + 1 = w.table.nudgeCount := congrArg (fun y : PhaseValues => y.2.2.2.2.2) e
  omega

theorem nudge : Settled f v (nudgeStage f v).1 := by
  unfold nudgeStage
  split
  · exact refuse _
  · split
    · exact refl
    · next ht =>
      split
      · exact tiltEffects (countNudge refl) (show v.table.tilted = false by simpa using ht)
      · exact countNudge refl

/-! #### Lock slots -/

theorem code_multiballSlot (r : SlotRecord) : multiballSlot r = r ∨ (multiballSlot r).code ≠ r.code := by
  cases r <;> simp [multiballSlot, SlotRecord.code]

theorem startMultiball (h : Told f v x w) : Told f v x w.startMultiball :=
  (h.mapSlots_const multiballSlot code_multiballSlot).silent _ rfl (.inl rfl)

theorem takeLock (h : Told f v x w) {n : Slot} {k : Station} (hs : w.table.slots[n] = .opened k) :
    Told f v x (w.takeLock n k) := by
  have h1 : Told f v x (w.upd fun t => { t with inPlay := t.inPlay - 1 }) := h.silent _ rfl (.inl rfl)
  refine (h1.setSlot n (.held k w.table.currentPlayer) (.inr ?_)).updPlayer _ fun p => ⟨rfl, rfl⟩
  show SlotRecord.code _ ≠ w.table.slots[n].code
  rw [hs]
  simp [SlotRecord.code]

theorem lockEffects (h : Settled f v w) {n : Slot} {k : Station} (hs : w.table.slots[n] = .opened k) :
    Settled f v (w.lockEffects n k) := by
  have h1 : Settled f v (w.takeLock n k) := Told.takeLock h hs
  unfold Work.lockEffects
  dsimp only
  split
  · exact Told.startMultiball h1
  · split
    · exact Told.raiseServe h1
    · exact h1

theorem lock (n : Slot) : Settled f v (lockStage f n v).1 := by
  unfold lockStage
  split
  · exact refuse _
  · split
    · exact refuse _
    · split
      · exact refuse _
      · split
        · exact refuse _
        · next hs =>
          split
          · exact refuse _
          · exact lockEffects refl (not_not.1 hs)

theorem lost (n : Slot) : Settled f v (lostStage f n v).1 := by
  unfold lostStage
  split
  · next hs =>
    have h1 : Settled f v (v.setSlot n (.dark f.sender)) := Told.setSlot refl n _ (.inr (by
      have hh := hs.1
      cases hr : v.table.slots[n] <;> rw [hr] at hh <;> simp [SlotRecord.isHeld, SlotRecord.code] at hh ⊢))
    exact (Told.silent h1 (fun t => { t with inPlay := t.inPlay + 1 }) rfl (.inl rfl)).updPlayer _ fun p => ⟨rfl, rfl⟩
  · exact refuse _

theorem countRelease_reported (t : GameTable) (c : Option Cause) :
    (t.countRelease c).reported = t.reported ∧ (t.countRelease c).holds = t.holds
      ∧ (t.countRelease c).phaseValues = t.phaseValues := by
  unfold GameTable.countRelease
  split <;> exact ⟨rfl, rfl, rfl⟩

theorem released (n : Slot) : Settled f v (releasedStage f n v).1 := by
  unfold releasedStage
  split
  · next hs =>
    have h1 : Settled f v (v.setSlot n (.dark f.sender)) := Told.setSlot refl n _ (.inr (by
      have hh := hs.1
      cases hr : v.table.slots[n] <;> rw [hr] at hh <;> simp [SlotRecord.isLeaving, SlotRecord.code] at hh ⊢))
    obtain ⟨hr, hh, hp⟩ := countRelease_reported (v.setSlot n (.dark f.sender)).table v.table.slots[n].cause
    exact settledUpd h1 _ hr hh hp
  · exact refuse _

theorem jammed (n : Slot) : Settled f v (jammedStage f n v).1 := by
  unfold jammedStage
  split
  · next o c hs =>
    split
    · have h1 : Settled f v (v.setSlot n (.jammed o c)) := Told.setSlot refl n _ (.inr (by
        rw [hs]
        simp [SlotRecord.code]))
      dsimp only
      refine ballEndEntryCheck ?_
      split
      · exact Told.raiseServe h1
      · exact h1
    · exact refuse _
  · exact refuse _

/-! #### The trough -/

theorem drain : Settled f v (drainStage f v).1 := by
  unfold drainStage
  split
  · exact refuse _
  · split
    · exact settledUpd refl _ rfl rfl rfl
    · split
      · have h1 : Settled f v (v.upd fun t => { t with inPlay := t.inPlay - 1 }) := settledUpd refl _ rfl rfl rfl
        dsimp only
        split
        · exact Told.raiseServe h1
        · exact ballEndEntryCheck h1
      · exact refuse _

theorem launched : Settled f v (launchedStage f v).1 := by
  unfold launchedStage
  split
  · exact refuse _
  · split
    · exact refuse _
    · split
      · exact settledUpd refl _ rfl rfl rfl
      · exact settledUpd refl _ rfl rfl rfl

/-! #### Players, joining, presence -/

theorem addPlayer : Settled f v (addPlayerStage f v).1 := by
  unfold addPlayerStage
  split
  · exact refuse _
  · split
    · exact refuse _
    · split
      · exact refuse _
      · split
        · exact refuse _
        · have h1 : Told f v v.table.phaseValues (v.upd fun t => { t with playerCount := t.playerCount + 1 }) :=
            refl.silent _ rfl (.inl rfl)
          refine h1.notePhase fun e => ?_
          have hn : v.table.playerCount + 1 = v.table.playerCount := congrArg (fun y : PhaseValues => y.2.1) e
          omega

theorem memberBecomes (h : Told f v x w) (k : Station) (st : MemberState) : Told f v x (w.memberBecomes k st) := by
  refine .member k _ h fun j hj => ?_
  rw [vmap_get_fin, if_neg hj]

/-- R32: an entry takes the JOIN's values with its state, in one MEMBER notice. -/
theorem joined (h : Told f v x w) (k : Station) (g : Member → Member) (ref : Option Word16) (st : MemberState) :
    Told f v x (((w.updMember k g).upd fun t => { t with referenceDigest := ref }).memberBecomes k st) := by
  have h1 := h.silent (fun t => { t with referenceDigest := ref }) rfl (.inl rfl)
  refine Told.member (w := w.upd fun t => { t with referenceDigest := ref }) k _ h1 fun j hj => ?_
  rw [vmap_get_fin, if_neg hj]
  exact (vmap_get_fin _ _ j).trans (if_neg hj)

theorem clearOccupied_slots (k : Station) (w : Work) (n m : Slot) :
    (Work.clearOccupied k w n).table.slots[m] = .releasing k .clear
      ∨ (Work.clearOccupied k w n).table.slots[m] = w.table.slots[m] := by
  by_cases h : w.table.countedTotal < w.table.profile.ballsInstalled
  · rw [show Work.clearOccupied k w n = w.setSlot n (.releasing k .clear) from if_pos h, setSlot_table]
    unfold withSlot
    rw [vmap_get_fin]
    split
    · exact .inl rfl
    · exact .inr rfl
  · rw [show Work.clearOccupied k w n = w.recordRefusal .join k .stray none (some n) from if_neg h]
    exact .inr rfl

/-- R33: the occupied slots of an admitted JOIN, each DARK before. -/
theorem clearOccupied (hf : f.payload.kind = .join) (k : Station) (l : List Slot) :
    ∀ {w : Work}, Settled f v w →
      (∀ n ∈ l, w.table.slots[n] = .dark k ∨ w.table.slots[n] = .releasing k .clear) →
      Settled f v (l.foldl (Work.clearOccupied k) w) := by
  induction l with
  | nil => exact fun h _ => h
  | cons n l ih =>
    intro w h hl
    refine ih ?_ fun m hm => ?_
    · unfold Work.clearOccupied
      split
      · refine Told.setSlot h n _ ?_
        rcases hl n List.mem_cons_self with hn | hn <;> rw [hn]
        · exact .inr (by simp [SlotRecord.code])
        · exact .inl rfl
      · exact .refusal _ _ _ _ _ h (.inl hf)
    · rcases clearOccupied_slots k w n m with hs | hs
      · exact .inr hs
      · rw [hs]
        exact hl m (List.mem_cons_of_mem _ hm)

theorem admission (hf : f.payload.kind = .join) (k : Station) (declared occupied : Byte)
    (hd : ∀ n : Slot, declared.getLsbD n.val = true → w.table.slots[n] = .absent)
    (hb : Settled f v (w.memberBecomes k .member)) : Settled f v (w.admission k declared occupied) := by
  have hslots : (w.memberBecomes k .member).table.slots = w.table.slots := rfl
  have h2 : Settled f v ((w.memberBecomes k .member).mapSlots fun n r => if declared.getLsbD n.val then .dark k else r) := by
    refine Told.slots _ hb fun n => ?_
    split
    · next hn =>
      rw [hslots, hd n hn]
      exact .inr (by simp [SlotRecord.code])
    · exact .inl rfl
  refine clearOccupied hf k _ h2 fun n hn => .inl ?_
  rw [mapSlots_table, vmap_get_fin, if_pos]
  have := (List.mem_filter.1 hn).2
  rw [BitVec.getLsbD_and, Bool.and_eq_true] at this
  exact this.1

theorem judgeJoin (hf : f.payload.kind = .join) (h : Settled f v w) (k : Station) (digest : Word16)
    (declared occupied roles : Byte) : Settled f v (w.judgeJoin k digest declared occupied roles) := by
  unfold Work.judgeJoin
  dsimp only
  generalize hu : ((w.updMember k fun m =>
    { m with declared := declared, trough := roles.getLsbD 0, start := roles.getLsbD 1, digest := some digest }).upd
      fun t => { t with referenceDigest := some (t.referenceDigest.getD digest) }) = u
  have hj : ∀ st, Settled f v (u.memberBecomes k st) := fun st => by
    rw [← hu]
    exact joined h k _ _ st
  split
  · exact hj .mismatched
  · split
    · exact hj .mismatched
    · next hany =>
      refine admission hf k declared occupied (fun n hn => ?_) (hj .member)
      by_contra hs
      refine hany (List.any_eq_true.2 ⟨n, mem_indices n, ?_⟩)
      rw [hn, Bool.true_and, bne_iff_ne]
      exact hs

theorem join (hf : f.payload.kind = .join) (digest : Word16) (declared occupied roles : Byte) :
    Settled f v (joinStage f digest declared occupied roles v).1 := by
  unfold joinStage
  split
  · exact refuse _
  · split
    · exact judgeJoin hf refl _ _ _ _ _
    · exact memberBecomes refl _ _
    · exact refl
    · exact refl

theorem presence (own : Station) (summary : Byte) : Settled f v (presenceStage own f summary v).1 := by
  unfold presenceStage
  split
  · exact .fault _ _ refl
  · exact refl

/-! #### Modes and holds -/

theorem newMode_told (t : GameTable) (m : ModeId) (ps : Vector Player 4) :
    ModesTold f { t with players := ps } (t.modes ++ [t.newMode m])
      [modeNotice { t with modes := t.modes ++ [t.newMode m], players := ps } (t.newMode m) (t.newMode m).state.report] := by
  refine ⟨fun e he hgone => ?_, fun e he => ?_, fun y hy => ?_⟩
  · exact absurd ⟨rfl, rfl⟩ (hgone e (List.mem_append_left _ he))
  · rcases List.mem_append.1 he with he | he
    · exact .inl he
    · rw [List.mem_singleton.1 he]
      exact .inr ⟨_, List.mem_singleton_self _, _, rfl, fun _ => rfl⟩
  · rw [List.mem_singleton.1 hy]
    rfl

theorem modeEffects (m : ModeId) : Settled f v (v.modeEffects m) := by
  unfold Work.modeEffects
  dsimp only
  split
  · have h1 := Told.players (w := v)
      (vmap (fun k p => if k = v.table.currentPlayer then { p with sweepQualified := false } else p) v.table.players)
      (refl (f := f)) (.inr ⟨rfl, fun p => by rw [vmap_get_fin]; split <;> rfl⟩)
    exact Told.modes _ _ h1 (newMode_told v.table m _)
  · exact Told.modes _ _ refl (newMode_told v.table m v.table.players)

theorem mode (m : ModeId) : Settled f v (modeStage f m v).1 := by
  unfold modeStage
  split
  · exact refuse _
  · split
    · exact refuse _
    · split
      · exact refuse _
      · exact modeEffects m

theorem holdSet (hf : f.payload.kind = .hold) : Settled f v (holdSetStage f v).1 := by
  unfold holdSetStage
  split
  · refine .upd _ refl ⟨rfl, rfl, rfl, rfl, rfl, fun p => ⟨rfl, rfl⟩, fun k hk => ?_⟩
    rw [vmap_get_fin] at hk
    split at hk
    · next h => exact .inr ⟨hf, h⟩
    · exact .inl hk
  · exact refl

theorem holdClear : Settled f v (holdClearStage f v).1 := by
  unfold holdClearStage
  split
  · refine .upd _ refl ⟨rfl, rfl, rfl, rfl, rfl, fun p => ⟨rfl, rfl⟩, fun k hk => ?_⟩
    rw [vmap_get_fin] at hk
    split at hk
    · exact absurd rfl hk
    · exact .inl hk
  · exact refuse _

/-! #### Ticks -/

theorem expireHolds (h : Settled f v w) : Settled f v w.expireHolds := by
  refine .upd _ h ⟨rfl, rfl, rfl, rfl, rfl, fun p => ⟨rfl, rfl⟩, fun k hk => ?_⟩
  rw [vmap_get_fin] at hk
  split at hk
  · exact absurd rfl hk
  · exact .inl hk

theorem enterPlay (h : Settled f v w) (hp : w.table.phase = .rollcall) : Settled f v w.enterPlay := by
  have h1 : Told f v w.table.phaseValues (w.upd fun t => { t with phase := .play }) := Told.silent h _ rfl (.inl rfl)
  have h2 := h1.notePhase fun e => by
    have hph : Phase.play = w.table.phase := congrArg (fun y : PhaseValues => y.1) e
    rw [hp] at hph
    cases hph
  exact settledUpd h2 _ rfl rfl rfl

theorem endRollcall (h : Settled f v w) (hp : w.table.phase = .rollcall) (hn : w.notices = v.notices) (k : Station) :
    Settled f v (w.endRollcall k) := by
  unfold Work.endRollcall
  split
  · exact enterPlay h hp
  · refine gameOver (.refusal _ _ _ _ _ h (.inr hn)) ?_
    show w.table.phase ≠ .attract
    rw [hp]
    decide

theorem rollcallCountdown (h : Settled f v w) (hp : w.table.phase = .rollcall) (hn : w.notices = v.notices) (k : Station) :
    Settled f v (w.rollcallCountdown k) := by
  have h1 : Settled f v (w.upd fun t => { t with rollcallRemaining := t.rollcallRemaining - 1 }) :=
    settledUpd h _ rfl rfl rfl
  unfold Work.rollcallCountdown
  dsimp only
  split
  · exact endRollcall h1 hp hn k
  · exact h1

theorem playCountdown (h : Settled f v w) (hm : w.table.modes = v.table.modes) : Settled f v w.playCountdown := by
  have h1 : Settled f v (w.upd fun t => { t with saveWindow := if t.holdsEmpty then t.saveWindow - 1 else t.saveWindow }) :=
    settledUpd h _ rfl rfl rfl
  exact .countdown h1 hm

theorem ballEndCountdown (h : Settled f v w) (hp : w.table.phase = .ballEnd) : Settled f v w.ballEndCountdown := by
  have h1 : Settled f v (w.upd fun t => { t with ballEndRemaining := t.ballEndRemaining - 1 }) :=
    settledUpd h _ rfl rfl rfl
  unfold Work.ballEndCountdown
  dsimp only
  split
  · exact completeBallEnd (settledUpd h1 (fun t => { t with returning := 0 }) rfl rfl rfl) hp
  · exact h1

theorem countdownStage (h : Settled f v w) (hn : w.notices = v.notices) (hm : w.table.modes = v.table.modes) (k : Station) :
    Settled f v (w.countdown k) := by
  unfold Work.countdown
  split
  · exact h
  · next hp => exact rollcallCountdown h hp hn k
  · exact playCountdown h hm
  · next hp => exact ballEndCountdown h hp

theorem tick (number : Word16) : Settled f v (tickStage f number v).1 := by
  unfold tickStage
  split
  · have h1 : Settled f v v.advanceTick.expireHolds := expireHolds (settledUpd refl _ rfl rfl rfl)
    exact ballEndEntryCheck (silenceStage (countdownStage h1 rfl rfl _))
  · exact refl

end Told

end Sys2Proof.Machine

namespace Sys2Proof.Machine

/-! ### A HIT is told -/

section Goals

/-- R97, R98, R83: the notices `ns` tell how stage 3 of a HIT makes `ms` of the entries `l`. -/
structure GoalsTold (l ms : List ModeEntry) (ns : List NoticeBody) : Prop where
  removed : ∀ e ∈ l, (∀ d ∈ ms, ¬d.sameKey e) → ∃ x ∈ ns, TellsRemoval e x
  told    : ∀ e ∈ ms, e ∈ l ∨ ∃ x ∈ ns, ∃ sweep, x = .mode e.mode e.player e.state.report e.remaining e.progress sweep
  sort    : ∀ x ∈ ns, x.code = 6

namespace GoalsTold

variable {l ms : List ModeEntry} {ns : List NoticeBody}

theorem nil : GoalsTold [] [] [] := ⟨nofun, nofun, nofun⟩

theorem passed (h : GoalsTold l ms ns) (e : ModeEntry) : GoalsTold (e :: l) (e :: ms) ns := by
  refine ⟨fun d hd hgone => ?_, fun d hd => ?_, h.sort⟩
  · rcases List.mem_cons.1 hd with rfl | hd
    · exact absurd ⟨rfl, rfl⟩ (hgone d List.mem_cons_self)
    · exact h.removed d hd fun c hc => hgone c (List.mem_cons_of_mem _ hc)
  · rcases List.mem_cons.1 hd with rfl | hd
    · exact .inl List.mem_cons_self
    · exact (h.told d hd).imp (List.mem_cons_of_mem _) id

theorem advanced (h : GoalsTold l ms ns) {e e' : ModeEntry} (hk : e'.sameKey e) (sweep : Bool) :
    GoalsTold (e :: l) (e' :: ms) (.mode e'.mode e'.player e'.state.report e'.remaining e'.progress sweep :: ns) := by
  refine ⟨fun d hd hgone => ?_, fun d hd => ?_, fun x hx => ?_⟩
  · rcases List.mem_cons.1 hd with rfl | hd
    · exact absurd hk (hgone e' List.mem_cons_self)
    · obtain ⟨x, hx, ht⟩ := h.removed d hd fun c hc => hgone c (List.mem_cons_of_mem _ hc)
      exact ⟨x, List.mem_cons_of_mem _ hx, ht⟩
  · rcases List.mem_cons.1 hd with rfl | hd
    · exact .inr ⟨_, List.mem_cons_self, sweep, rfl⟩
    · exact (h.told d hd).imp (List.mem_cons_of_mem _) fun ⟨x, hx, ht⟩ => ⟨x, List.mem_cons_of_mem _ hx, ht⟩
  · rcases List.mem_cons.1 hx with rfl | hx
    · rfl
    · exact h.sort x hx

theorem completed (h : GoalsTold l ms ns) {e e' : ModeEntry} (hk : e'.sameKey e) (t : GameTable) :
    GoalsTold (e :: l) ms (modeNotice t e' .completed :: ns) := by
  refine ⟨fun d hd hgone => ?_, fun d hd => ?_, fun x hx => ?_⟩
  · rcases List.mem_cons.1 hd with rfl | hd
    · refine ⟨_, List.mem_cons_self, .completed, e'.remaining, e'.progress, t.players[e'.player].sweepQualified, ?_, .inl rfl⟩
      rw [← hk.1, ← hk.2]
      rfl
    · obtain ⟨x, hx, ht⟩ := h.removed d hd hgone
      exact ⟨x, List.mem_cons_of_mem _ hx, ht⟩
  · exact (h.told d hd).imp (List.mem_cons_of_mem _) fun ⟨x, hx, ht⟩ => ⟨x, List.mem_cons_of_mem _ hx, ht⟩
  · rcases List.mem_cons.1 hx with rfl | hx
    · rfl
    · exact h.sort x hx

end GoalsTold

/-- R97: stage 3 of a HIT changes the players' records and the mode table, and tells of it. -/
theorem goalHits_eq (m : Nat) (tag : Byte) (l : List ModeEntry) :
    ∀ (kept : List ModeEntry) (w : Work), ∃ ps ms ns,
      goalHits m tag kept l w =
          { table := { w.table with players := ps, modes := kept ++ ms }, notices := w.notices ++ ns }
        ∧ GoalsTold l ms ns := by
  induction l with
  | nil => exact fun kept w => ⟨w.table.players, [], [], by simp [goalHits, Work.upd], .nil⟩
  | cons e l ih =>
    intro kept w
    have step : ∀ (kept' : List ModeEntry) (ps : Vector Player 4) (n : NoticeBody), ∃ ps' ms ns,
        goalHits m tag kept' l { table := { w.table with players := ps }, notices := w.notices ++ [n] } =
            { table := { w.table with players := ps', modes := kept' ++ ms }, notices := w.notices ++ n :: ns }
          ∧ GoalsTold l ms ns := fun kept' ps n => by
      obtain ⟨ps', ms, ns, he, ht⟩ := ih kept' { table := { w.table with players := ps }, notices := w.notices ++ [n] }
      exact ⟨ps', ms, ns, by rw [he, List.append_assoc]; rfl, ht⟩
    unfold goalHits
    split
    · dsimp only
      split
      · obtain ⟨ps, ms, ns, he, ht⟩ := step kept _ _
        exact ⟨ps, ms, _, he, ht.completed (e := e) (e' := { e with progress := e.progress + 1 }) ⟨rfl, rfl⟩ _⟩
      · obtain ⟨ps, ms, ns, he, ht⟩ := step (kept ++ [{ e with progress := e.progress + 1 }]) _ _
        exact ⟨ps, { e with progress := e.progress + 1 } :: ms, _ :: ns, he.trans (by rw [List.append_assoc]; rfl),
          ht.advanced (e := e) (e' := { e with progress := e.progress + 1 }) ⟨rfl, rfl⟩ _⟩
    · obtain ⟨ps, ms, ns, he, ht⟩ := ih (kept ++ [e]) w
      exact ⟨ps, e :: ms, ns, he.trans (by rw [List.append_assoc]; rfl), ht.passed e⟩

end Goals

namespace Told

variable {f : Frame} {v w : Work} {x : PhaseValues}

theorem award (hf : f.payload.kind = .hit) (h : Settled f v w) (n : Nat) : Settled f v (w.award n) :=
  .players _ h (.inl hf)

theorem goalHits (hf : f.payload.kind = .hit) (h : Settled f v w) (m : Nat) (tag : Byte) :
    Settled f v (goalHits m tag [] w.table.modes w) := by
  obtain ⟨ps, ms, ns, he, ht⟩ := goalHits_eq m tag w.table.modes [] w
  rw [he]
  refine .modes ms ns (.players ps h (.inl hf)) ⟨ht.removed, fun e hm => (ht.told e hm).imp_right ?_, ht.sort⟩
  exact fun ⟨x, hx, sweep, hs⟩ => ⟨x, hx, sweep, hs, fun hn => absurd hf hn⟩

theorem lightLock (hf : f.payload.kind = .hit) (h : Settled f v w) (flags : Byte) : Settled f v (w.lightLock flags) := by
  unfold Work.lightLock
  split
  · exact .players _ h (.inl hf)
  · exact h

theorem jackpotStage (hf : f.payload.kind = .hit) (h : Settled f v w) (m : Nat) (flags : Byte) :
    Settled f v (w.jackpotStage m flags) := by
  unfold Work.jackpotStage
  split
  · exact settledUpd (award hf h _) _ rfl rfl rfl
  · exact h

theorem hitEffects (hf : f.payload.kind = .hit) (h : Settled f v w) (k : Station) (sw : Switch) (base : BitVec 24)
    (tag flags : Byte) : Settled f v (w.hitEffects k sw base tag flags) := by
  have h4 := jackpotStage hf (lightLock hf (goalHits hf (award hf h (base.toNat * w.table.multiplierOf w.table.modes))
    (w.table.multiplierOf w.table.modes) tag) flags) (w.table.multiplierOf w.table.modes) flags
  unfold Work.hitEffects
  dsimp only
  split
  · exact h4
  · exact .score _ h4 hf rfl

theorem hit (hf : f.payload.kind = .hit) (sw : Switch) (base : BitVec 24) (tag flags : Byte) :
    Settled f v (hitStage f sw base tag flags v).1 := by
  unfold hitStage
  split
  · exact refuse _
  · split
    · exact refuse _
    · exact hitEffects hf refl _ _ _ _ _

/-! #### The whole application -/

/-- R26, R15: every kind but a START that begins a game. -/
theorem kindChecks (own : Station) (hb : ¬(f.payload = .start ∧ v.table.phase = .attract)) :
    Settled f v (kindChecks own false f v).1 := by
  unfold Machine.kindChecks
  split
  · exact tilt
  · exact nudge
  · exact lock _
  · exact lost _
  · exact released _
  · exact jammed _
  · exact drain
  · exact launched
  · next hp =>
    unfold startStage
    rw [if_neg (not_or.2 ⟨nofun, fun h => hb ⟨hp, h⟩⟩)]
    exact addPlayer
  · next hp => exact hit (by rw [hp]; rfl) _ _ _ _
  · exact mode _
  · next hp =>
    split
    · exact holdClear
    · exact holdSet (by rw [hp]; rfl)
  · exact tick _
  · exact presence own _
  · next hp => exact join (by rw [hp]; rfl) _ _ _ _

theorem gatedStage (own : Station) (hb : ¬(f.payload = .start ∧ v.table.phase = .attract)) :
    Settled f v (gatedStage own false f v).1 := by
  unfold Machine.gatedStage
  split
  · exact refuse _
  · exact kindChecks own hb

/-- R15, stages 2 to 4. -/
theorem recomputed (own : Station) (hb : ¬(f.payload = .start ∧ v.table.phase = .attract)) :
    Settled f v (kindStage own false f v).1.recompute := recompute (completionCheck (gatedStage own hb))

end Told

end Sys2Proof.Machine

namespace Sys2Proof.Machine

/-! ### What the notices of an application say, sort by sort -/

/-- The values that a PHASE notice says. -/
def phaseSaid (x : NoticeBody) : Option PhaseValues :=
  match x with
  | .phase ph count cur ball tilted nudges => some (ph, count, cur, ball, tilted, nudges)
  | _ => none

/-- The record that a LOCK notice of slot `n` says. -/
def lockSaid (n : Slot) (x : NoticeBody) : Option SlotRecord :=
  match x with
  | .lock k r => if k = n then some r else none
  | _ => none

/-- What a REFUSED notice says. -/
def refusalSaid (x : NoticeBody) : Option (FrameKind × Station × Reason × Option SubReason × Option (Fin 8)) :=
  match x with
  | .refused kind sender reason sub argument => some (kind, sender, reason, sub, argument)
  | _ => none

section Sorts

theorem phaseSaid_eq_none {x : NoticeBody} (h : x.code ≠ 2) : phaseSaid x = none := by
  cases x <;> simp [NoticeBody.code, phaseSaid] at h ⊢

theorem lockSaid_eq_none {n : Slot} {x : NoticeBody} (h : x.code ≠ 5) : lockSaid n x = none := by
  cases x <;> simp [NoticeBody.code, lockSaid] at h ⊢

theorem refusalSaid_eq_none {x : NoticeBody} (h : x.code ≠ 7) : refusalSaid x = none := by
  cases x <;> simp [NoticeBody.code, refusalSaid] at h ⊢

theorem code_lockNotices {old new : Vector SlotRecord 8} {among : Slot → Bool} {x : NoticeBody}
    (h : x ∈ lockNotices old new among) : x.code = 5 := by
  obtain ⟨n, -, hx⟩ := List.mem_filterMap.1 h
  split at hx
  · rw [← Option.some.inj hx]
    rfl
  · cases hx

/-- R37, R38: the notices of the entries found silent. -/
def silenceNotices (w : Work) : List NoticeBody :=
  (indices 16).flatMap fun k =>
    if w.table.findsSilent k then
      lockNotices w.table.slots w.silenceEntries.table.slots (fun n => w.table.slots[n].owner == some k)
        ++ [memberNotice w.silenceEntries.table k]
    else []

theorem silenceEntries_notices (w : Work) : w.silenceEntries.notices = w.notices ++ silenceNotices w := rfl

theorem code_silenceNotices {w : Work} {x : NoticeBody} (h : x ∈ silenceNotices w) : x.code = 5 ∨ x.code = 8 := by
  obtain ⟨k, -, hx⟩ := List.mem_flatMap.1 h
  split at hx
  · rcases List.mem_append.1 hx with hx | hx
    · exact .inl (code_lockNotices hx)
    · rw [List.mem_singleton.1 hx]
      exact .inr rfl
  · cases hx

theorem mapSlots_notices (w : Work) (g : Slot → SlotRecord → SlotRecord) :
    (w.mapSlots g).notices = w.notices ++ lockNotices w.table.slots (vmap g w.table.slots) (fun _ => true) := rfl

theorem note_notices (w : Work) (n : NoticeBody) : (w.note n).notices = w.notices ++ [n] := rfl

theorem recordRefusal_notices (w : Work) (kind : FrameKind) (sender : Station) (reason : Reason) (sub : Option SubReason)
    (argument : Option (Fin 8)) :
    (w.recordRefusal kind sender reason sub argument).notices = w.notices ++ [.refused kind sender reason sub argument] := rfl

theorem code_single {n y : NoticeBody} (c : Nat) (hn : n.code = c) (h : y ∈ [n]) : y.code = c := by
  rw [List.mem_singleton.1 h, hn]

theorem code_modeNotices {t : GameTable} {g : ModeEntry → ModeStep} {x : NoticeBody} (h : x ∈ modeNotices t g) :
    x.code = 6 := by
  obtain ⟨e, -, r, -, rfl⟩ := mem_modeNotices.1 h
  rfl

/-- Notices of other sorts add nothing to what one sort says. -/
theorem filterMap_append_other {α : Type} (g : NoticeBody → Option α) (l : List NoticeBody) {ns : List NoticeBody}
    (h : ∀ x ∈ ns, g x = none) : (l ++ ns).filterMap g = l.filterMap g := by
  rw [List.filterMap_append, List.filterMap_eq_nil_iff.2 h, List.append_nil]

end Sorts

section ReportsLemmas

variable {α : Type} {a y z : α} {l : List α}

theorem reports_nil (a : α) : Reports a [] a := ⟨List.isChain_singleton _, rfl⟩

theorem Reports.next (h : Reports a l y) (hz : z ≠ y) : Reports a (l ++ [z]) z := by
  refine ⟨?_, ?_⟩
  · rw [← List.cons_append, List.isChain_append]
    refine ⟨h.1, List.isChain_singleton _, fun b hb c hc => ?_⟩
    rw [h.2] at hb
    rw [← Option.some.inj hb, ← Option.some.inj hc]
    exact hz.symm
  · rw [← List.cons_append, List.getLast?_append]
    rfl

end ReportsLemmas

namespace Told

variable {f : Frame} {v w : Work} {x : PhaseValues}

/-- R25: the PHASE notices. -/
theorem phases (h0 : v.notices = []) (h : Told f v x w) :
    Reports v.table.phaseValues (w.notices.filterMap phaseSaid) x := by
  have other : ∀ {l ns : List NoticeBody}, (∀ y ∈ ns, y.code ≠ 2) →
      (l ++ ns).filterMap phaseSaid = l.filterMap phaseSaid := fun h =>
    filterMap_append_other _ _ fun y hy => phaseSaid_eq_none (h y hy)
  induction h with
  | refl =>
    rw [h0]
    exact reports_nil _
  | upd t hw hs ih => exact ih
  | players ps hw hp ih => exact ih
  | slots g hw hg ih => rwa [mapSlots_notices, other fun y hy => by rw [code_lockNotices hy]; decide]
  | silence hw ih =>
    rwa [silenceEntries_notices, other fun y hy => by rcases code_silenceNotices hy with e | e <;> rw [e] <;> decide]
  | modes ms ns hw hm ih => rwa [other fun y hy => by rw [hm.sort y hy]; decide]
  | countdown hw hm ih => rwa [mapModes_notices, other fun y hy => by rw [code_modeNotices hy]; decide]
  | member k ms hw hm ih => rwa [other fun y hy => by rw [code_single 8 rfl hy]; decide]
  | refusal kind sender reason sub argument hw hr ih =>
    rwa [recordRefusal_notices, other fun y hy => by rw [code_single 7 rfl hy]; decide]
  | @phase x w hw hx ih =>
    rw [show w.notePhase.notices.filterMap phaseSaid = w.notices.filterMap phaseSaid ++ [w.table.phaseValues] from
      List.filterMap_append]
    exact ih.next hx
  | fault k summary hw ih => rwa [note_notices, other fun y hy => by rw [code_single 9 rfl hy]; decide]
  | score n hw hf hn ih => rwa [note_notices, other fun y hy => by rw [code_single 3 hn hy]; decide]

/-- R182: no BALLS notice is among them, and a SCORE notice for a HIT alone. -/
theorem sorts (h0 : v.notices = []) (h : Told f v x w) :
    ∀ y ∈ w.notices, y.code ≠ 4 ∧ (y.code = 3 → f.payload.kind = .hit) := by
  have more : ∀ {l ns : List NoticeBody}, (∀ y ∈ l, y.code ≠ 4 ∧ (y.code = 3 → f.payload.kind = .hit)) →
      (∀ y ∈ ns, y.code ≠ 4 ∧ y.code ≠ 3) → ∀ y ∈ l ++ ns, y.code ≠ 4 ∧ (y.code = 3 → f.payload.kind = .hit) :=
    fun hl hns y hy => (List.mem_append.1 hy).elim (hl y) fun hy => ⟨(hns y hy).1, fun e => absurd e (hns y hy).2⟩
  induction h with
  | refl =>
    rw [h0]
    exact nofun
  | upd t hw hs ih => exact ih
  | players ps hw hp ih => exact ih
  | slots g hw hg ih => exact more ih fun y hy => by rw [code_lockNotices hy]; decide
  | silence hw ih => exact more ih fun y hy => by rcases code_silenceNotices hy with e | e <;> rw [e] <;> decide
  | modes ms ns hw hm ih => exact more ih fun y hy => by rw [hm.sort y hy]; decide
  | countdown hw hm ih => exact more ih fun y hy => by rw [code_modeNotices hy]; decide
  | member k ms hw hm ih => exact more ih fun y hy => by rw [code_single 8 rfl hy]; decide
  | refusal kind sender reason sub argument hw hr ih => exact more ih fun y hy => by rw [code_single 7 rfl hy]; decide
  | phase hw hx ih => exact more ih fun y hy => by rw [code_single 2 rfl hy]; decide
  | fault k summary hw ih => exact more ih fun y hy => by rw [code_single 9 rfl hy]; decide
  | score n hw hf hn ih =>
    intro y hy
    rcases List.mem_append.1 hy with hy | hy
    · exact ih y hy
    · rw [List.mem_singleton.1 hy, hn]
      exact ⟨by decide, fun _ => hf⟩

/-- R70: a HOLD alone adds to the hold set, its sender's entry. -/
theorem holds (h : Told f v x w) (k : Station) (hk : w.table.holds[k] ≠ none) :
    v.table.holds[k] ≠ none ∨ f.payload.kind = .hold ∧ k = f.sender := by
  induction h with
  | refl => exact .inl hk
  | upd t hw hs ih => exact (hs.holds k hk).elim ih .inr
  | players ps hw hp ih => exact ih hk
  | slots g hw hg ih => exact ih hk
  | silence hw ih => exact ih hk
  | modes ms ns hw hm ih => exact ih hk
  | countdown hw hm ih => exact ih hk
  | member k ms hw hm ih => exact ih hk
  | refusal kind sender reason sub argument hw hr ih => exact ih hk
  | phase hw hx ih => exact ih hk
  | fault k summary hw ih => exact ih hk
  | score n hw hf hn ih => exact ih hk

/-- R16: the kind's checks and effects leave the ordinal. -/
theorem ordinal (h : Told f v x w) : w.table.ordinal = v.table.ordinal := by
  induction h with
  | refl => rfl
  | upd t hw hs ih => exact hs.ordinal.trans ih
  | players ps hw hp ih => exact ih
  | slots g hw hg ih => exact ih
  | silence hw ih => exact ih
  | modes ms ns hw hm ih => exact ih
  | countdown hw hm ih => exact ih
  | member k ms hw hm ih => exact ih
  | refusal kind sender reason sub argument hw hr ih => exact ih
  | phase hw hx ih => exact ih
  | fault k summary hw ih => exact ih
  | score n hw hf hn ih => exact ih

end Told

end Sys2Proof.Machine

namespace Sys2Proof.Machine

section Picking

variable {α β : Type} [DecidableEq α]

theorem filterMap_at {l : List α} (hl : l.Nodup) {n : α} (hn : n ∈ l) (o : Option β) :
    l.filterMap (fun k => if k = n then o else none) = o.toList := by
  induction l with
  | nil => cases hn
  | cons k l ih =>
    obtain ⟨hk, hl⟩ := List.nodup_cons.1 hl
    by_cases e : k = n
    · subst e
      have hrest : l.filterMap (fun j => if j = k then o else none) = [] :=
        List.filterMap_eq_nil_iff.2 fun j hj => if_neg fun e : j = k => hk (e ▸ hj)
      cases o with
      | none => rw [List.filterMap_cons_none (by simp), hrest]; rfl
      | some b => rw [List.filterMap_cons_some (b := b) (by simp), hrest]; rfl
    · simp only [List.filterMap_cons, if_neg e]
      exact ih hl ((List.mem_cons.1 hn).resolve_left (Ne.symm e))

theorem flatMap_at {l : List α} (hl : l.Nodup) {n : α} (hn : n ∈ l) (m : List β) :
    l.flatMap (fun k => if k = n then m else []) = m := by
  induction l with
  | nil => cases hn
  | cons k l ih =>
    obtain ⟨hk, hl⟩ := List.nodup_cons.1 hl
    rw [List.flatMap_cons]
    by_cases e : k = n
    · subst e
      rw [if_pos rfl, List.flatMap_eq_nil_iff.2 fun j hj => if_neg fun e : j = k => hk (e ▸ hj), List.append_nil]
    · rw [if_neg e, List.nil_append]
      exact ih hl ((List.mem_cons.1 hn).resolve_left (Ne.symm e))

end Picking

section LockTable

/-- R54: of one slot a change of the lock table has one LOCK notice, where its state changes. -/
theorem lockNotices_said (old new : Vector SlotRecord 8) (among : Slot → Bool) (n : Slot) :
    (lockNotices old new among).filterMap (lockSaid n) =
      if among n = true ∧ new[n].code ≠ old[n].code then [new[n]] else [] := by
  have hone : ∀ k : Slot, (if among k && (new[k].code != old[k].code) then some (NoticeBody.lock k new[k]) else none).bind
      (lockSaid n) = if k = n then if among n = true ∧ new[n].code ≠ old[n].code then some new[n] else none else none := by
    intro k
    by_cases e : k = n
    · subst e
      by_cases h : among k = true ∧ new[k].code ≠ old[k].code
      · rw [if_pos (by simpa using h), if_pos rfl, if_pos h]
        simp [lockSaid]
      · rw [if_neg (by simpa using h), if_pos rfl, if_neg h]
        rfl
    · rw [if_neg e]
      split
      · simp [lockSaid, e]
      · rfl
  unfold lockNotices
  rw [List.filterMap_filterMap, funext hone, filterMap_at (List.nodup_finRange 8) (List.mem_finRange n)]
  split <;> rfl

theorem code_strand (r : SlotRecord) : strand r = r ∨ (strand r).code ≠ r.code := by
  cases r <;> simp [strand, SlotRecord.code]

theorem silence_slots (w : Work) (n : Slot) :
    w.silenceEntries.table.slots[n] = strandOf w.table.findsSilent w.table.slots[n] := vmap_get_fin _ _ n

theorem strandOf_owned {lost : Station → Bool} {r : SlotRecord} {k : Station} (h : r.owner = some k) :
    strandOf lost r = if lost k then strand r else r := by
  unfold strandOf
  rw [h]

theorem strandOf_unowned {lost : Station → Bool} {r : SlotRecord} (h : r.owner = none) : strandOf lost r = r := by
  unfold strandOf
  rw [h]

theorem code_strandOf (lost : Station → Bool) (r : SlotRecord) : strandOf lost r = r ∨ (strandOf lost r).code ≠ r.code := by
  cases h : r.owner with
  | none => exact .inl (strandOf_unowned h)
  | some k =>
    rw [strandOf_owned h]
    split
    · exact code_strand r
    · exact .inl rfl

/-- R38, R54: a silence has one LOCK notice of a slot, where its state changes. -/
theorem silenceNotices_said (w : Work) (n : Slot) :
    (silenceNotices w).filterMap (lockSaid n) =
      if w.silenceEntries.table.slots[n].code ≠ w.table.slots[n].code then [w.silenceEntries.table.slots[n]] else [] := by
  have hone : ∀ k : Station,
      (if w.table.findsSilent k then
          lockNotices w.table.slots w.silenceEntries.table.slots (fun n => w.table.slots[n].owner == some k)
            ++ [memberNotice w.silenceEntries.table k]
        else []).filterMap (lockSaid n) =
      if w.table.findsSilent k = true ∧ w.table.slots[n].owner = some k
          ∧ w.silenceEntries.table.slots[n].code ≠ w.table.slots[n].code then
        [w.silenceEntries.table.slots[n]] else [] := by
    intro k
    by_cases hk : w.table.findsSilent k = true
    · rw [if_pos hk, filterMap_append_other _ _ fun y hy => lockSaid_eq_none (by rw [code_single 8 rfl hy]; decide),
        lockNotices_said]
      simp only [hk, beq_iff_eq, true_and]
    · rw [if_neg hk, if_neg fun h => hk h.1]
      rfl
  unfold silenceNotices
  rw [List.filterMap_flatMap, funext hone]
  cases ho : w.table.slots[n].owner with
  | none =>
    rw [if_neg (by rw [silence_slots, strandOf_unowned ho]; simp)]
    exact List.flatMap_eq_nil_iff.2 fun k _ => if_neg (by simp)
  | some j =>
    by_cases hc : w.silenceEntries.table.slots[n].code ≠ w.table.slots[n].code
    · have hj : w.table.findsSilent j = true := by
        by_contra hj
        rw [silence_slots, strandOf_owned ho, if_neg hj] at hc
        exact hc rfl
      have hall : ∀ k : Station, (if w.table.findsSilent k = true ∧ some j = some k
            ∧ w.silenceEntries.table.slots[n].code ≠ w.table.slots[n].code then
          [w.silenceEntries.table.slots[n]] else []) = if k = j then [w.silenceEntries.table.slots[n]] else [] := by
        intro k
        by_cases e : k = j
        · rw [if_pos e, if_pos ⟨e ▸ hj, congrArg some e.symm, hc⟩]
        · rw [if_neg e, if_neg fun h => e (Option.some.inj h.2.1).symm]
      rw [if_pos hc, funext hall]
      exact flatMap_at (List.nodup_finRange 16) (List.mem_finRange j) _
    · rw [if_neg hc]
      exact List.flatMap_eq_nil_iff.2 fun k _ => if_neg fun h => hc h.2.2

/-- A notice of the new record where its state has changed leads from the old record to the new one. -/
theorem Reports.record {r0 old new : SlotRecord} {l : List SlotRecord} (h : Reports r0 l old)
    (hc : new = old ∨ new.code ≠ old.code) : Reports r0 (l ++ if new.code ≠ old.code then [new] else []) new := by
  by_cases hn : new.code ≠ old.code
  · rw [if_pos hn]
    exact h.next fun e => hn (congrArg SlotRecord.code e)
  · rw [if_neg hn, List.append_nil, hc.resolve_right hn]
    exact h

end LockTable

namespace Told

variable {f : Frame} {v w : Work} {x : PhaseValues}

/-- R54: the LOCK notices of a slot. -/
theorem locks (h0 : v.notices = []) (h : Told f v x w) (n : Slot) :
    Reports v.table.slots[n] (w.notices.filterMap (lockSaid n)) w.table.slots[n] := by
  have other : ∀ {l ns : List NoticeBody}, (∀ y ∈ ns, y.code ≠ 5) →
      (l ++ ns).filterMap (lockSaid n) = l.filterMap (lockSaid n) := fun h =>
    filterMap_append_other _ _ fun y hy => lockSaid_eq_none (h y hy)
  induction h with
  | refl =>
    rw [h0]
    exact reports_nil _
  | upd t hw hs ih =>
    rw [show ({ table := t, notices := _ } : Work).table.slots = _ from hs.slots]
    exact ih
  | players ps hw hp ih => exact ih
  | @slots x w g hw hg ih =>
    rw [mapSlots_notices, List.filterMap_append, lockNotices_said, mapSlots_table]
    simp only [vmap_get_fin, true_and]
    exact ih.record (hg n)
  | @silence x w hw ih =>
    rw [silenceEntries_notices, List.filterMap_append, silenceNotices_said]
    refine ih.record ?_
    rw [silence_slots]
    exact code_strandOf _ _
  | modes ms ns hw hm ih => rwa [other fun y hy => by rw [hm.sort y hy]; decide]
  | countdown hw hm ih => rwa [mapModes_notices, other fun y hy => by rw [code_modeNotices hy]; decide]
  | member k ms hw hm ih => rwa [other fun y hy => by rw [code_single 8 rfl hy]; decide]
  | refusal kind sender reason sub argument hw hr ih =>
    rwa [recordRefusal_notices, other fun y hy => by rw [code_single 7 rfl hy]; decide]
  | phase hw hx ih => rwa [show ∀ u : Work, u.notePhase.notices = u.notices ++ [_] from fun _ => rfl,
      other fun y hy => by rw [code_single 2 rfl hy]; decide]
  | fault k summary hw ih => rwa [note_notices, other fun y hy => by rw [code_single 9 rfl hy]; decide]
  | score n hw hf hn ih => rwa [note_notices, other fun y hy => by rw [code_single 3 hn hy]; decide]

end Told

end Sys2Proof.Machine

namespace Sys2Proof.Machine

section Entries

/-- An entry of the mode table of `t` says what `e` says, but for a countdown that no notice is due for (R82, R90). -/
def Unremarked (t : GameTable) (e : ModeEntry) : Prop :=
  ∃ d ∈ t.modes, d.mode = e.mode ∧ d.player = e.player ∧ d.state = e.state ∧ d.progress = e.progress
    ∧ (d.remaining = e.remaining ∨ e.remaining % 10 ≠ 0 ∨ e.remaining = 0)

theorem unremarked_of_mem {t : GameTable} {e : ModeEntry} (h : e ∈ t.modes) : Unremarked t e :=
  ⟨e, h, rfl, rfl, rfl, rfl, .inl rfl⟩

theorem TellsRemoval.of_sameKey {d e : ModeEntry} {y : NoticeBody} (hk : d.sameKey e) (h : TellsRemoval d y) :
    TellsRemoval e y := by
  obtain ⟨report, remaining, progress, sweep, rfl, hr⟩ := h
  exact ⟨report, remaining, progress, sweep, by rw [hk.1, hk.2], hr⟩

/-- R82: what the countdown does to one entry: nothing, its removal, or one tick less, with a notice at each multiple of
10. -/
theorem countdownStep_cases (e : ModeEntry) :
    countdownStep e = .keep e
      ∨ countdownStep e = .remove { e with remaining := e.remaining - 1 } .expired
      ∨ e.state = .running ∧ 0 < e.remaining - 1 ∧ countdownStep e =
          { entry := { e with remaining := e.remaining - 1 }, stays := true
            report := if (e.remaining - 1) % 10 = 0 then some .running else none } := by
  unfold countdownStep
  by_cases h : e.state = .running ∧ 0 < e.remaining
  · rw [if_pos h]
    dsimp only
    split
    · exact .inr (.inl rfl)
    · exact .inr (.inr ⟨h.1, by omega, rfl⟩)
  · rw [if_neg h]
    exact .inl rfl

theorem countdown_removed {w : Work} {e : ModeEntry} (he : e ∈ w.table.modes)
    (hgone : ∀ d ∈ (w.mapModes countdownStep).table.modes, ¬d.sameKey e) :
    ∃ y ∈ modeNotices w.table countdownStep, TellsRemoval e y := by
  have hstay : ∀ d, (countdownStep e).stays = true → (countdownStep e).entry = d → ¬d.sameKey e := fun d hs hd =>
    hgone d (mem_mapModes.2 ⟨e, he, hs, hd⟩)
  rcases countdownStep_cases e with hk | hk | ⟨-, -, hk⟩
  · rw [hk] at hstay
    exact absurd ⟨rfl, rfl⟩ (hstay e rfl rfl)
  · refine ⟨modeNotice w.table { e with remaining := e.remaining - 1 } .expired, ?_, ?_⟩
    · exact mem_modeNotices.2 ⟨e, he, .expired, by rw [hk]; exact ⟨rfl, rfl⟩⟩
    · exact ⟨_, _, _, _, rfl, .inr (.inl rfl)⟩
  · rw [hk] at hstay
    exact absurd ⟨rfl, rfl⟩ (hstay _ rfl rfl)

theorem countdown_told {f : Frame} {w : Work} {e : ModeEntry} (he : e ∈ (w.mapModes countdownStep).table.modes) :
    Unremarked w.table e ∨ ∃ y ∈ modeNotices w.table countdownStep, TellsEntry f w.table e y := by
  obtain ⟨d, hd, hs, rfl⟩ := mem_mapModes.1 he
  rcases countdownStep_cases d with hk | hk | ⟨hrun, hpos, hk⟩
  · rw [hk]
    exact .inl (unremarked_of_mem hd)
  · rw [hk] at hs
    cases hs
  · by_cases h10 : (d.remaining - 1) % 10 = 0
    · rw [if_pos h10] at hk
      refine .inr ⟨modeNotice w.table { d with remaining := d.remaining - 1 } .running, ?_, ?_⟩
      · exact mem_modeNotices.2 ⟨d, hd, .running, by rw [hk]; exact ⟨rfl, rfl⟩⟩
      · rw [hk]
        exact ⟨_, by dsimp only; rw [hrun]; rfl, fun _ => rfl⟩
    · rw [hk]
      exact .inl ⟨d, hd, rfl, rfl, rfl, rfl, .inr (.inl h10)⟩

theorem TellsEntry.congr {f : Frame} {t u : GameTable} {e : ModeEntry} {y : NoticeBody}
    (hp : ∀ p : PlayerIx, u.players[p].sweepQualified = t.players[p].sweepQualified) (h : TellsEntry f t e y) :
    TellsEntry f u e y := by
  obtain ⟨sweep, hy, hs⟩ := h
  exact ⟨sweep, hy, fun hk => (hs hk).trans (hp e.player).symm⟩

end Entries

section Membership

theorem memberNotice_congr {t u : GameTable} {k : Station} (h : u.members[k] = t.members[k]) :
    memberNotice u k = memberNotice t k := by
  unfold memberNotice
  rw [h]

theorem silence_member (w : Work) (k : Station) :
    w.silenceEntries.table.members[k] = w.table.members[k]
      ∨ memberNotice w.silenceEntries.table k ∈ silenceNotices w := by
  by_cases hk : w.table.findsSilent k = true
  · refine .inr (List.mem_flatMap.2 ⟨k, mem_indices k, ?_⟩)
    rw [if_pos hk]
    exact List.mem_append_right _ (List.mem_singleton_self _)
  · exact .inl ((vmap_get_fin _ _ k).trans (if_neg hk))

end Membership

namespace Told

variable {f : Frame} {v w : Work} {x : PhaseValues}

/-- R31, R37: a changed entry has its MEMBER notice. -/
theorem members (h : Told f v x w) (k : Station) :
    w.table.members[k] = v.table.members[k] ∨ memberNotice w.table k ∈ w.notices := by
  induction h with
  | refl => exact .inl rfl
  | @upd x w t hw hs ih =>
    have ht : t.members[k] = w.table.members[k] := by rw [hs.members]
    exact ih.imp (ht.trans ·) fun hm => (memberNotice_congr (u := t) ht).symm ▸ hm
  | players ps hw hp ih => exact ih
  | slots g hw hg ih => exact ih.imp id (List.mem_append_left _)
  | @silence x w hw ih =>
    rcases silence_member w k with hm | hm
    · refine ih.imp (hm.trans ·) fun hn => List.mem_append_left _ ?_
      rw [memberNotice_congr hm]
      exact hn
    · exact .inr (List.mem_append_right _ hm)
  | modes ms ns hw hm ih => exact ih.imp id (List.mem_append_left _)
  | countdown hw hm ih => exact ih.imp id (List.mem_append_left _)
  | @member x w j ms hw hm ih =>
    by_cases hk : k = j
    · exact .inr (List.mem_append_right _ (hk ▸ List.mem_singleton_self _))
    · refine ih.imp ((hm k hk).trans ·) fun hn => List.mem_append_left _ ?_
      rw [memberNotice_congr (t := w.table) (hm k hk)]
      exact hn
  | refusal kind sender reason sub argument hw hr ih => exact ih.imp id (List.mem_append_left _)
  | phase hw hx ih => exact ih.imp id (List.mem_append_left _)
  | fault k summary hw ih => exact ih.imp id (List.mem_append_left _)
  | score n hw hf hn ih => exact ih.imp id (List.mem_append_left _)

/-- R102: no kind but a HIT changes a score. -/
theorem scores (h : Told f v x w) (hf : f.payload.kind ≠ .hit) (p : PlayerIx) :
    w.table.players[p].score = v.table.players[p].score := by
  induction h with
  | refl => rfl
  | upd t hw hs ih => exact (hs.players p).1.trans ih
  | players ps hw hp ih =>
    rcases hp with hp | hp
    · exact absurd hp hf
    · exact (hp.2 p).trans ih
  | slots g hw hg ih => exact ih
  | silence hw ih => exact ih
  | modes ms ns hw hm ih => exact ih
  | countdown hw hm ih => exact ih
  | member k ms hw hm ih => exact ih
  | refusal kind sender reason sub argument hw hr ih => exact ih
  | phase hw hx ih => exact ih
  | fault k summary hw ih => exact ih
  | score n hw hf hn ih => exact ih

/-- R90: an entry that has gone has its MODE notice. -/
theorem removed (h : Told f v x w) {e : ModeEntry} (he : e ∈ v.table.modes)
    (hgone : ∀ d ∈ w.table.modes, ¬d.sameKey e) : ∃ y ∈ w.notices, TellsRemoval e y := by
  have later : ∀ {l ns : List NoticeBody}, (∃ y ∈ l, TellsRemoval e y) → ∃ y ∈ l ++ ns, TellsRemoval e y :=
    fun ⟨y, hy, ht⟩ => ⟨y, List.mem_append_left _ hy, ht⟩
  have step : ∀ {ms after : List ModeEntry} {l ns : List NoticeBody},
      ((∀ d ∈ ms, ¬d.sameKey e) → ∃ y ∈ l, TellsRemoval e y) →
      (∀ d ∈ ms, (∀ c ∈ after, ¬c.sameKey d) → ∃ y ∈ ns, TellsRemoval d y) →
      (∀ d ∈ after, ¬d.sameKey e) → ∃ y ∈ l ++ ns, TellsRemoval e y := by
    intro ms after l ns ih hns hafter
    by_cases hm : ∃ d ∈ ms, d.sameKey e
    · obtain ⟨d, hd, hk⟩ := hm
      obtain ⟨y, hy, ht⟩ := hns d hd fun c hc hck => hafter c hc ⟨hck.1.trans hk.1, hck.2.trans hk.2⟩
      exact ⟨y, List.mem_append_right _ hy, ht.of_sameKey hk⟩
    · exact later (ih fun d hd hk => hm ⟨d, hd, hk⟩)
  induction h with
  | refl => exact absurd ⟨rfl, rfl⟩ (hgone e he)
  | upd t hw hs ih => exact ih fun d hd => hgone d (hs.modes.symm ▸ hd)
  | players ps hw hp ih => exact ih hgone
  | slots g hw hg ih => exact later (ih hgone)
  | silence hw ih => exact later (ih hgone)
  | modes ms ns hw hm ih => exact step ih hm.removed hgone
  | countdown hw hm ih => exact step ih (fun d hd => countdown_removed hd) hgone
  | member k ms hw hm ih => exact later (ih hgone)
  | refusal kind sender reason sub argument hw hr ih => exact later (ih hgone)
  | phase hw hx ih => exact later (ih hgone)
  | fault k summary hw ih => exact later (ih hgone)
  | score n hw hf hn ih => exact later (ih hgone)

/-- R90: an entry that is new or has changed has its MODE notice, with what it has come to. -/
theorem told (h0 : v.notices = []) (h : Told f v x w) {e : ModeEntry} (he : e ∈ w.table.modes) :
    Unremarked v.table e ∨ ∃ y ∈ w.notices, TellsEntry f w.table e y := by
  have later : ∀ {t u : GameTable} {d : ModeEntry} {l ns : List NoticeBody},
      (∀ p : PlayerIx, u.players[p].sweepQualified = t.players[p].sweepQualified) →
      (Unremarked v.table d ∨ ∃ y ∈ l, TellsEntry f t d y) → Unremarked v.table d ∨ ∃ y ∈ l ++ ns, TellsEntry f u d y :=
    fun hp h => h.imp_right fun ⟨y, hy, ht⟩ => ⟨y, List.mem_append_left _ hy, ht.congr hp⟩
  induction h generalizing e with
  | refl => exact .inl (unremarked_of_mem he)
  | @upd x w t hw hs ih =>
    have := ih (hs.modes ▸ he : e ∈ w.table.modes)
    exact this.imp_right fun ⟨y, hy, ht⟩ => ⟨y, hy, ht.congr fun p => (hs.players p).2⟩
  | @players x w ps hw hp ih =>
    refine (ih he).imp_right ?_
    rintro ⟨y, hy, sweep, rfl, hs⟩
    rcases hp with hp | hp
    · exact ⟨_, hy, sweep, rfl, fun hn => absurd hp hn⟩
    · rw [hp.1, h0] at hy
      cases hy
  | slots g hw hg ih => exact later (fun _ => rfl) (ih he)
  | silence hw ih => exact later (fun _ => rfl) (ih he)
  | modes ms ns hw hm ih =>
    rcases hm.told e he with hd | ⟨y, hy, ht⟩
    · exact later (fun _ => rfl) (ih hd)
    · exact .inr ⟨y, List.mem_append_right _ hy, ht.congr fun _ => rfl⟩
  | @countdown x w hw hm ih =>
    rcases countdown_told (f := f) he with ⟨d, hd, hsame⟩ | ⟨y, hy, ht⟩
    · exact .inl ⟨d, hm ▸ hd, hsame⟩
    · exact .inr ⟨y, List.mem_append_right _ hy, ht.congr fun _ => rfl⟩
  | member k ms hw hm ih => exact later (fun _ => rfl) (ih he)
  | refusal kind sender reason sub argument hw hr ih => exact later (fun _ => rfl) (ih he)
  | phase hw hx ih => exact later (fun _ => rfl) (ih he)
  | fault k summary hw ih => exact later (fun _ => rfl) (ih he)
  | score n hw hf hn ih => exact later (fun _ => rfl) (ih he)

/-- R19, R20: the refusal record, by what the REFUSED notices say of it. -/
def RefusalStands (old : Option RefusalRecord) (l : List NoticeBody) (t : GameTable) : Prop :=
  (l.filterMap refusalSaid = [] ∧ t.refusal = old)
    ∨ ∃ kind sender reason sub argument, (l.filterMap refusalSaid).getLast? = some (kind, sender, reason, sub, argument)
      ∧ t.refusal = some
        { kind := kind, sender := sender, reason := reason, sub := sub, ordinal := t.ordinal + 1#32, argument := argument }

theorem RefusalStands.other {old : Option RefusalRecord} {l ns : List NoticeBody} {t u : GameTable}
    (h : RefusalStands old l t) (hr : u.refusal = t.refusal) (ho : u.ordinal = t.ordinal)
    (hns : ∀ y ∈ ns, y.code ≠ 7) : RefusalStands old (l ++ ns) u := by
  unfold RefusalStands
  rw [filterMap_append_other _ _ fun y hy => refusalSaid_eq_none (hns y hy), hr, ho]
  exact h

theorem refusals (h0 : v.notices = []) (h : Told f v x w) : RefusalStands v.table.refusal w.notices w.table := by
  induction h with
  | refl =>
    rw [h0]
    exact .inl ⟨rfl, rfl⟩
  | @upd x w t hw hs ih =>
    have := ih.other (u := t) (ns := []) hs.refusal hs.ordinal nofun
    rwa [List.append_nil] at this
  | players ps hw hp ih => exact ih
  | slots g hw hg ih => exact ih.other rfl rfl fun y hy => by rw [code_lockNotices hy]; decide
  | silence hw ih =>
    exact ih.other rfl rfl fun y hy => by rcases code_silenceNotices hy with e | e <;> rw [e] <;> decide
  | modes ms ns hw hm ih => exact ih.other rfl rfl fun y hy => by rw [hm.sort y hy]; decide
  | countdown hw hm ih => exact ih.other rfl rfl fun y hy => by rw [code_modeNotices hy]; decide
  | member k ms hw hm ih => exact ih.other rfl rfl fun y hy => by rw [code_single 8 rfl hy]; decide
  | @refusal x w kind sender reason sub argument hw hr ih =>
    refine .inr ⟨kind, sender, reason, sub, argument, ?_, rfl⟩
    rw [recordRefusal_notices, List.filterMap_append, List.getLast?_append]
    rfl
  | phase hw hx ih => exact ih.other rfl rfl fun y hy => by rw [code_single 2 rfl hy]; decide
  | fault k summary hw ih => exact ih.other rfl rfl fun y hy => by rw [code_single 9 rfl hy]; decide
  | score n hw hf hn ih => exact ih.other rfl rfl fun y hy => by rw [code_single 3 hn hy]; decide

/-- R19: a JOIN alone is refused more than once. -/
theorem one_refusal (h0 : v.notices = []) (h : Told f v x w) :
    (w.notices.filterMap refusalSaid).length ≤ 1 ∨ f.payload.kind = .join := by
  have other : ∀ {l ns : List NoticeBody}, (∀ y ∈ ns, y.code ≠ 7) →
      ((l.filterMap refusalSaid).length ≤ 1 ∨ f.payload.kind = .join) →
      ((l ++ ns).filterMap refusalSaid).length ≤ 1 ∨ f.payload.kind = .join := fun hns h => by
    rwa [filterMap_append_other _ _ fun y hy => refusalSaid_eq_none (hns y hy)]
  induction h with
  | refl =>
    rw [h0]
    exact .inl (Nat.zero_le _)
  | upd t hw hs ih => exact ih
  | players ps hw hp ih => exact ih
  | slots g hw hg ih => exact other (fun y hy => by rw [code_lockNotices hy]; decide) ih
  | silence hw ih =>
    exact other (fun y hy => by rcases code_silenceNotices hy with e | e <;> rw [e] <;> decide) ih
  | modes ms ns hw hm ih => exact other (fun y hy => by rw [hm.sort y hy]; decide) ih
  | countdown hw hm ih => exact other (fun y hy => by rw [code_modeNotices hy]; decide) ih
  | member k ms hw hm ih => exact other (fun y hy => by rw [code_single 8 rfl hy]; decide) ih
  | refusal kind sender reason sub argument hw hr ih =>
    rcases hr with hr | hr
    · exact .inr hr
    · rw [recordRefusal_notices, hr, h0]
      exact .inl le_rfl
  | phase hw hx ih => exact other (fun y hy => by rw [code_single 2 rfl hy]; decide) ih
  | fault k summary hw ih => exact other (fun y hy => by rw [code_single 9 rfl hy]; decide) ih
  | score n hw hf hn ih => exact other (fun y hy => by rw [code_single 3 hn hy]; decide) ih

end Told

end Sys2Proof.Machine

namespace Sys2Proof.Machine

/-! ### An application that leaves the replica VALID -/

section Undisturbed

variable {s : State} {f : Frame}

theorem lookupBasis_some {ring : List (Word32 × Word16)} {basis known : Word16} (h : lookupBasis ring basis = some known) :
    ∃ e ∈ ring, e.1.truncate 16 = basis ∧ e.2 = known := by
  obtain ⟨e, he, rfl⟩ := Option.map_eq_some_iff.1 h
  exact ⟨e, List.mem_of_find?_eq_some he, by simpa using List.find?_some he, rfl⟩

/-- R22: with no two entries at one basis the lookup finds the entry that stands there. -/
theorem lookupBasis_of_mem {ring : List (Word32 × Word16)} (hn : (ring.map fun e => e.1.truncate 16).Nodup)
    {e : Word32 × Word16} (he : e ∈ ring) : lookupBasis ring (e.1.truncate 16) = some e.2 := by
  cases hf : ring.find? fun d => d.1.truncate 16 == e.1.truncate 16 with
  | none =>
    have := List.find?_eq_none.1 hf e he
    simp at this
  | some d =>
    have hd : d.1.truncate 16 = e.1.truncate 16 := by simpa using List.find?_some hf
    rw [lookupBasis, hf, List.inj_on_of_nodup_map hn (List.mem_of_find?_eq_some hf) he hd]
    rfl

/-- R23: a comparison finds the entry at its basis. -/
theorem comparison_of_compares (hv : s.isValid = true) (hn : (s.eng.history.map fun e => e.1.truncate 16).Nodup)
    {known digest : Word16} (h : Compares s f known digest) : s.comparison f = some (known == digest) := by
  obtain ⟨hs, basis, summary, e, hp, he, rfl, rfl⟩ := h
  rw [comparison_presence hv hp hs, lookupBasis_of_mem hn he]
  rfl

theorem compares_of_comparison {b : Bool} (h : s.comparison f = some b) :
    ∃ known digest, Compares s f known digest ∧ b = (known == digest) := by
  unfold State.comparison at h
  split at h
  · next basis digest summary hp =>
    split at h
    · next hvs =>
      obtain ⟨known, hk, hb⟩ := Option.map_eq_some_iff.1 h
      obtain ⟨e, he, hbasis, hknown⟩ := lookupBasis_some hk
      exact ⟨known, digest, ⟨hvs.2, basis, summary, e, hp, he, hbasis, hknown⟩, hb.symm⟩
    · cases h
  · cases h

/-- R24: the tally stays below its threshold. -/
theorem Undisturbed.not_diverges (h : Undisturbed s f) : s.diverges f = false := by
  unfold State.diverges State.tallyAfter
  cases hc : s.comparison f with
  | none => rfl
  | some b =>
    obtain ⟨known, digest, hcmp, hb⟩ := compares_of_comparison hc
    cases b with
    | true => rfl
    | false =>
      have := h.agrees known digest hcmp (by simpa using hb.symm)
      rw [divergenceThreshold_eq]
      simp
      omega

/-- R3, R24: no loss of validity is taken. -/
theorem Undisturbed.application_eq (h : Undisturbed s f) : s.taken.application f = s.taken.completed f := by
  have hv : s.taken.isValid = true := (taken_isValid s).trans h.next.2
  unfold State.application State.takeLoss
  rw [if_pos (taken_admits h.next.2), taken_diverges, h.not_diverges, if_neg (by decide), completed_eng hv, taken_eng]
  simp [h.noLoss]

theorem Undisturbed.exec_eq (h : Undisturbed s f) : exec (commandOf f) s = .next (s.taken.completed f) := by
  rw [exec_application h.next.1, h.application_eq]

theorem Undisturbed.table_eq (h : Undisturbed s f) :
    (s.taken.completed f).table = (applyFrame s.ctl.station false f s.table).1.table := by
  rw [← h.application_eq]
  exact (game_taken_application h.next.2).table

theorem beginsGame_iff (t : GameTable) : beginsGame false f t = true ↔ f.payload = .start ∧ t.phase = .attract := by
  simp [beginsGame]

/-- R16: the ordinal counts the applications of a game. -/
theorem applyFrame_ordinal (own : Station) (t : GameTable) :
    (applyFrame own false f t).1.table.ordinal =
      if f.payload = .start ∧ t.phase = .attract then 1#32 else t.ordinal + 1#32 := by
  split
  · next hb =>
    rw [applyFrame_begun own hb.1 (.inr hb.2)]
    rfl
  · next hb =>
    show (((kindStage own false f (Work.begin t f)).1.recompute.noteBalls t).countOrdinal).table.ordinal = _
    have h := (Told.recomputed (v := Work.begin t f) own hb).ordinal
    rw [Work.countOrdinal, upd_table, noteBalls_table, h]
    rfl

theorem pushHistory_eq {ring : List (Word32 × Word16)} (h : ring.length ≤ 16) (e : Word32 × Word16) :
    pushHistory ring e = (if ring.length = 16 then ring.drop 1 else ring) ++ [e] := by
  unfold pushHistory
  split
  · next hl => rw [if_neg (Nat.ne_of_lt hl)]
  · next hl => rw [if_pos (Nat.le_antisymm h (Nat.not_lt.1 hl))]

/-- Settles O37, by what the completed application leaves of the Table Engine (`completed_eng`) and the one ordinal that it
counts (`applyFrame_ordinal`). -/
theorem applicationRecorded : Obligations.ApplicationRecorded := by
  unfold Obligations.ApplicationRecorded
  intro s f h hlen begins ring
  have hv : s.taken.isValid = true := (taken_isValid s).trans h.next.2
  have heng := completed_eng (f := f) hv
  have htally : (s.taken.completed f).eng.tally = s.tallyAfter f := by rw [heng, taken_tallyAfter]
  refine ⟨_, h.exec_eq, ?_, ?_, fun known digest hc => ?_, fun hno => ?_, ?_, ?_, ?_⟩
  · rw [h.table_eq, applyFrame_ordinal]
  · have hring : (if beginsGame false f s.table then [] else s.eng.history) = ring := by
      simp only [beginsGame_iff]
      rfl
    have hlr : ring.length ≤ 16 := by
      show (if begins then [] else s.eng.history).length ≤ 16
      split
      · exact Nat.zero_le _
      · exact hlen
    rw [heng, h.table_eq]
    unfold State.historyAfter
    rw [taken_eng, taken_table, taken_ctl]
    dsimp only
    rw [hring, pushHistory_eq hlr]
  · rw [htally]
    unfold State.tallyAfter
    rw [comparison_of_compares h.next.2 h.ring hc]
    by_cases hk : known = digest
    · rw [if_pos hk, beq_iff_eq.2 hk]
    · rw [if_neg hk, beq_eq_false_iff_ne.2 hk]
  · rw [htally]
    unfold State.tallyAfter
    cases hc : s.comparison f with
    | none => rfl
    | some b =>
      obtain ⟨known, digest, hcmp, -⟩ := compares_of_comparison hc
      exact absurd hcmp (hno known digest)
  · unfold State.isValid at hv ⊢
    rw [heng]
    exact hv
  · rw [heng, taken_eng]
  · rw [completed_bus hv, taken_bus]

end Undisturbed

end Sys2Proof.Machine

namespace Sys2Proof.Machine

/-! ### The notices of an application in the FIFO -/

/-- From `s` to `t` the notices `bs` have been handed over and have joined the FIFO, where it has room for all. -/
structure Joins (s t : State) (bs : List NoticeBody) : Prop where
  ordinal : t.table.ordinal = s.table.ordinal
  enabled : t.rpt.enabled = s.rpt.enabled
  grows   : QueuesBehind s t
  fifo    : s.rpt.enabled = true → t.rpt.fifo.length < 32 → ∃ ms, t.rpt.fifo = s.rpt.fifo ++ ms
    ∧ ms.map Notice.body = bs ∧ ∀ m ∈ ms, m.ordinal = s.table.ordinal.truncate 16

namespace Joins

variable {s t u : State} {bs cs : List NoticeBody}

theorem of_rpt (hr : t.rpt = s.rpt) (ho : t.table.ordinal = s.table.ordinal) : Joins s t [] :=
  ⟨ho, by rw [hr], by rw [QueuesBehind, hr], fun _ _ => ⟨[], by rw [hr, List.append_nil], rfl, nofun⟩⟩

theorem trans (h : Joins s t bs) (g : Joins t u cs) : Joins s u (bs ++ cs) := by
  refine ⟨g.ordinal.trans h.ordinal, g.enabled.trans h.enabled, h.grows.trans g.grows, fun he hl => ?_⟩
  obtain ⟨ms, hms, hb, ho⟩ := h.fifo he (g.grows.length_le.trans_lt hl)
  obtain ⟨ns, hns, hc, ho'⟩ := g.fifo (h.enabled.trans he) hl
  refine ⟨ms ++ ns, by rw [hns, hms, List.append_assoc], by rw [List.map_append, hb, hc], fun m hm => ?_⟩
  rcases List.mem_append.1 hm with hm | hm
  · exact ho m hm
  · rw [← h.ordinal]
    exact ho' m hm

theorem notify (s : State) (b : NoticeBody) : Joins s (s.notify b) [b] := by
  refine ⟨rfl, create_enabled _ _ _, queues_notify s b, fun he hl => ?_⟩
  have hs : s.rpt.fifo.length < 32 := (queues_notify s b).length_le.trans_lt hl
  rw [notify_fifo he hs]
  exact ⟨_, rfl, rfl, fun m hm => by rw [List.mem_singleton.1 hm]⟩

theorem notifyAll (l : List NoticeBody) : ∀ s : State, Joins s (s.notifyAll l) l := by
  induction l with
  | nil => exact fun s => of_rpt rfl rfl
  | cons b l ih => exact fun s => (notify s b).trans (ih (s.notify b))

end Joins

/-- A notice of the neighbouring blocks: CLAIM_LOST or FAULT. -/
def OfBlocks (x : NoticeBody) : Prop :=
  (∃ kind argument origin cause, x = .claimLost kind argument origin cause) ∨ ∃ k v, x = .fault k v

theorem OfBlocks.code {x : NoticeBody} (h : OfBlocks x) : x.code = 10 ∨ x.code = 9 := by
  rcases h with ⟨_, _, _, _, rfl⟩ | ⟨_, _, rfl⟩
  · exact .inl rfl
  · exact .inr rfl

section BlockNotices

variable {s t : State}

theorem joins_quiet (hr : t.rpt = s.rpt) (ho : t.table.ordinal = s.table.ordinal) :
    ∃ bs, Joins s t bs ∧ ∀ b ∈ bs, OfBlocks b := ⟨[], .of_rpt hr ho, fun _ h => absurd h List.not_mem_nil⟩

theorem joins_putFaults (s : State) (x : Byte) : ∃ bs, Joins s (s.putFaults x) bs ∧ ∀ b ∈ bs, OfBlocks b := by
  unfold State.putFaults
  split
  · exact joins_quiet rfl rfl
  · have h0 : Joins s (s.setCtl { s.ctl with faults := x }) [] := .of_rpt rfl rfl
    exact ⟨_, h0.trans (.notify _ _), fun b hb => .inr ⟨_, _, List.mem_singleton.1 hb⟩⟩

theorem joins_setFault (s : State) (f : StationFault) : ∃ bs, Joins s (s.setFault f) bs ∧ ∀ b ∈ bs, OfBlocks b :=
  joins_putFaults s _

theorem joins_clearFault (s : State) (f : StationFault) : ∃ bs, Joins s (s.clearFault f) bs ∧ ∀ b ∈ bs, OfBlocks b :=
  joins_putFaults s _

theorem joins_claimLost (s : State) (p : Payload) (o : Origin) (c : LostCause) :
    ∃ bs, Joins s (s.claimLost p o c) bs ∧ ∀ b ∈ bs, OfBlocks b :=
  ⟨_, Joins.notify s _, fun _ hb => .inl ⟨_, _, _, _, List.mem_singleton.1 hb⟩⟩

/-- R18: the neighbouring blocks' notices. -/
theorem Tends.joins (h : Tends s t) : ∃ bs, Joins s t bs ∧ ∀ b ∈ bs, OfBlocks b := by
  have step : ∀ {t u : State}, (∃ bs, Joins s t bs ∧ ∀ b ∈ bs, OfBlocks b) → (∃ bs, Joins t u bs ∧ ∀ b ∈ bs, OfBlocks b) →
      ∃ bs, Joins s u bs ∧ ∀ b ∈ bs, OfBlocks b := fun ⟨bs, h, hb⟩ ⟨cs, g, hc⟩ =>
    ⟨bs ++ cs, h.trans g, fun b hm => (List.mem_append.1 hm).elim (hb b) (hc b)⟩
  induction h with
  | refl => exact ⟨[], .of_rpt rfl rfl, nofun⟩
  | claim x _ ih => exact step ih (joins_quiet (State.setClaim_rpt _ x) rfl)
  | drv x _ ih => exact step ih (joins_quiet (State.setDrv_rpt _ x) rfl)
  | lamp x _ ih => exact step ih (joins_quiet (State.setLamp_rpt _ x) rfl)
  | lost p o c _ ih => exact step ih (joins_claimLost _ p o c)
  | driveOn _ ih => exact step ih (joins_setFault _ _)
  | driveOff _ ih => exact step ih (joins_clearFault _ _)

/-- R18: an application's notices in the FIFO: the Table Engine's, then the neighbouring blocks'. -/
theorem Undisturbed.joins {f : Frame} (h : Undisturbed s f) (he : s.rpt.enabled = true)
    (hl : (s.taken.completed f).rpt.fifo.length < 32) :
    ∃ bs, (∀ b ∈ bs, OfBlocks b)
      ∧ ((s.taken.completed f).rpt.fifo.drop s.rpt.fifo.length).map Notice.body =
          (applyFrame s.ctl.station false f s.table).1.notices ++ bs
      ∧ ∀ m ∈ (s.taken.completed f).rpt.fifo.drop s.rpt.fifo.length,
          m.ordinal = (s.taken.completed f).table.ordinal.truncate 16 := by
  have hv : s.taken.isValid = true := (taken_isValid s).trans h.next.2
  have h1 := Joins.notifyAll (applyFrame s.ctl.station false f s.table).1.notices (s.taken.afterStages f)
  have hst : s.taken.staged f = (s.taken.afterStages f).notifyAll (applyFrame s.ctl.station false f s.table).1.notices := by
    unfold State.staged
    rw [taken_ctl, taken_syncStart, syncStart_valid h.next.2, taken_table]
  rw [← hst] at h1
  obtain ⟨bs, h2, hbs⟩ := (tends_handOff (s.taken.staged f) f (applyFrame s.taken.ctl.station false f s.taken.table).2
    (beginsGame false f s.taken.table) s.taken.table).joins
  have h3 := h1.trans ((Joins.of_rpt (moveStation_rpt _ _) (by rw [(game_moveStation _ _).table])).trans h2)
  rw [← completed_valid hv] at h3
  have hr : (s.taken.afterStages f).rpt = s.rpt := taken_rpt s
  obtain ⟨ms, hms, hb, ho⟩ := h3.fifo (by rw [hr]; exact he) hl
  rw [hms, hr, List.drop_left, h3.ordinal]
  exact ⟨bs, hbs, hb, ho⟩

end BlockNotices

/-! ### The work of an application, whole -/

section WholeWork

variable {f : Frame} (own : Station) (t : GameTable)

/-- R15, stages 2 to 4: the work behind the recomputation. -/
def workOf (own : Station) (f : Frame) (t : GameTable) : Work := (kindStage own false f (Work.begin t f)).1.recompute

theorem applyFrame_work :
    (applyFrame own false f t).1.table =
      { (workOf own f t).table with ordinal := (workOf own f t).table.ordinal + 1#32 } := by
  show ((Work.noteBalls (workOf own f t) t).countOrdinal).table = _
  rw [Work.countOrdinal, upd_table, noteBalls_table]

/-- R51: what a BALLS notice says of a table. -/
def ballsNoticeOf (t : GameTable) : NoticeBody :=
  .balls t.inPlay t.returning t.servePending t.occupiedSlots t.multiball t.saveWindow

/-- R51: the BALLS notice that an application is due. -/
def ballsDue (w : Work) (t : GameTable) : List NoticeBody :=
  if w.table.ballsKey = t.ballsKey ∧ t.stopsSaveWindow w.table = false then [] else [ballsNoticeOf w.table]

theorem applyFrame_notices :
    (applyFrame own false f t).1.notices = (workOf own f t).notices ++ ballsDue (workOf own f t) t := by
  show (Work.noteBalls (workOf own f t) t).notices = _
  unfold Work.noteBalls ballsDue
  split
  · rw [List.append_nil]
  · rfl

theorem workOf_told (hb : ¬(f.payload = .start ∧ t.phase = .attract)) : Settled f (Work.begin t f) (workOf own f t) :=
  Told.recomputed own hb

theorem lockNotices_nil (v : Vector SlotRecord 8) (among : Slot → Bool) : lockNotices v v among = [] :=
  List.filterMap_eq_nil_iff.2 fun n _ => if_neg (by simp)

theorem completionCheck_of_ne {w : Work} (h : w.table.phase ≠ .ballEnd) : w.completionCheck = w := if_neg fun hc => h hc.1

/-- R29: a new game has its START and its PHASE notice alone. -/
theorem workOf_begins (hp : f.payload = .start) (ha : t.phase = .attract) :
    (workOf own f t).notices = [.start f.sender, .phase .rollcall 1 0 1 false 0]
      ∧ (workOf own f t).table.modes = [] ∧ ∀ k : Station, (workOf own f t).table.holds[k] = none := by
  have hk : (kindStage own false f (Work.begin t f)).1 = (Work.begin t f).newGame f.sender := by
    unfold kindStage
    rw [gated_newGame own hp (.inr ha)]
    exact completionCheck_of_ne (w := (Work.begin t f).newGame f.sender) nofun
  unfold workOf
  rw [hk]
  refine ⟨?_, rfl, fun k => Vector.getElem_replicate _⟩
  show ((Work.begin t f).newGame f.sender).notices
    ++ lockNotices (t.heard f.sender).newGame.slots (vmap (fun _ r => light _ r) (t.heard f.sender).newGame.slots) _ ++ [] = _
  rw [light_absent _ _ (newGame_slots _), lockNotices_nil]
  rfl

end WholeWork

end Sys2Proof.Machine

namespace Sys2Proof.Machine

/-! ### The SCORE notice of a HIT (R103) -/

theorem Told.filter_score {f : Frame} {v w : Work} {x : PhaseValues} {g : NoticeBody → Bool}
    (hg : ∀ y, y.code ≠ 3 → g y = false) (hf : f.payload.kind ≠ .hit) (h : Told f v x w) :
    w.notices.filter g = v.notices.filter g := by
  have other : ∀ {l ns : List NoticeBody}, (∀ y ∈ ns, y.code ≠ 3) → (l ++ ns).filter g = l.filter g := fun {l ns} hns => by
    have hnil : ns.filter g = [] := List.filter_eq_nil_iff.2 fun y hy => by rw [hg y (hns y hy)]; decide
    rw [List.filter_append, hnil, List.append_nil]
  induction h with
  | refl => rfl
  | upd t hw hs ih => exact ih
  | players ps hw hp ih => exact ih
  | slots k hw hk ih => rwa [mapSlots_notices, other fun y hy => by rw [code_lockNotices hy]; decide]
  | silence hw ih =>
    rwa [silenceEntries_notices, other fun y hy => by rcases code_silenceNotices hy with e | e <;> rw [e] <;> decide]
  | modes ms ns hw hm ih => rwa [other fun y hy => by rw [hm.sort y hy]; decide]
  | countdown hw hm ih => rwa [mapModes_notices, other fun y hy => by rw [code_modeNotices hy]; decide]
  | member k ms hw hm ih => rwa [other fun y hy => by rw [code_single 8 rfl hy]; decide]
  | refusal kind sender reason sub argument hw hr ih =>
    rwa [recordRefusal_notices, other fun y hy => by rw [code_single 7 rfl hy]; decide]
  | phase hw hx ih => rwa [show ∀ u : Work, u.notePhase.notices = u.notices ++ [_] from fun _ => rfl,
      other fun y hy => by rw [code_single 2 rfl hy]; decide]
  | fault k summary hw ih => rwa [note_notices, other fun y hy => by rw [code_single 9 rfl hy]; decide]
  | score n hw hk hn ih => exact absurd hk hf

section Hit

variable (w : Work)

/-- What the first four stages of a HIT make of a work: players' records, the mode table and the jackpot, with MODE
notices. -/
def StruckTo (w u : Work) : Prop :=
  ∃ ps ms j ns, u = { table := { w.table with players := ps, modes := ms, jackpot := j }, notices := w.notices ++ ns }
    ∧ ∀ y ∈ ns, y.code = 6

theorem StruckTo.players {w u : Work} (h : StruckTo w u) (g : Player → Player) : StruckTo w (u.updPlayer g) := by
  obtain ⟨ps, ms, j, ns, rfl, hc⟩ := h
  exact ⟨_, ms, j, ns, rfl, hc⟩

theorem StruckTo.jackpot {w u : Work} (h : StruckTo w u) (g : GameTable → Nat) :
    StruckTo w (u.upd fun t => { t with jackpot := g t }) := by
  obtain ⟨ps, ms, j, ns, rfl, hc⟩ := h
  exact ⟨ps, ms, _, ns, rfl, hc⟩

theorem struckTo_self : StruckTo w w := ⟨w.table.players, w.table.modes, w.table.jackpot, [], by simp, nofun⟩

theorem StruckTo.goals {w u : Work} (h : StruckTo w u) (m : Nat) (tag : Byte) :
    StruckTo w (goalHits m tag [] u.table.modes u) := by
  obtain ⟨ps', ms', ns', he, ht⟩ := goalHits_eq m tag u.table.modes [] u
  obtain ⟨ps, ms, j, ns, rfl, hc⟩ := h
  refine ⟨ps', ms', j, ns ++ ns', he.trans (by rw [List.append_assoc]; rfl), fun y hy => ?_⟩
  exact (List.mem_append.1 hy).elim (hc y) (ht.sort y)

theorem lightLock_struck {w u : Work} (h : StruckTo w u) (flags : Byte) : StruckTo w (u.lightLock flags) := by
  unfold Work.lightLock
  split
  · exact h.players _
  · exact h

theorem jackpotStage_struck {w u : Work} (h : StruckTo w u) (m : Nat) (flags : Byte) :
    StruckTo w (u.jackpotStage m flags) := by
  unfold Work.jackpotStage
  split
  · exact (h.players _).jackpot fun t => min Config.jackpotMax (t.jackpot + t.profile.jackpotStep)
  · exact h

theorem lightLock_jackpot (u : Work) (flags : Byte) :
    (u.lightLock flags).table.jackpot = u.table.jackpot ∧ (u.lightLock flags).table.multiball = u.table.multiball := by
  unfold Work.lightLock
  split <;> exact ⟨rfl, rfl⟩

theorem goalHits_jackpot (m : Nat) (tag : Byte) (l : List ModeEntry) (u : Work) :
    (goalHits m tag [] l u).table.jackpot = u.table.jackpot
      ∧ (goalHits m tag [] l u).table.multiball = u.table.multiball := by
  obtain ⟨ps, ms, ns, he, -⟩ := goalHits_eq m tag l [] u
  rw [he]
  exact ⟨rfl, rfl⟩

/-- R103: the SCORE notice of a HIT, over the work `u` that its stages leave. -/
def scoreNotice (w u : Work) (sender : Station) (sw : Switch) (tag flags : Byte) : NoticeBody :=
  .score w.table.currentPlayer (u.table.players[w.table.currentPlayer]).score
    ((u.table.players[w.table.currentPlayer]).score - (w.table.players[w.table.currentPlayer]).score)
    (w.table.multiplierOf w.table.modes)
    (if flags.getLsbD 1 = true ∧ w.table.multiball = true then w.table.jackpot * w.table.multiplierOf w.table.modes else 0)
    u.table.jackpot sender sw tag

/-- R100, R103: the award that the SCORE notice says is that of the jackpot as stage 5 finds it. -/
theorem scoreNotice_eq {w u w3 : Work} (hu : StruckTo w u) (hj : w3.table.jackpot = w.table.jackpot)
    (hm : w3.table.multiball = w.table.multiball) (sender : Station) (sw : Switch) (tag flags : Byte) :
    NoticeBody.score u.table.currentPlayer u.table.current.score (u.table.current.score - w.table.current.score)
        (w.table.multiplierOf w.table.modes)
        (if w3.table.collectsJackpot flags then w3.table.jackpot * w.table.multiplierOf w.table.modes else 0)
        u.table.jackpot sender sw tag = scoreNotice w u sender sw tag flags := by
  obtain ⟨ps, ms, j, ns, rfl, -⟩ := hu
  unfold GameTable.collectsJackpot scoreNotice GameTable.current
  rw [hj, hm]
  simp only [Bool.and_eq_true]

/-- R95, R103: an applied HIT: its stages, and the SCORE notice of a changed score. -/
theorem hitEffects_struck (sender : Station) (sw : Switch) (base : BitVec 24) (tag flags : Byte) :
    ∃ u, StruckTo w u ∧ w.hitEffects sender sw base tag flags =
      if u.table.current.score = w.table.current.score then u else u.note (scoreNotice w u sender sw tag flags) := by
  obtain ⟨m, hm⟩ : ∃ m, m = w.table.multiplierOf w.table.modes := ⟨_, rfl⟩
  obtain ⟨u, hu⟩ : ∃ u, u = w.award (base.toNat * m) := ⟨_, rfl⟩
  have h1 : StruckTo w u := hu ▸ (struckTo_self w).players (Player.award (base.toNat * m))
  have hu1 : u.table.jackpot = w.table.jackpot ∧ u.table.multiball = w.table.multiball := hu ▸ ⟨rfl, rfl⟩
  have hg := goalHits_jackpot m tag u.table.modes u
  have hl := lightLock_jackpot (goalHits m tag [] u.table.modes u) flags
  have h4 := jackpotStage_struck (lightLock_struck (h1.goals m tag) flags) m flags
  refine ⟨_, h4, ?_⟩
  rw [← scoreNotice_eq h4 (hl.1.trans (hg.1.trans hu1.1)) (hl.2.trans (hg.2.trans hu1.2)), ← hm]
  unfold Work.hitEffects
  dsimp only
  rw [← hm, ← hu]

end Hit

end Sys2Proof.Machine

namespace Sys2Proof.Machine

/-! ### The sorts of notices of an application, whole -/

section HitWork

variable {f : Frame}

/-- R94: a HIT is refused, or in PLAY has its effects. -/
theorem gated_hit {own : Station} {w : Work} {sw : Switch} {base : BitVec 24} {tag flags : Byte}
    (hp : f.payload = .hit sw base tag flags) :
    (∃ r, (gatedStage own false f w).1 = (w.refuse f r).1)
      ∨ w.table.phase = .play ∧ (gatedStage own false f w).1 = w.hitEffects f.sender sw base tag flags := by
  unfold gatedStage kindChecks
  rw [hp]
  dsimp only
  split
  · exact .inl ⟨_, rfl⟩
  · unfold hitStage
    split
    · exact .inl ⟨_, rfl⟩
    · next hph =>
      split
      · exact .inl ⟨_, rfl⟩
      · exact .inr ⟨not_not.1 hph, rfl⟩

/-- Stages behind a kind's effects give no SCORE notice and change no score. -/
theorem unscored_behind (u : Work) {g : NoticeBody → Bool} (hg : ∀ y, y.code ≠ 3 → g y = false) :
    u.completionCheck.recompute.notices.filter g = u.notices.filter g
      ∧ ∀ p : PlayerIx, u.completionCheck.recompute.table.players[p].score = u.table.players[p].score := by
  have h : Settled ⟨0, .tilt⟩ u u.completionCheck.recompute := Told.recompute (Told.completionCheck .refl)
  exact ⟨h.filter_score hg (by decide), h.scores (by decide)⟩

/-- R17: a kind stage in PLAY leaves the jackpot to its effects. -/
theorem jackpot_behind {u : Work} (h : u.table.phase = .play) :
    u.completionCheck.recompute.table.jackpot = u.table.jackpot := by
  rw [completionCheck_of_ne (by rw [h]; decide), recompute_table]

theorem scoreNotice_congr {w u x : Work} (hs : ∀ p : PlayerIx, x.table.players[p].score = u.table.players[p].score)
    (hj : x.table.jackpot = u.table.jackpot) (sender : Station) (sw : Switch) (tag flags : Byte) :
    scoreNotice w x sender sw tag flags = scoreNotice w u sender sw tag flags := by
  unfold scoreNotice
  rw [hs, hj]

/-- R103: the SCORE notice of a HIT. -/
theorem workOf_score {own : Station} {t : GameTable} {sw : Switch} {base : BitVec 24} {tag flags : Byte}
    (hp : f.payload = .hit sw base tag flags) {g : NoticeBody → Bool} (hg : ∀ y, y.code ≠ 3 → g y = false)
    (hs : ∀ y, y.code = 3 → g y = true) :
    (workOf own f t).notices.filter g =
      if (workOf own f t).table.players[t.currentPlayer].score = t.players[t.currentPlayer].score then []
      else [scoreNotice (Work.begin t f) (workOf own f t) f.sender sw tag flags] := by
  obtain ⟨hn, hsc⟩ := unscored_behind (gatedStage own false f (Work.begin t f)).1 hg
  change (workOf own f t).notices.filter g = _ at hn
  change ∀ p : PlayerIx, (workOf own f t).table.players[p].score = _ at hsc
  rw [hn, hsc]
  rcases gated_hit (own := own) (w := Work.begin t f) hp with ⟨r, hr⟩ | ⟨hph, hr⟩
  · rw [hr]
    refine (List.filter_cons_of_neg ?_).trans (if_pos rfl).symm
    rw [hg _ (by rw [show NoticeBody.code (.refused _ _ _ _ _) = 7 from rfl]; decide)]
    decide
  · obtain ⟨u, hu, he⟩ := hitEffects_struck (Work.begin t f) f.sender sw base tag flags
    have hx : (gatedStage own false f (Work.begin t f)).1.table = u.table := by
      rw [hr, he]
      split <;> rfl
    have huphase : u.table.phase = .play ∧ u.table.current = u.table.players[t.currentPlayer] ∧ u.notices.filter g = [] := by
      obtain ⟨ps, ms, j, ns, rfl, hc⟩ := hu
      exact ⟨hph, rfl, List.filter_eq_nil_iff.2 fun y hy => by rw [hg y (by rw [hc y hy]; decide)]; decide⟩
    obtain ⟨hplay, hcur, hnone⟩ := huphase
    have hj : (workOf own f t).table.jackpot = u.table.jackpot := by
      rw [← hx]
      exact jackpot_behind (hx ▸ hplay)
    have hsu : ∀ p : PlayerIx, (workOf own f t).table.players[p].score = u.table.players[p].score := fun p => by
      rw [hsc, hx]
    rw [scoreNotice_congr hsu hj, hx, hr, he]
    rw [hcur, show (Work.begin t f).table.current = t.players[t.currentPlayer] from rfl]
    by_cases h : u.table.players[t.currentPlayer].score = t.players[t.currentPlayer].score
    · rw [if_pos h, if_pos h]
      exact hnone
    · rw [if_neg h, if_neg h, note_notices, List.filter_append, hnone, List.nil_append]
      exact List.filter_cons_of_pos (hs _ rfl)

/-- R103: no other kind has a SCORE notice. -/
theorem workOf_unscored {own : Station} {t : GameTable} (hf : f.payload.kind ≠ .hit) :
    ∀ y ∈ (workOf own f t).notices, y.code ≠ 4 ∧ y.code ≠ 3 := by
  by_cases hb : f.payload = .start ∧ t.phase = .attract
  · rw [(workOf_begins own t hb.1 hb.2).1]
    intro y hy
    rcases List.mem_cons.1 hy with rfl | hy
    · exact ⟨nofun, nofun⟩
    · rw [code_single 2 rfl hy]
      decide
  · exact fun y hy => ((workOf_told own t hb).sorts rfl y hy).imp_right fun h e => hf (h e)

theorem workOf_unballed {own : Station} {t : GameTable} : ∀ y ∈ (workOf own f t).notices, y.code ≠ 4 := by
  by_cases hf : f.payload.kind = .hit
  · have hb : ¬(f.payload = .start ∧ t.phase = .attract) := fun h => by
      rw [h.1] at hf
      cases hf
    exact fun y hy => ((workOf_told own t hb).sorts rfl y hy).1
  · exact fun y hy => (workOf_unscored hf y hy).1

end HitWork

/-! ### The BALLS notice -/

section Balls

variable {f : Frame} {own : Station} {t : GameTable}

theorem holdsEmpty_iff (t : GameTable) : t.holdsEmpty = true ↔ ∀ k : Station, t.holds[k] = none := by
  unfold GameTable.holdsEmpty
  rw [Vector.all_toList, Vector.all_eq_true]
  simp only [Option.isNone_iff_eq_none]
  exact ⟨fun h k => h k.val k.isLt, fun h i hi => h ⟨i, hi⟩⟩

/-- R70, R78: a HOLD set that finds the hold set empty is what adds to it. -/
theorem held_iff (hempty : ∀ k : Station, t.holds[k] = none) :
    (workOf own f t).table.holdsEmpty = false ↔ f.payload.kind = .hold ∧ (workOf own f t).table.holds[f.sender] ≠ none := by
  rw [← Bool.not_eq_true, holdsEmpty_iff, not_forall]
  constructor
  · rintro ⟨k, hk⟩
    by_cases hb : f.payload = .start ∧ t.phase = .attract
    · exact absurd ((workOf_begins own t hb.1 hb.2).2.2 k) hk
    · rcases (workOf_told own t hb).holds k hk with h | ⟨hf, rfl⟩
      · exact absurd (hempty k) h
      · exact ⟨hf, hk⟩
  · exact fun h => ⟨f.sender, h.2⟩

/-- R78: the save window stops counting. -/
theorem halts_iff (hsave : 0 < (workOf own f t).table.saveWindow ↔ 0 < t.saveWindow) :
    t.stopsSaveWindow (workOf own f t).table = true ↔
      f.payload.kind = .hold ∧ (∀ k : Station, t.holds[k] = none) ∧ (workOf own f t).table.holds[f.sender] ≠ none
        ∧ 0 < t.saveWindow := by
  rw [stopsSaveWindow_iff, holdsEmpty_iff, hsave]
  constructor
  · rintro ⟨he, hh, hw⟩
    obtain ⟨hf, hs⟩ := (held_iff he).1 hh
    exact ⟨hf, he, hs, hw⟩
  · rintro ⟨hf, he, hs, hw⟩
    exact ⟨he, (held_iff he).2 ⟨hf, hs⟩, hw⟩

/-- R51, R78: when the BALLS notice is due. -/
def BallsAreDue (own : Station) (f : Frame) (t : GameTable) : Prop :=
  (workOf own f t).table.ballsKey ≠ t.ballsKey
    ∨ f.payload.kind = .hold ∧ (∀ k : Station, t.holds[k] = none) ∧ (workOf own f t).table.holds[f.sender] ≠ none
      ∧ 0 < t.saveWindow

theorem ballsAreDue_iff :
    BallsAreDue own f t ↔
      ¬((workOf own f t).table.ballsKey = t.ballsKey ∧ t.stopsSaveWindow (workOf own f t).table = false) := by
  unfold BallsAreDue
  by_cases hk : (workOf own f t).table.ballsKey = t.ballsKey
  · have hsave : 0 < (workOf own f t).table.saveWindow ↔ 0 < t.saveWindow := by
      have := congrArg (fun y : Nat × Nat × Nat × Nat × Bool × Bool => y.2.2.2.2.2) hk
      simpa [GameTable.ballsKey] using this
    rw [← halts_iff hsave]
    simp [hk]
  · simp [hk]

theorem ballsDue_of_due (h : BallsAreDue own f t) :
    ballsDue (workOf own f t) t = [ballsNoticeOf (workOf own f t).table] :=
  if_neg (ballsAreDue_iff.1 h)

theorem ballsDue_of_not_due (h : ¬BallsAreDue own f t) : ballsDue (workOf own f t) t = [] :=
  if_pos (not_not.1 (mt ballsAreDue_iff.2 h))

theorem code_ballsDue (w : Work) : ∀ y ∈ ballsDue w t, y.code = 4 := by
  unfold ballsDue
  split
  · exact nofun
  · exact fun y hy => code_single 4 rfl hy

end Balls

end Sys2Proof.Machine

namespace Sys2Proof.Machine

/-! ### The notices of an application (R182) -/

section WholeNotices

variable {s : State} {f : Frame} {own : Station} {t : GameTable}

/-- What one sort says among all the notices of an application: what it says among those of the work. -/
theorem said_of_work {α : Type} {g : NoticeBody → Option α} (w : Work) {bs : List NoticeBody} (hbs : ∀ b ∈ bs, OfBlocks b)
    (hg : ∀ y, y.code = 4 ∨ y.code = 9 ∨ y.code = 10 → g y = none) :
    (w.notices ++ ballsDue w t ++ bs).filterMap g = w.notices.filterMap g := by
  rw [filterMap_append_other g _ fun y hy => hg y (.inr ((hbs y hy).code.symm)),
    filterMap_append_other g _ fun y hy => hg y (.inl (code_ballsDue w y hy))]

theorem mem_of_work {w : Work} {bs : List NoticeBody} {y : NoticeBody} (h : y ∈ w.notices) :
    y ∈ w.notices ++ ballsDue w t ++ bs := List.mem_append_left _ (List.mem_append_left _ h)

theorem filter_none {g : NoticeBody → Bool} {l : List NoticeBody} (h : ∀ y ∈ l, g y = false) : l.filter g = [] :=
  List.filter_eq_nil_iff.2 fun y hy => by rw [h y hy]; decide

/-- R51: the BALLS notices of an application. -/
theorem filter_balls {g : NoticeBody → Bool} (hg : ∀ y, g y = true ↔ y.code = 4) {bs : List NoticeBody}
    (hbs : ∀ b ∈ bs, OfBlocks b) :
    ((workOf own f t).notices ++ ballsDue (workOf own f t) t ++ bs).filter g = ballsDue (workOf own f t) t := by
  have hno : ∀ {y : NoticeBody}, y.code ≠ 4 → g y = false := fun h => by
    rw [← Bool.not_eq_true, hg]
    exact h
  rw [List.filter_append, List.filter_append, filter_none fun y hy => hno (workOf_unballed y hy),
    filter_none (l := bs) fun y hy => hno (by rcases (hbs y hy).code with e | e <;> rw [e] <;> decide), List.append_nil,
    List.nil_append]
  exact List.filter_eq_self.2 fun y hy => (hg y).2 (code_ballsDue _ y hy)

/-- R103: the SCORE notices of an application. -/
theorem filter_scores {g : NoticeBody → Bool} (hg : ∀ y, y.code ≠ 3 → g y = false) (w : Work) {bs : List NoticeBody}
    (hbs : ∀ b ∈ bs, OfBlocks b) : (w.notices ++ ballsDue w t ++ bs).filter g = w.notices.filter g := by
  rw [List.filter_append, List.filter_append,
    filter_none (l := bs) fun y hy => hg y (by rcases (hbs y hy).code with e | e <;> rw [e] <;> decide),
    filter_none (l := ballsDue w t) fun y hy => hg y (by rw [code_ballsDue w y hy]; decide), List.append_nil, List.append_nil]

/-- R51: behind the BALLS notice come those of the neighbouring blocks alone. -/
theorem behind_balls {l bs : List NoticeBody} {n : NoticeBody} (hl : n ∉ l) :
    ((l ++ [n] ++ bs).dropWhile fun y => y != n).drop 1 = bs := by
  rw [List.append_assoc, List.dropWhile_append_of_pos fun y hy => by
    rw [bne_iff_ne]
    rintro rfl
    exact hl hy]
  simp

/-- The table that an application's work leaves, its ordinal counted. -/
def LeftBy (own : Station) (f : Frame) (t a : GameTable) : Prop :=
  a = { (workOf own f t).table with ordinal := (workOf own f t).table.ordinal + 1#32 }

/-- The notices of an application: those of its work, the BALLS notice, and the neighbouring blocks'. -/
def noticesOf (own : Station) (f : Frame) (t : GameTable) (bs : List NoticeBody) : List NoticeBody :=
  (workOf own f t).notices ++ ballsDue (workOf own f t) t ++ bs

variable {a : GameTable} {bs : List NoticeBody}

theorem due_iff (ha : LeftBy own f t a) :
    (a.ballsKey ≠ t.ballsKey
      ∨ f.payload.kind = .hold ∧ (∀ k : Station, t.holds[k] = none) ∧ a.holds[f.sender] ≠ none ∧ 0 < t.saveWindow) ↔
      BallsAreDue own f t := by
  rw [ha]
  exact Iff.rfl

theorem noticesOf_phases (ha : LeftBy own f t a) (hbs : ∀ b ∈ bs, OfBlocks b)
    (hb : ¬(f.payload = .start ∧ t.phase = .attract)) :
    Reports t.phaseValues ((noticesOf own f t bs).filterMap phaseSaid) a.phaseValues := by
  rw [noticesOf, said_of_work _ hbs fun y hy => phaseSaid_eq_none (by omega), ha]
  exact (workOf_told own t hb).phases rfl

theorem noticesOf_locks (ha : LeftBy own f t a) (hbs : ∀ b ∈ bs, OfBlocks b)
    (hb : ¬(f.payload = .start ∧ t.phase = .attract)) (n : Slot) :
    Reports t.slots[n] ((noticesOf own f t bs).filterMap (lockSaid n)) a.slots[n] := by
  rw [noticesOf, said_of_work _ hbs fun y hy => lockSaid_eq_none (by omega), ha]
  exact (workOf_told own t hb).locks rfl n

theorem noticesOf_removed (ha : LeftBy own f t a) (hb : ¬(f.payload = .start ∧ t.phase = .attract)) {e : ModeEntry}
    (he : e ∈ t.modes) (hgone : ∀ d ∈ a.modes, d.mode ≠ e.mode ∨ d.player ≠ e.player) :
    ∃ y ∈ noticesOf own f t bs, TellsRemoval e y := by
  rw [ha] at hgone
  obtain ⟨y, hy, ht⟩ := (workOf_told own t hb).removed (e := e) he fun d hd hk =>
    (hgone d hd).elim (fun h => h hk.1) fun h => h hk.2
  exact ⟨y, mem_of_work hy, ht⟩

theorem noticesOf_told (ha : LeftBy own f t a) {e : ModeEntry} (he : e ∈ a.modes)
    (hnew : ∀ d ∈ t.modes, d.mode = e.mode → d.player = e.player → d.state = e.state → d.progress = e.progress →
      d.remaining ≠ e.remaining ∧ e.remaining % 10 = 0 ∧ e.remaining ≠ 0) :
    ∃ y ∈ noticesOf own f t bs, TellsEntry f a e y := by
  rw [ha] at he ⊢
  by_cases hb : f.payload = .start ∧ t.phase = .attract
  · rw [(workOf_begins own t hb.1 hb.2).2.1] at he
    cases he
  · rcases (workOf_told own t hb).told rfl he with ⟨d, hd, hm, hp, hs, hpr, hrem⟩ | ⟨y, hy, ht⟩
    · obtain ⟨h1, h2, h3⟩ := hnew d hd hm hp hs hpr
      rcases hrem with hrem | hrem | hrem
      · exact absurd hrem h1
      · exact absurd h2 hrem
      · exact absurd hrem h3
    · exact ⟨y, mem_of_work hy, ht.congr fun _ => rfl⟩

/-- R29: a START that begins a game is not refused. -/
theorem noticesOf_refusals (hbs : ∀ b ∈ bs, OfBlocks b) :
    (noticesOf own f t bs).filterMap refusalSaid = (workOf own f t).notices.filterMap refusalSaid :=
  said_of_work _ hbs fun y hy => refusalSaid_eq_none (by omega)

theorem begins_refusals (hp : f.payload = .start) (hph : t.phase = .attract) :
    (workOf own f t).notices.filterMap refusalSaid = [] := by
  rw [(workOf_begins own t hp hph).1]
  rfl

theorem noticesOf_unrefused (ha : LeftBy own f t a) (hbs : ∀ b ∈ bs, OfBlocks b)
    (hr : (noticesOf own f t bs).filterMap refusalSaid = []) :
    (f.payload = .start ∧ t.phase = .attract) ∨ a.refusal = t.refusal := by
  refine or_iff_not_imp_left.2 fun hb => ?_
  rw [noticesOf_refusals hbs] at hr
  rw [ha]
  rcases (workOf_told own t hb).refusals rfl with ⟨-, h⟩ | ⟨_, _, _, _, _, hl, -⟩
  · exact h
  · rw [hr] at hl
    cases hl

theorem noticesOf_refused (ha : LeftBy own f t a) (hbs : ∀ b ∈ bs, OfBlocks b) {kind : FrameKind} {sender : Station}
    {reason : Reason} {sub : Option SubReason} {argument : Option (Fin 8)}
    (hr : ((noticesOf own f t bs).filterMap refusalSaid).getLast? = some (kind, sender, reason, sub, argument)) :
    a.refusal = some
      { kind := kind, sender := sender, reason := reason, sub := sub, ordinal := a.ordinal, argument := argument } := by
  rw [noticesOf_refusals hbs] at hr
  by_cases hb : f.payload = .start ∧ t.phase = .attract
  · rw [begins_refusals hb.1 hb.2] at hr
    cases hr
  · rw [ha]
    rcases (workOf_told own t hb).refusals rfl with ⟨h, -⟩ | ⟨_, _, _, _, _, hl, h⟩
    · rw [h] at hr
      cases hr
    · rw [hr] at hl
      cases hl
      exact h

theorem noticesOf_one_refusal (hbs : ∀ b ∈ bs, OfBlocks b) :
    ((noticesOf own f t bs).filterMap refusalSaid).length ≤ 1 ∨ f.payload.kind = .join := by
  rw [noticesOf_refusals hbs]
  by_cases hb : f.payload = .start ∧ t.phase = .attract
  · rw [begins_refusals hb.1 hb.2]
    exact .inl (Nat.zero_le _)
  · exact (workOf_told own t hb).one_refusal rfl

theorem begin_member_state (t : GameTable) (f : Frame) (k : Station) :
    (Work.begin t f).table.members[k].state = t.members[k].state := by
  refine (congrArg Member.state (vmap_get_fin _ t.members k)).trans ?_
  split <;> rfl

theorem noticesOf_members (ha : LeftBy own f t a) (hb : ¬(f.payload = .start ∧ t.phase = .attract)) (k : Station)
    (hk : a.members[k].state ≠ t.members[k].state) : memberNotice a k ∈ noticesOf own f t bs := by
  rw [ha] at hk ⊢
  rcases (workOf_told own t hb).members k with h | h
  · exact absurd ((congrArg Member.state h).trans (begin_member_state t f k)) hk
  · exact mem_of_work h

theorem noticesOf_scores {g : NoticeBody → Bool} (hg : ∀ y, g y = true ↔ y.code = 3) (ha : LeftBy own f t a)
    (hbs : ∀ b ∈ bs, OfBlocks b) {sw : Switch} {base : BitVec 24} {tag flags : Byte} (hp : f.payload = .hit sw base tag flags) :
    (noticesOf own f t bs).filter g =
      if a.players[t.currentPlayer].score = t.players[t.currentPlayer].score then []
      else [scoreNotice (Work.begin t f) { table := a, notices := [] } f.sender sw tag flags] := by
  have hno : ∀ y, y.code ≠ 3 → g y = false := fun y h => by
    rw [← Bool.not_eq_true, hg]
    exact h
  rw [noticesOf, filter_scores hno _ hbs, workOf_score hp hno fun y hy => (hg y).2 hy, ha]
  rfl

theorem noticesOf_unscored {g : NoticeBody → Bool} (hg : ∀ y, g y = true ↔ y.code = 3) (hbs : ∀ b ∈ bs, OfBlocks b)
    (hf : f.payload.kind ≠ .hit) : (noticesOf own f t bs).filter g = [] := by
  have hno : ∀ y, y.code ≠ 3 → g y = false := fun y h => by
    rw [← Bool.not_eq_true, hg]
    exact h
  rw [noticesOf, filter_scores hno _ hbs]
  exact filter_none fun y hy => hno y (workOf_unscored hf y hy).2

/-- Settles O38: the notices of an application are those of its work, the BALLS notice where it is due, and those of the
neighbouring blocks (`Undisturbed.joins`); of each sort the work says what has become of the table (`Told`). -/
theorem applicationNotices : Obligations.ApplicationNotices := by
  unfold Obligations.ApplicationNotices
  intro s f h he
  refine ⟨_, h.exec_eq, fun hl => ?_⟩
  obtain ⟨bs, hbs, hnew, hord⟩ := h.joins he hl
  have ha : LeftBy s.ctl.station f s.table (s.taken.completed f).table := h.table_eq.trans (applyFrame_work _ _)
  rw [applyFrame_notices] at hnew
  intro b a begins new p counts values ballsNotice m phases locks refusals balls scores halts
  change LeftBy s.ctl.station f s.table a at ha
  change new = noticesOf s.ctl.station f s.table bs at hnew
  change ∀ x ∈ (_ : List Notice), x.ordinal = a.ordinal.truncate 16 at hord
  clear_value a new
  subst hnew
  have hcounts : ∀ k : GameTable, counts k = k.ballsKey := fun k => by
    unfold GameTable.ballsKey GameTable.occupiedSlots
    rw [List.countP_eq_length_filter]
  have hnotice : ballsNotice = ballsNoticeOf (workOf s.ctl.station f s.table).table := by
    show NoticeBody.balls _ _ _ _ _ _ = _
    rw [ha]
    unfold ballsNoticeOf GameTable.occupiedSlots
    rw [List.countP_eq_length_filter]
  have hdue : (counts a ≠ counts b ∨ halts) ↔ BallsAreDue s.ctl.station f s.table := by
    rw [hcounts, hcounts]
    exact due_iff ha
  refine ⟨hord, ?_, fun hd => ?_, fun hb => noticesOf_phases ha hbs hb, fun hb n => noticesOf_locks ha hbs hb n,
    fun hb e hm hgone => noticesOf_removed ha hb hm hgone, fun e hm hnew => noticesOf_told ha hm hnew,
    fun hr => noticesOf_unrefused ha hbs hr, fun kind sender reason sub argument hr => noticesOf_refused ha hbs hr,
    noticesOf_one_refusal hbs, fun hb k hk => noticesOf_members ha hb k hk, fun sw base tag flags hp => ?_, fun hf => ?_⟩
  · show (noticesOf _ _ _ _).filter _ = _
    unfold noticesOf
    rw [filter_balls (fun y => by cases y <;> simp [NoticeBody.code]) hbs, hnotice]
    by_cases hd : BallsAreDue s.ctl.station f s.table
    · rw [ballsDue_of_due hd, if_pos (hdue.2 hd)]
    · rw [ballsDue_of_not_due hd, if_neg (mt hdue.1 hd)]
  · unfold noticesOf
    rw [ballsDue_of_due (hdue.1 hd), hnotice]
    intro x hx
    refine hbs x ?_
    rwa [behind_balls fun hm => workOf_unballed _ hm rfl] at hx
  · refine (noticesOf_scores (fun y => by cases y <;> simp [NoticeBody.code]) ha hbs hp).trans ?_
    have hm : m = (Work.begin s.table f).table.multiplierOf (Work.begin s.table f).table.modes := by
      unfold GameTable.multiplierOf
      rw [List.countP_eq_length_filter]
      rfl
    unfold scoreNotice
    rw [← hm]
    rfl
  · exact noticesOf_unscored (fun y => by cases y <;> simp [NoticeBody.code]) hbs hf

end WholeNotices

end Sys2Proof.Machine

namespace Sys2Proof.Machine

/-! ### Claims by their creation numbers (R128, R129) -/

section Numbered

/-- R128: the claims of the queue were created in their turn. -/
structure ClaimUnit.Numbered (u : ClaimUnit) : Prop where
  distinct : (u.queue.map Claim.created).Nodup
  created  : ∀ c ∈ u.queue, c.created < u.serial

variable {q : List Claim} {c d : Claim}

theorem mem_removeClaim : d ∈ removeClaim c q ↔ d ∈ q ∧ d.created ≠ c.created := by simp [removeClaim]

/-- Two claims of a queue with distinct creation numbers are one where their numbers are. -/
theorem eq_of_created (hn : (q.map Claim.created).Nodup) (hc : c ∈ q) (hd : d ∈ q) (h : c.created = d.created) : c = d :=
  List.inj_on_of_nodup_map hn hc hd h

theorem length_removeClaim (hn : (q.map Claim.created).Nodup) (hc : c ∈ q) : (removeClaim c q).length + 1 = q.length := by
  have hone : (q.countP fun d => d.created == c.created) = 1 := by
    have h := List.count_eq_one_of_mem hn (List.mem_map_of_mem hc)
    rwa [List.count, List.countP_map] at h
  have hsum := List.length_eq_countP_add_countP (l := q) (fun d => d.created == c.created)
  rw [hone, List.countP_eq_length_filter] at hsum
  have he : (q.filter fun d => decide ¬(d.created == c.created) = true) = removeClaim c q :=
    List.filter_congr fun d _ => by by_cases h : d.created = c.created <;> simp [h]
  rw [he] at hsum
  omega

theorem nodup_insertClaim (hn : (q.map Claim.created).Nodup) (hc : ∀ d ∈ q, d.created < c.created) :
    ((insertClaim c q).map Claim.created).Nodup := by
  have hp : (insertClaim c q).Perm (c :: q) := by
    clear hn hc
    induction q with
    | nil => exact .refl _
    | cons d q ih =>
      unfold insertClaim
      split
      · exact (ih.cons d).trans (.swap c d q)
      · exact .refl _
  rw [(hp.map Claim.created).nodup_iff, List.map_cons, List.nodup_cons]
  refine ⟨fun hm => ?_, hn⟩
  obtain ⟨d, hd, he⟩ := List.mem_map.1 hm
  exact absurd (hc d hd) (by omega)

/-- A fold that keeps what it has or takes an element with a property ends with such an element. -/
theorem mem_of_foldl_choice_of {α : Type} {P : α → Prop} {f : Option α → α → Option α}
    (hf : ∀ best c b, f best c = some b → best = some b ∨ b = c ∧ P c) (l : List α) (best : Option α) {b : α}
    (h : l.foldl f best = some b) : best = some b ∨ b ∈ l ∧ P b := by
  induction l generalizing best with
  | nil => exact .inl h
  | cons c l ih =>
    rcases ih (f best c) h with h1 | ⟨hm, hp⟩
    · refine (hf best c b h1).imp_right fun ⟨he, hp⟩ => ?_
      rw [he]
      exact ⟨List.mem_cons_self, hp⟩
    · exact .inr ⟨List.mem_cons_of_mem c hm, hp⟩

/-- R129: what the claim is that gives way: WAITING, and of a later class. -/
theorem newestDisplaceable_spec {cls : FrameClass} (h : newestDisplaceable cls q = some c) :
    c ∈ q ∧ c.isWaiting = true ∧ cls.code < c.cls.code := by
  refine (mem_of_foldl_choice_of (P := fun c => c.isWaiting = true ∧ cls.code < c.cls.code)
    (fun best d b hb => ?_) q none h).resolve_left nofun
  split at hb
  · next hp =>
    split at hb
    · exact .inr ⟨(Option.some.inj hb).symm, hp⟩
    · split at hb
      · exact .inr ⟨(Option.some.inj hb).symm, hp⟩
      · exact .inl hb
  · exact .inl hb

end Numbered

end Sys2Proof.Machine

namespace Sys2Proof.Machine

/-! ### The launches unapplied follow the queue (R170) -/

section Launches

/-- R170: the launches unapplied have fallen by the LAUNCHED claims that have left the queue, and none has joined it. -/
structure LaunchesFall (s t : State) : Prop where
  unapplied : t.drv.serve.launches =
    s.drv.serve.launches - (launchedClaims s.claim.queue - launchedClaims t.claim.queue)
  fewer     : launchedClaims t.claim.queue ≤ launchedClaims s.claim.queue

namespace LaunchesFall

variable {s t u : State}

theorem of_eq (hq : t.claim.queue = s.claim.queue) (hd : t.drv.serve = s.drv.serve) : LaunchesFall s t :=
  ⟨by rw [hq, hd, Nat.sub_self, Nat.sub_zero], by rw [hq]⟩

theorem refl (s : State) : LaunchesFall s s := of_eq rfl rfl

theorem trans (h : LaunchesFall s t) (g : LaunchesFall t u) : LaunchesFall s u := by
  refine ⟨?_, g.fewer.trans h.fewer⟩
  have h1 := h.fewer
  have g1 := g.fewer
  rw [g.unapplied, h.unapplied]
  omega

theorem setQueue (s : State) {q : List Claim} (h : launchedClaims q ≤ launchedClaims s.claim.queue) :
    LaunchesFall s (s.setQueue q) := ⟨rfl, h⟩

end LaunchesFall

variable {s : State} {c : Claim} {q : List Claim}

theorem launchedClaims_insertClaim (h : c.payload ≠ .launched) : launchedClaims (insertClaim c q) = launchedClaims q := by
  induction q with
  | nil => simp [insertClaim, launchedClaims, h]
  | cons d q ih =>
    unfold launchedClaims at ih
    unfold insertClaim launchedClaims
    split
    · rw [List.countP_cons, List.countP_cons, ih]
    · rw [List.countP_cons_of_neg (by simpa using h)]

theorem launchedClaims_filter_le (p : Claim → Bool) : launchedClaims (q.filter p) ≤ launchedClaims q :=
  List.filter_sublist.countP_le

theorem launchesFall_filter (s : State) (p : Claim → Bool) : LaunchesFall s (s.setQueue (s.claim.queue.filter p)) :=
  .setQueue s (launchedClaims_filter_le p)

theorem launchesFall_addClaim (s : State) {p : Payload} (o : Origin) (h : p ≠ .launched) :
    LaunchesFall s (s.addClaim p o) :=
  (LaunchesFall.setQueue s (launchedClaims_insertClaim (c := s.newClaim p o) h).le).trans (.of_eq rfl rfl)

end Launches

/-! ### Claims that are built (R129, R130, R139) -/

section Builds

/-- Claims are built from the state `s`, whose claims are numbered: in `t` stand claims of `s` and new ones, each with a
payload of `P` and a number of its own; what has left the queue is in `R`. Latches only fall, at ABSENT slots alone, and
requests for a BOUNCE stand. -/
structure Builds (P : Payload → Prop) (R : Claim → Prop) (s t : State) : Prop where
  kept     : Kept s t
  numbered : t.claim.Numbered
  serial   : s.claim.serial ≤ t.claim.serial
  timer    : t.claim.tickTimer = s.claim.tickTimer
  presence : t.claim.presence = s.claim.presence
  joined   : ∀ c ∈ t.claim.queue, c ∈ s.claim.queue ∨ s.claim.serial ≤ c.created ∧ P c.payload
  left     : ∀ c ∈ s.claim.queue, c ∈ t.claim.queue ∨ R c
  falls    : ∀ n : Slot, t.claim.reject[n] = true → s.claim.reject[n] = true
  stands   : ∀ n : Slot, s.boundState n ≠ some .absent → t.claim.reject[n] = s.claim.reject[n]
  bounce   : ∀ n : Slot, s.drv.bounce[n] = true → t.drv.bounce[n] = true
  launches : LaunchesFall s t

theorem Kept.boundState {s t : State} (h : Kept s t) (n : Slot) : t.boundState n = s.boundState n := by
  unfold State.boundState
  rw [h.cfg, h.sen]

variable {P Q : Payload → Prop} {R S : Claim → Prop} {s t u : State}

namespace Builds

theorem refl (h : s.claim.Numbered) : Builds P R s s :=
  ⟨.refl s, h, le_refl _, rfl, rfl, fun _ => .inl, fun _ => .inl, fun _ => id, fun _ _ => rfl, fun _ => id, .refl s⟩

theorem trans (h : Builds P R s t) (g : Builds P R t u) : Builds P R s u where
  kept := h.kept.trans g.kept
  numbered := g.numbered
  serial := h.serial.trans g.serial
  timer := g.timer.trans h.timer
  presence := g.presence.trans h.presence
  joined c hc := by
    rcases g.joined c hc with ht | ⟨hs, hp⟩
    · exact h.joined c ht
    · exact .inr ⟨h.serial.trans hs, hp⟩
  left c hc := by
    rcases h.left c hc with ht | hr
    · exact g.left c ht
    · exact .inr hr
  falls n hn := h.falls n (g.falls n hn)
  stands n hn := (g.stands n (by rwa [h.kept.boundState])).trans (h.stands n hn)
  bounce n hn := g.bounce n (h.bounce n hn)
  launches := h.launches.trans g.launches

theorem mono (h : Builds P R s t) (hp : ∀ p, P p → Q p) (hr : ∀ c, R c → S c) : Builds Q S s t :=
  { h with
    joined := fun c hc => (h.joined c hc).imp_right fun ⟨hs, hq⟩ => ⟨hs, hp _ hq⟩
    left := fun c hc => (h.left c hc).imp_right (hr c) }

theorem foldl {α : Type} {f : State → α → State} (l : List α)
    (hf : ∀ a ∈ l, ∀ s : State, s.claim.Numbered → Builds P R s (f s a)) {s : State} (hs : s.claim.Numbered) :
    Builds P R s (l.foldl f s) := by
  induction l generalizing s with
  | nil => exact refl hs
  | cons a l ih =>
    have h1 := hf a List.mem_cons_self s hs
    exact h1.trans (ih (fun b hb => hf b (List.mem_cons_of_mem a hb)) h1.numbered)

theorem ite {p : Prop} [Decidable p] (h : p → Builds P R s t) (g : ¬p → Builds P R s u) :
    Builds P R s (if p then t else u) := by
  split
  · next hp => exact h hp
  · next hp => exact g hp

end Builds

theorem ClaimUnit.Numbered.sublist {u v : ClaimUnit} (h : u.Numbered) (hq : v.queue.Sublist u.queue)
    (hs : v.serial = u.serial) : v.Numbered :=
  ⟨h.distinct.sublist (hq.map _), fun c hc => hs ▸ h.created c (hq.subset hc)⟩

theorem numbered_addClaim (h : s.claim.Numbered) (p : Payload) (o : Origin) : (s.addClaim p o).claim.Numbered := by
  refine ⟨nodup_insertClaim h.distinct h.created, fun c hc => ?_⟩
  rcases (mem_insertClaim _ _ _).1 hc with rfl | hm
  · exact Nat.lt_succ_self _
  · exact Nat.lt_succ_of_lt (h.created c hm)

theorem builds_addClaim (h : s.claim.Numbered) {p : Payload} (o : Origin) (hp : p ≠ .launched) :
    Builds (· = p) R s (s.addClaim p o) where
  kept := kept_addClaim s p o
  numbered := numbered_addClaim h p o
  serial := Nat.le_succ _
  timer := rfl
  presence := rfl
  joined c hc := by
    rcases (mem_insertClaim _ _ _).1 hc with rfl | hm
    · exact .inr ⟨le_refl _, rfl⟩
    · exact .inl hm
  left c hc := .inl ((mem_insertClaim _ _ _).2 (.inr hc))
  falls _ := id
  stands _ _ := rfl
  bounce _ := id
  launches := launchesFall_addClaim s o hp

/-- The queue loses claims of `R` alone. -/
theorem builds_filter (h : s.claim.Numbered) (p : Claim → Bool) (hr : ∀ c ∈ s.claim.queue, p c = false → R c) :
    Builds P R s (s.setQueue (s.claim.queue.filter p)) where
  kept := kept_setQueue s _
  numbered := h.sublist (v := { s.claim with queue := s.claim.queue.filter p }) List.filter_sublist rfl
  serial := le_refl _
  timer := rfl
  presence := rfl
  joined c hc := .inl (List.mem_of_mem_filter hc)
  left c hc := by
    cases hp : p c with
    | true => exact .inl (List.mem_filter.2 ⟨hc, hp⟩)
    | false => exact .inr (hr c hc hp)
  falls _ := id
  stands _ _ := rfl
  bounce _ := id
  launches := launchesFall_filter s p

theorem builds_claimLost (h : s.claim.Numbered) (p : Payload) (o : Origin) (c : LostCause) :
    Builds P R s (s.claimLost p o c) :=
  { Builds.refl (P := P) (R := R) h with kept := kept_claimLost s p o c, launches := .of_eq rfl rfl }

/-- R129: a claim gives way to one of an earlier class, and only while it is WAITING. -/
def Yields (p : Payload) (c : Claim) : Prop := c.isWaiting = true ∧ p.cls.code < c.cls.code

theorem builds_enterClaim (h : s.claim.Numbered) {p : Payload} (o : Origin) (hp : p ≠ .launched) :
    Builds (· = p) (Yields p) s (s.enterClaim p o) := by
  unfold State.enterClaim
  refine Builds.ite (fun _ => builds_addClaim h o hp) fun _ => ?_
  split
  · next c hc =>
    obtain ⟨hm, hw, hcls⟩ := newestDisplaceable_spec hc
    have h1 : Builds (· = p) (Yields p) s (s.setQueue (removeClaim c s.claim.queue)) := by
      refine builds_filter h _ fun d hd he => ?_
      have hde : d.created = c.created := by simpa using he
      rw [eq_of_created h.distinct hd hm hde]
      exact ⟨hw, hcls⟩
    have h2 := h1.trans (builds_claimLost h1.numbered c.payload c.origin .displaced)
    exact h2.trans (builds_addClaim h2.numbered o hp)
  · exact builds_claimLost h p o _

theorem builds_build (h : s.claim.Numbered) {p : Payload} (o : Origin) (hp : p ≠ .launched) :
    Builds (· = p) (Yields p) s (s.build p o) := Builds.ite (fun _ => builds_enterClaim h o hp) fun _ => .refl h

/-- R129: what a build makes of a queue: it never gets shorter, longer by one claim at most, and ends full or with the
claim in it. -/
theorem length_enterClaim (h : s.claim.Numbered) (p : Payload) (o : Origin) :
    s.claim.queue.length ≤ (s.enterClaim p o).claim.queue.length
      ∧ (s.enterClaim p o).claim.queue.length ≤ s.claim.queue.length + 1
      ∧ (s.claim.queue.length < 8 ∨ (s.enterClaim p o).claim.queue.length < 8 →
        ∃ c ∈ (s.enterClaim p o).claim.queue, c.payload = p) := by
  unfold State.enterClaim
  split
  · next hl =>
    rw [addClaim_queue, insertClaim_length]
    exact ⟨Nat.le_succ _, le_refl _, fun _ => ⟨_, (mem_insertClaim _ _ _).2 (.inl rfl), rfl⟩⟩
  · next hl =>
    have hge : 8 ≤ s.claim.queue.length := Nat.not_lt.1 hl
    split
    · next c hc =>
      have hlen := length_removeClaim h.distinct (newestDisplaceable_mem hc)
      rw [addClaim_queue, insertClaim_length]
      have hq : ((s.setQueue (removeClaim c s.claim.queue)).claimLost c.payload c.origin .displaced).claim.queue
          = removeClaim c s.claim.queue := rfl
      rw [hq]
      exact ⟨by omega, by omega, fun hlt => by omega⟩
    · exact ⟨le_refl _, Nat.le_succ _, fun hlt => absurd hlt (by show ¬(_ ∨ s.claim.queue.length < 8); omega)⟩

end Builds

end Sys2Proof.Machine

namespace Sys2Proof.Machine

/-! ### Reconciliation, one slot at a time (R139, R140) -/

section Turn

/-- R139: what the turn of a slot may build. -/
def OfSlot (n : Slot) (p : Payload) : Prop := p = .lock n ∨ p = .lost n ∨ p = .released n

/-- R139, R129: what the turn of a slot may take from the queue: its WAITING LOCK, and a WAITING claim of a class behind
that of balls, which gives way. -/
def LeavesAt (n : Slot) (c : Claim) : Prop := c.isWaiting = true ∧ (1 < c.cls.code ∨ c.payload = .lock n)

theorem OfSlot.ne_launched {n : Slot} {p : Payload} (h : OfSlot n p) : p ≠ .launched := by
  rcases h with rfl | rfl | rfl <;> nofun

theorem OfSlot.code {n : Slot} {p : Payload} (h : OfSlot n p) : p.cls.code = 1 := by
  rcases h with rfl | rfl | rfl <;> rfl

/-- A claim of a slot stays through the turns of the others. -/
theorem OfSlot.stays {n m : Slot} {c : Claim} (h : OfSlot n c.payload) (hne : m ≠ n) : ¬LeavesAt m c := by
  rintro ⟨-, hc | hp⟩
  · have hcode : c.cls.code = 1 := h.code
    omega
  · rcases h with he | he | he
    · rw [he] at hp
      exact hne (Payload.lock.inj hp).symm
    · rw [he] at hp
      cases hp
    · rw [he] at hp
      cases hp

theorem isLockOf_iff {n : Slot} {p : Payload} : p.isLockOf n = true ↔ p = .lock n := by
  cases p <;> simp [Payload.isLockOf]

theorem isLostOf_iff {n : Slot} {p : Payload} : p.isLostOf n = true ↔ p = .lost n := by
  cases p <;> simp [Payload.isLostOf]

theorem isReleasedOf_iff {n : Slot} {p : Payload} : p.isReleasedOf n = true ↔ p = .released n := by
  cases p <;> simp [Payload.isReleasedOf]

theorem notLightable_of_isHeld {r : SlotRecord} (h : r.isHeld = true) : r.isLightable = false := by
  cases r with
  | held => rfl
  | _ => cases h

theorem notLeaving_of_isHeld {r : SlotRecord} (h : r.isHeld = true) : r.isLeaving = false := by
  cases r with
  | held => rfl
  | _ => cases h

theorem notLightable_of_isLeaving {r : SlotRecord} (h : r.isLeaving = true) : r.isLightable = false ∧ r.isHeld = false := by
  cases r with
  | releasing | jammed => exact ⟨rfl, rfl⟩
  | _ => cases h

theorem notLeaving_of_isLightable {r : SlotRecord} (h : r.isLightable = true) : r.isLeaving = false := by
  cases r with
  | dark | opened => rfl
  | _ => cases h

variable {s : State} {n : Slot}

/-- R130: what a MEMBER that takes part may build. -/
structure State.FreeMember (s : State) : Prop where
  member   : s.ctl.state = .member
  listener : s.ctl.listener = false
  muted    : s.bus.muted = false
  valid    : s.isValid = true

theorem Kept.isValid {s t : State} (h : Kept s t) : t.isValid = s.isValid := by
  unfold State.isValid
  rw [h.eng]

theorem State.FreeMember.kept {t : State} (h : s.FreeMember) (hk : Kept s t) : t.FreeMember :=
  ⟨hk.state.trans h.member, hk.listener.trans h.listener, (congrArg Bus.muted hk.bus).trans h.muted,
    hk.isValid.trans h.valid⟩

theorem State.FreeMember.mayBuild (h : s.FreeMember) {k : FrameKind} (hk : k ≠ .join) : s.mayBuild k = true := by
  unfold State.mayBuild
  rw [h.listener, h.muted, h.valid, h.member]
  simpa using hk

theorem Kept.reconciles {s t : State} (h : Kept s t) (n : Slot) : t.reconciles n = s.reconciles n := by
  unfold State.reconciles
  rw [h.state, h.isValid, h.table, h.station]

theorem builds_slot (h : s.claim.Numbered) {p : Payload} (hp : OfSlot n p) (o : Origin) :
    Builds (OfSlot n) (LeavesAt n) s (s.build p o) := by
  refine (builds_build h o hp.ne_launched).mono (fun q hq => hq ▸ hp) fun c ⟨hw, hc⟩ => ⟨hw, .inl ?_⟩
  rwa [hp.code] at hc

theorem builds_requestBounce {P : Payload → Prop} {R : Claim → Prop} (h : s.claim.Numbered) (n : Slot) :
    Builds P R s (s.requestBounce n) :=
  { Builds.refl (P := P) (R := R) h with
    kept := kept_requestBounce s n
    bounce := fun m hm => by
      show (vmap _ s.drv.bounce)[m] = true
      rw [vmap_get_fin]
      split
      · rfl
      · exact hm
    launches := .of_eq rfl rfl }

theorem setLatch_reject (s : State) (n m : Slot) (b : Bool) :
    (s.setLatch n b).claim.reject[m] = if m = n then b else s.claim.reject[m] := vmap_get_fin _ _ m

theorem builds_clearLatch {P : Payload → Prop} {R : Claim → Prop} (h : s.claim.Numbered)
    (ha : s.boundState n = some .absent) : Builds P R s (s.setLatch n false) :=
  { Builds.refl (P := P) (R := R) h with
    kept := kept_setLatch s n false
    numbered := ⟨h.distinct, h.created⟩
    falls := fun m hm => by
      rw [setLatch_reject] at hm
      split at hm
      · cases hm
      · exact hm
    stands := fun m hm => by
      rw [setLatch_reject, if_neg]
      rintro rfl
      exact hm ha
    launches := .of_eq rfl rfl }

theorem builds_withdrawLock {P : Payload → Prop} (h : s.claim.Numbered) : Builds P (LeavesAt n) s (s.withdrawLock n) := by
  refine builds_filter h _ fun c _ hc => ?_
  simp only [Bool.not_eq_false', Bool.and_eq_true] at hc
  exact ⟨hc.1, .inr (isLockOf_iff.1 hc.2)⟩

/-- R139: the rows for an ABSENT channel, before the latch. -/
def State.askAbsent (s : State) (n : Slot) : State :=
  if s.table.slots[n].isLightable then s.withdrawLock n
  else if s.table.slots[n].isHeld ∧ s.hasClaim (Payload.isLostOf n) = false then s.build (.lost n) (.slot n)
  else if s.table.slots[n].isLeaving ∧ s.hasClaim (Payload.isReleasedOf n) = false then s.build (.released n) (.slot n)
  else s

theorem reconcileAbsent_eq (s : State) (n : Slot) : s.reconcileAbsent n = (s.askAbsent n).setLatch n false := rfl

theorem builds_askAbsent (h : s.claim.Numbered) : Builds (OfSlot n) (LeavesAt n) s (s.askAbsent n) :=
  Builds.ite (fun _ => builds_withdrawLock h) fun _ => Builds.ite (fun _ => builds_slot h (.inr (.inl rfl)) _) fun _ =>
    Builds.ite (fun _ => builds_slot h (.inr (.inr rfl)) _) fun _ => .refl h

theorem builds_reconcilePresent (h : s.claim.Numbered) : Builds (OfSlot n) (LeavesAt n) s (s.reconcilePresent n) :=
  Builds.ite (fun _ => Builds.ite (fun _ => builds_requestBounce h n) fun _ => Builds.ite (fun _ => .refl h) fun _ =>
    builds_slot h (.inl rfl) _) fun _ => .refl h

theorem builds_reconcileAbsent (h : s.claim.Numbered) (ha : s.boundState n = some .absent) :
    Builds (OfSlot n) (LeavesAt n) s (s.reconcileAbsent n) := by
  have h1 := builds_askAbsent (n := n) h
  rw [reconcileAbsent_eq]
  exact h1.trans (builds_clearLatch h1.numbered (by rwa [h1.kept.boundState]))

/-- R139: which row the turn of a slot takes. -/
theorem reconcile_present (hr : s.reconciles n = true) (hp : s.boundState n = some .present) :
    s.reconcile n = s.reconcilePresent n := by
  unfold State.reconcile
  rw [if_pos hr, hp]

theorem reconcile_absent (hr : s.reconciles n = true) (ha : s.boundState n = some .absent) :
    s.reconcile n = s.reconcileAbsent n := by
  unfold State.reconcile
  rw [if_pos hr, ha]

theorem reconcile_other (h : s.reconciles n = false ∨ s.boundState n ≠ some .present ∧ s.boundState n ≠ some .absent) :
    s.reconcile n = s := by
  unfold State.reconcile
  rcases h with hr | ⟨hp, ha⟩
  · rw [hr]
    rfl
  · split
    · split
      · next he => exact absurd he hp
      · next he => exact absurd he ha
      all_goals rfl
    · rfl

/-- The turn of a slot, by its rows. -/
theorem reconcile_cases (s : State) (n : Slot) :
    s.boundState n = some .present ∧ s.reconcile n = s.reconcilePresent n
      ∨ s.boundState n = some .absent ∧ s.reconcile n = s.reconcileAbsent n ∨ s.reconcile n = s := by
  cases hr : s.reconciles n with
  | false => exact .inr (.inr (reconcile_other (.inl hr)))
  | true =>
    by_cases hp : s.boundState n = some .present
    · exact .inl ⟨hp, reconcile_present hr hp⟩
    · by_cases ha : s.boundState n = some .absent
      · exact .inr (.inl ⟨ha, reconcile_absent hr ha⟩)
      · exact .inr (.inr (reconcile_other (.inr ⟨hp, ha⟩)))

theorem builds_reconcile (h : s.claim.Numbered) (n : Slot) : Builds (OfSlot n) (LeavesAt n) s (s.reconcile n) := by
  rcases reconcile_cases s n with ⟨-, he⟩ | ⟨ha, he⟩ | he
  · rw [he]
    exact builds_reconcilePresent h
  · rw [he]
    exact builds_reconcileAbsent h ha
  · rw [he]
    exact .refl h

/-! #### What stands in the queue behind a turn -/

theorem length_build (h : s.claim.Numbered) (p : Payload) (o : Origin) :
    s.claim.queue.length ≤ (s.build p o).claim.queue.length
      ∧ (s.build p o).claim.queue.length ≤ s.claim.queue.length + 1 := by
  obtain ⟨hge, hle, -⟩ := length_enterClaim h p o
  unfold State.build
  split
  · exact ⟨hge, hle⟩
  · exact ⟨le_refl _, Nat.le_succ _⟩

theorem exists_of_build (h : s.claim.Numbered) {p : Payload} (o : Origin) (hm : s.mayBuild p.kind = true)
    (hl : s.claim.queue.length < 8 ∨ (s.build p o).claim.queue.length < 8) :
    ∃ c ∈ (s.build p o).claim.queue, c.payload = p := by
  have he : s.build p o = s.enterClaim p o := if_pos hm
  rw [he] at hl ⊢
  exact (length_enterClaim h p o).2.2 hl

theorem hasClaim_iff {p : Payload → Bool} : s.hasClaim p = true ↔ ∃ c ∈ s.claim.queue, p c.payload = true := by
  simp [State.hasClaim]

theorem length_reconcile_le (h : s.claim.Numbered) (n : Slot) :
    (s.reconcile n).claim.queue.length ≤ s.claim.queue.length + 1 := by
  have hb : ∀ p o, (s.build p o).claim.queue.length ≤ s.claim.queue.length + 1 := fun p o => (length_build h p o).2
  have hw : (s.withdrawLock n).claim.queue.length ≤ s.claim.queue.length + 1 :=
    (List.length_filter_le _ _).trans (Nat.le_succ _)
  rcases reconcile_cases s n with ⟨-, he⟩ | ⟨-, he⟩ | he
  · rw [he]
    unfold State.reconcilePresent
    repeat' split
    · exact Nat.le_succ _
    · exact Nat.le_succ _
    · exact hb _ _
    · exact Nat.le_succ _
  · rw [he, reconcileAbsent_eq]
    show (s.askAbsent n).claim.queue.length ≤ _
    unfold State.askAbsent
    repeat' split
    · exact hw
    · exact hb _ _
    · exact hb _ _
    · exact Nat.le_succ _
  · rw [he]
    exact Nat.le_succ _

/-- R139: only the withdrawal of a LOCK makes the queue shorter. -/
theorem length_le_reconcile (h : s.claim.Numbered)
    (hn : s.boundState n = some .absent → s.table.slots[n].isLightable = false) :
    s.claim.queue.length ≤ (s.reconcile n).claim.queue.length := by
  have hb : ∀ p o, s.claim.queue.length ≤ (s.build p o).claim.queue.length := fun p o => (length_build h p o).1
  rcases reconcile_cases s n with ⟨-, he⟩ | ⟨ha, he⟩ | he
  · rw [he]
    unfold State.reconcilePresent
    repeat' split
    · exact le_refl _
    · exact le_refl _
    · exact hb _ _
    · exact le_refl _
  · rw [he, reconcileAbsent_eq]
    show _ ≤ (s.askAbsent n).claim.queue.length
    unfold State.askAbsent
    rw [hn ha, if_neg (by decide)]
    repeat' split
    · exact hb _ _
    · exact hb _ _
    · exact le_refl _
  · rw [he]

section Rows

variable (h : s.claim.Numbered) (hr : s.reconciles n = true)
include hr

theorem turn_bounce (hp : s.boundState n = some .present) (hl : s.table.slots[n].isLightable = true)
    (hj : s.claim.reject[n] = true) : (s.reconcile n).drv.bounce[n] = true := by
  rw [reconcile_present hr hp]
  unfold State.reconcilePresent
  rw [if_pos hl, if_pos hj]
  show (vmap _ s.drv.bounce)[n] = true
  rw [vmap_get_fin, if_pos rfl]

theorem turn_latch (ha : s.boundState n = some .absent) : (s.reconcile n).claim.reject[n] = false := by
  rw [reconcile_absent hr ha, reconcileAbsent_eq, setLatch_reject, if_pos rfl]

theorem turn_withdraws (ha : s.boundState n = some .absent) (hl : s.table.slots[n].isLightable = true) :
    ∀ c ∈ (s.reconcile n).claim.queue, c.payload = .lock n → c.state ≠ .waiting := by
  intro c hc hp hw
  rw [reconcile_absent hr ha, reconcileAbsent_eq] at hc
  unfold State.askAbsent at hc
  rw [if_pos hl] at hc
  have hf := (List.mem_filter.1 hc).2
  rw [hp] at hf
  simp [Claim.isWaiting, hw, Payload.isLockOf] at hf

include h

theorem turn_lock (hf : s.FreeMember) (hp : s.boundState n = some .present) (hl : s.table.slots[n].isLightable = true)
    (hj : s.claim.reject[n] = false) (hroom : s.claim.queue.length < 8 ∨ (s.reconcile n).claim.queue.length < 8) :
    ∃ c ∈ (s.reconcile n).claim.queue, c.payload = .lock n := by
  have he : s.reconcile n = if s.hasClaim (Payload.isLockOf n) then s else s.build (.lock n) (.slot n) := by
    rw [reconcile_present hr hp]
    unfold State.reconcilePresent
    rw [if_pos hl, hj, if_neg (by decide)]
  rw [he] at hroom ⊢
  split at hroom
  · next hc =>
    obtain ⟨c, hc, hpc⟩ := hasClaim_iff.1 hc
    rw [if_pos ‹_›]
    exact ⟨c, hc, isLockOf_iff.1 hpc⟩
  · rw [if_neg ‹_›]
    exact exists_of_build h _ (hf.mayBuild nofun) hroom

theorem turn_lost (hf : s.FreeMember) (ha : s.boundState n = some .absent) (hh : s.table.slots[n].isHeld = true)
    (hroom : s.claim.queue.length < 8 ∨ (s.reconcile n).claim.queue.length < 8) :
    ∃ c ∈ (s.reconcile n).claim.queue, c.payload = .lost n := by
  have hl := notLightable_of_isHeld hh
  rw [reconcile_absent hr ha, reconcileAbsent_eq] at hroom ⊢
  change _ ∨ (s.askAbsent n).claim.queue.length < 8 at hroom
  show ∃ c ∈ (s.askAbsent n).claim.queue, _
  unfold State.askAbsent at hroom ⊢
  rw [hl, hh, if_neg (by decide)] at hroom ⊢
  by_cases hc : s.hasClaim (Payload.isLostOf n) = true
  · obtain ⟨c, hm, hpc⟩ := hasClaim_iff.1 hc
    have hleave := notLeaving_of_isHeld hh
    rw [hc, hleave, if_neg (by simp), if_neg (by simp)]
    exact ⟨c, hm, isLostOf_iff.1 hpc⟩
  · rw [if_pos ⟨rfl, by simpa using hc⟩] at hroom ⊢
    exact exists_of_build h _ (hf.mayBuild nofun) hroom

theorem turn_released (hf : s.FreeMember) (ha : s.boundState n = some .absent) (hh : s.table.slots[n].isLeaving = true)
    (hroom : s.claim.queue.length < 8 ∨ (s.reconcile n).claim.queue.length < 8) :
    ∃ c ∈ (s.reconcile n).claim.queue, c.payload = .released n := by
  obtain ⟨hl, hheld⟩ := notLightable_of_isLeaving hh
  rw [reconcile_absent hr ha, reconcileAbsent_eq] at hroom ⊢
  change _ ∨ (s.askAbsent n).claim.queue.length < 8 at hroom
  show ∃ c ∈ (s.askAbsent n).claim.queue, _
  unfold State.askAbsent at hroom ⊢
  rw [hl, hheld, hh, if_neg (by decide), if_neg (by simp)] at hroom ⊢
  by_cases hc : s.hasClaim (Payload.isReleasedOf n) = true
  · obtain ⟨c, hm, hpc⟩ := hasClaim_iff.1 hc
    rw [hc, if_neg (by simp)]
    exact ⟨c, hm, isReleasedOf_iff.1 hpc⟩
  · rw [if_pos ⟨rfl, by simpa using hc⟩] at hroom ⊢
    exact exists_of_build h _ (hf.mayBuild nofun) hroom

end Rows

end Turn

end Sys2Proof.Machine

namespace Sys2Proof.Machine

/-! ### The reconciliation of all slots, and the timers' claims behind it (R137, steps 5 and 7) -/

section Rounds

/-- R137, step 5: the slots before slot `n` have had their turns. -/
def State.turnsBefore (s : State) (n : Slot) : State := ((indices 8).take n).foldl State.reconcile s

/-- R137, step 5: every slot has had its turn. -/
def State.turned (s : State) : State := (indices 8).foldl State.reconcile s

theorem indices_split (n : Slot) : indices 8 = (indices 8).take n ++ n :: (indices 8).drop (n + 1) := by
  revert n
  decide

theorem lt_of_mem_take (n : Slot) : ∀ m ∈ (indices 8).take n, m < n := by
  revert n
  decide

theorem lt_of_mem_drop (n : Slot) : ∀ m ∈ (indices 8).drop (n + 1), n < m := by
  revert n
  decide

theorem turned_eq (s : State) (n : Slot) :
    s.turned = ((indices 8).drop (n + 1)).foldl State.reconcile ((s.turnsBefore n).reconcile n) := by
  unfold State.turned State.turnsBefore
  conv_lhs => rw [indices_split n]
  rw [List.foldl_append, List.foldl_cons]

variable {s t : State} {n : Slot}

/-- What the turns of the slots of which `I` holds may build. -/
def OfSlots (I : Slot → Prop) (p : Payload) : Prop := ∃ m, I m ∧ OfSlot m p

/-- What the turns of the slots of which `I` holds may take from the queue. -/
def LeavesAtSlots (I : Slot → Prop) (c : Claim) : Prop := ∃ m, I m ∧ LeavesAt m c

theorem builds_turns (I : Slot → Prop) (l : List Slot) (hl : ∀ m ∈ l, I m) (h : s.claim.Numbered) :
    Builds (OfSlots I) (LeavesAtSlots I) s (l.foldl State.reconcile s) :=
  Builds.foldl l (fun m hm _ hs =>
    (builds_reconcile hs m).mono (fun _ hp => ⟨m, hl m hm, hp⟩) fun _ hc => ⟨m, hl m hm, hc⟩) h

theorem builds_turned (h : s.claim.Numbered) : Builds (OfSlots fun _ => True) (LeavesAtSlots fun _ => True) s s.turned :=
  builds_turns _ _ (fun _ _ => trivial) h

theorem builds_turnsBefore (h : s.claim.Numbered) (n : Slot) :
    Builds (OfSlots (· < n)) (LeavesAtSlots (· < n)) s (s.turnsBefore n) :=
  builds_turns _ _ (lt_of_mem_take n) h

theorem numbered_turn (h : s.claim.Numbered) (n : Slot) : ((s.turnsBefore n).reconcile n).claim.Numbered :=
  (builds_reconcile (builds_turnsBefore h n).numbered n).numbered

theorem builds_turnsBehind (h : s.claim.Numbered) (n : Slot) :
    Builds (OfSlots (n < ·)) (LeavesAtSlots (n < ·)) ((s.turnsBefore n).reconcile n) s.turned := by
  rw [turned_eq s n]
  exact builds_turns _ _ (lt_of_mem_drop n) (numbered_turn h n)

theorem length_turns_le (l : List Slot) (h : s.claim.Numbered) :
    (l.foldl State.reconcile s).claim.queue.length ≤ s.claim.queue.length + l.length := by
  induction l generalizing s with
  | nil => exact le_refl _
  | cons m l ih =>
    have h1 := ih (builds_reconcile h m).numbered
    have h2 := length_reconcile_le h m
    rw [List.foldl_cons, List.length_cons]
    omega

theorem length_le_turns (l : List Slot) (h : s.claim.Numbered)
    (hl : ∀ m ∈ l, s.boundState m = some .absent → s.table.slots[m].isLightable = false) :
    s.claim.queue.length ≤ (l.foldl State.reconcile s).claim.queue.length := by
  induction l generalizing s with
  | nil => exact le_refl _
  | cons m l ih =>
    have hb := builds_reconcile h m
    refine (length_le_reconcile h (hl m List.mem_cons_self)).trans (ih hb.numbered fun k hk => ?_)
    rw [hb.kept.boundState, hb.kept.table]
    exact hl k (List.mem_cons_of_mem m hk)

theorem turnsBefore_reconciles (h : s.claim.Numbered) (hr : s.reconciles n = true) :
    (s.turnsBefore n).reconciles n = true := by
  rwa [(builds_turnsBefore h n).kept.reconciles]

/-- R134, R135: the claims of the tick timer and of the presence count. -/
def OfTimers (p : Payload) : Prop := p.kind = .tick ∨ p.kind = .presence

/-- R139, R129: the claim of slot `n` finds room: behind one claim for each slot before it, or because the queue is not
full in the end and no LOCK of a later slot is withdrawn. -/
def RoomAt (n : Slot) (s t : State) : Prop :=
  s.claim.queue.length + n.val < 8
    ∨ t.claim.queue.length < 8 ∧ ∀ m : Slot, n < m → s.boundState m = some .absent → s.table.slots[m].isLightable = false

/-- R134, R135: claims of `P` are built, and nothing leaves the queue. -/
structure EndsAs (P : Payload → Prop) (u t : State) : Prop where
  builds : Builds P (fun _ => False) u t
  length : u.claim.queue.length ≤ t.claim.queue.length

section Ends

variable (h : s.claim.Numbered) (ht : EndsAs OfTimers s.turned t)
include h ht

theorem room_at_turn (hr : RoomAt n s t) :
    (s.turnsBefore n).claim.queue.length < 8 ∨ ((s.turnsBefore n).reconcile n).claim.queue.length < 8 := by
  have hb := builds_turnsBefore h n
  rcases hr with hlt | ⟨hlt, hno⟩
  · have hle := length_turns_le ((indices 8).take n) h
    rw [List.length_take] at hle
    exact .inl (by unfold State.turnsBefore; omega)
  · have hk := hb.kept.trans (kept_reconcile (s.turnsBefore n) n)
    have hle : ((s.turnsBefore n).reconcile n).claim.queue.length ≤ s.turned.claim.queue.length := by
      rw [turned_eq s n]
      refine length_le_turns _ (numbered_turn h n) fun m hm => ?_
      rw [hk.boundState, hk.table]
      exact hno m (lt_of_mem_drop n m hm)
    exact .inr ((hle.trans ht.length).trans_lt hlt)

/-- A claim of slot `n` that stands behind its turn stands in the end. -/
theorem stands_behind_turn {p : Payload} (hp : OfSlot n p)
    (hc : ∃ c ∈ ((s.turnsBefore n).reconcile n).claim.queue, c.payload = p) : ∃ c ∈ t.claim.queue, c.payload = p := by
  obtain ⟨c, hm, rfl⟩ := hc
  refine ⟨c, ?_, rfl⟩
  rcases (builds_turnsBehind h n).left c hm with hm | ⟨m, hlt, hl⟩
  · exact (ht.builds.left c hm).resolve_right id
  · exact absurd hl (hp.stays (Fin.ne_of_gt hlt))

variable (hr : s.reconciles n = true)
include hr

theorem lock_stands (hf : s.FreeMember) (hp : s.boundState n = some .present) (hl : s.table.slots[n].isLightable = true)
    (hj : t.claim.reject[n] = false) (hroom : RoomAt n s t) : ∃ c ∈ t.claim.queue, c.payload = .lock n := by
  have hb := builds_turnsBefore h n
  have hna : s.boundState n ≠ some .absent := by rw [hp]; decide
  have hj0 : (s.turnsBefore n).claim.reject[n] = false := by
    rw [hb.stands n hna, ← (builds_turned h).stands n hna, ← hj]
    exact (ht.builds.stands n (by rwa [(builds_turned h).kept.boundState])).symm
  refine stands_behind_turn h ht (.inl rfl) (turn_lock hb.numbered ?_ (hf.kept hb.kept) ?_ ?_ hj0 (room_at_turn h ht hroom))
  · exact turnsBefore_reconciles h hr
  · rw [hb.kept.boundState, hp]
  · rw [hb.kept.table, hl]

theorem lost_stands (hf : s.FreeMember) (ha : s.boundState n = some .absent) (hl : s.table.slots[n].isHeld = true)
    (hroom : RoomAt n s t) : ∃ c ∈ t.claim.queue, c.payload = .lost n := by
  have hb := builds_turnsBefore h n
  refine stands_behind_turn h ht (.inr (.inl rfl))
    (turn_lost hb.numbered ?_ (hf.kept hb.kept) ?_ ?_ (room_at_turn h ht hroom))
  · exact turnsBefore_reconciles h hr
  · rw [hb.kept.boundState, ha]
  · rw [hb.kept.table, hl]

theorem released_stands (hf : s.FreeMember) (ha : s.boundState n = some .absent)
    (hl : s.table.slots[n].isLeaving = true) (hroom : RoomAt n s t) : ∃ c ∈ t.claim.queue, c.payload = .released n := by
  have hb := builds_turnsBefore h n
  refine stands_behind_turn h ht (.inr (.inr rfl))
    (turn_released hb.numbered ?_ (hf.kept hb.kept) ?_ ?_ (room_at_turn h ht hroom))
  · exact turnsBefore_reconciles h hr
  · rw [hb.kept.boundState, ha]
  · rw [hb.kept.table, hl]

theorem latch_cleared (ha : s.boundState n = some .absent) : t.claim.reject[n] = false := by
  have hb := builds_turnsBefore h n
  have hturn : ((s.turnsBefore n).reconcile n).claim.reject[n] = false :=
    turn_latch (turnsBefore_reconciles h hr) (by rw [hb.kept.boundState, ha])
  refine Bool.eq_false_iff.2 fun hj => ?_
  have := (builds_turnsBehind h n).falls n (ht.builds.falls n hj)
  rw [hturn] at this
  cases this

theorem bounce_stands (hp : s.boundState n = some .present) (hl : s.table.slots[n].isLightable = true)
    (hj : t.claim.reject[n] = true) : t.drv.bounce[n] = true := by
  have hb := builds_turnsBefore h n
  have hj0 : (s.turnsBefore n).claim.reject[n] = true := by
    rw [hb.stands n (by rw [hp]; decide)]
    exact (builds_turned h).falls n (ht.builds.falls n hj)
  refine ht.builds.bounce n ((builds_turnsBehind h n).bounce n (turn_bounce (turnsBefore_reconciles h hr) ?_ ?_ hj0))
  · rw [hb.kept.boundState, hp]
  · rw [hb.kept.table, hl]

theorem lock_withdrawn (ha : s.boundState n = some .absent) (hl : s.table.slots[n].isLightable = true) :
    ∀ c ∈ t.claim.queue, c.payload = .lock n → c.state ≠ .waiting := by
  have hb := builds_turnsBefore h n
  have hturn := turn_withdraws (turnsBefore_reconciles h hr) (by rw [hb.kept.boundState, ha])
    (by rw [hb.kept.table, hl])
  intro c hc hp
  rcases ht.builds.joined c hc with hm | ⟨-, hk | hk⟩
  · rcases (builds_turnsBehind h n).joined c hm with hm | ⟨-, m, hlt, ho⟩
    · exact hturn c hm hp
    · rw [hp] at ho
      rcases ho with he | he | he
      · exact absurd (Payload.lock.inj he) (Fin.ne_of_lt hlt)
      · cases he
      · cases he
  · rw [hp] at hk
    cases hk
  · rw [hp] at hk
    cases hk

end Ends

end Rounds

section Timers

variable {s : State}

theorem tickClaimReady_iff : s.tickClaimReady = true ↔
    s.claim.tickTimer = .expired ∧ s.ctl.state = .member ∧ s.hasClaim Payload.isTick = false
      ∧ s.claim.queue.length < 8 := by
  unfold State.tickClaimReady
  simp [Config.claimCapacity, and_assoc]

theorem presenceClaimReady_iff : s.presenceClaimReady = true ↔
    s.claim.presence = 10 ∧ s.ctl.state = .member ∧ s.hasClaim Payload.isPresence = false
      ∧ s.claim.queue.length < 8 := by
  unfold State.presenceClaimReady
  simp [Config.claimCapacity, Config.presenceMax, and_assoc]

/-- R134, R135: a claim of a timer is built with room alone, so that no claim gives way to it. -/
theorem endsAs_build (h : s.claim.Numbered) {p : Payload} (o : Origin) (hp : p ≠ .launched)
    (hl : s.claim.queue.length < 8) : EndsAs (· = p) s (s.build p o) := by
  refine ⟨?_, (length_build h p o).1⟩
  unfold State.build State.enterClaim
  rw [if_pos (show s.claim.queue.length < Config.claimCapacity from hl)]
  exact Builds.ite (fun _ => builds_addClaim h o hp) fun _ => .refl h

namespace EndsAs

variable {P Q : Payload → Prop} {t u : State}

theorem refl (h : s.claim.Numbered) : EndsAs P s s := ⟨.refl h, le_refl _⟩

theorem trans (h : EndsAs P s t) (g : EndsAs P t u) : EndsAs P s u := ⟨h.builds.trans g.builds, h.length.trans g.length⟩

theorem mono (h : EndsAs P s t) (hp : ∀ p, P p → Q p) : EndsAs Q s t := ⟨h.builds.mono hp fun _ => id, h.length⟩

theorem mem (h : EndsAs P s t) {c : Claim} (hc : c ∈ s.claim.queue) : c ∈ t.claim.queue :=
  (h.builds.left c hc).resolve_right id

end EndsAs

theorem endsAs_buildTick (h : s.claim.Numbered) : EndsAs (fun p => p.kind = .tick) s s.buildTick := by
  unfold State.buildTick
  split
  · next hr =>
    obtain ⟨-, -, -, hl⟩ := tickClaimReady_iff.1 hr
    exact (endsAs_build h _ (by exact nofun) hl).mono fun p hp => by rw [hp]; rfl
  · exact .refl h

theorem endsAs_buildPresence (h : s.claim.Numbered) : EndsAs (fun p => p.kind = .presence) s s.buildPresence := by
  unfold State.buildPresence
  split
  · split
    · next hr =>
      obtain ⟨-, -, -, hl⟩ := presenceClaimReady_iff.1 hr
      exact (endsAs_build h _ (by exact nofun) hl).mono fun p hp => by rw [hp]; rfl
    · exact .refl h
  · exact .refl h

theorem buildTick_of_ne (h : s.claim.tickTimer ≠ .expired) : s.buildTick = s :=
  if_neg fun hr => h (tickClaimReady_iff.1 hr).1

theorem kind_of_isTick {p : Payload} (h : p.isTick = true) : p.kind = .tick := by
  cases p with
  | tick => rfl
  | _ => cases h

theorem kind_of_isPresence {p : Payload} (h : p.isPresence = true) : p.kind = .presence := by
  cases p with
  | presence => rfl
  | _ => cases h

/-- R134: an EXPIRED timer has its TICK where there is room. -/
theorem tick_built (h : s.claim.Numbered) (hf : s.FreeMember) (he : s.claim.tickTimer = .expired)
    (hl : s.buildTick.claim.queue.length < 8) : ∃ c ∈ s.buildTick.claim.queue, c.payload.kind = .tick := by
  have hl0 : s.claim.queue.length < 8 := (endsAs_buildTick h).length.trans_lt hl
  cases hc : s.hasClaim Payload.isTick with
  | true =>
    obtain ⟨c, hm, hp⟩ := hasClaim_iff.1 hc
    exact ⟨c, (endsAs_buildTick h).mem hm, kind_of_isTick hp⟩
  | false =>
    have hb : s.buildTick = s.build (.tick (s.table.tick + 1#16)) .timer :=
      if_pos (tickClaimReady_iff.2 ⟨he, hf.member, hc, hl0⟩)
    rw [hb]
    obtain ⟨c, hm, hp⟩ := exists_of_build h .timer (hf.mayBuild (k := .tick) nofun) (p := .tick (s.table.tick + 1#16)) (.inl hl0)
    exact ⟨c, hm, by rw [hp]; rfl⟩

/-- R135: a full presence count has its PRESENCE where there is room. -/
theorem presence_built (h : s.claim.Numbered) (hf : s.FreeMember) (he : s.claim.presence = 10) (hh : s.eng.history ≠ [])
    (hl : s.buildPresence.claim.queue.length < 8) : ∃ c ∈ s.buildPresence.claim.queue, c.payload.kind = .presence := by
  have hl0 : s.claim.queue.length < 8 := (endsAs_buildPresence h).length.trans_lt hl
  cases hc : s.hasClaim Payload.isPresence with
  | true =>
    obtain ⟨c, hm, hp⟩ := hasClaim_iff.1 hc
    exact ⟨c, (endsAs_buildPresence h).mem hm, kind_of_isPresence hp⟩
  | false =>
    have hr : s.presenceClaimReady = true := presenceClaimReady_iff.2 ⟨he, hf.member, hc, hl0⟩
    obtain ⟨e, hlast⟩ := Option.isSome_iff_exists.1 (List.getLast?_isSome.2 hh)
    have hb : s.buildPresence = s.build (.presence (e.1.truncate 16) e.2 s.ctl.faults) .timer := by
      unfold State.buildPresence
      rw [hlast]
      exact if_pos hr
    rw [hb]
    obtain ⟨c, hm, hp⟩ := exists_of_build h .timer (hf.mayBuild (k := .presence) nofun)
      (p := .presence (e.1.truncate 16) e.2 s.ctl.faults) (.inl hl0)
    exact ⟨c, hm, by rw [hp]; rfl⟩

end Timers

end Sys2Proof.Machine

namespace Sys2Proof.Machine

/-! ### The claims behind Station Control's move (R141) -/

section Moved

variable {s : State}

theorem mem_flushedQueue_of_accepted {q : List Claim} {c : Claim} (h : c.isAccepted = true) :
    c ∈ flushedQueue q ↔ c ∈ q := by
  obtain ⟨k, hk⟩ : ∃ k, c.state = .accepted k := by
    cases hs : c.state with
    | accepted k => exact ⟨k, rfl⟩
    | _ => simp [Claim.isAccepted, hs] at h
  constructor
  · intro hm
    rcases mem_flushedQueue hm with hf | ⟨hq, -⟩
    · rw [hk] at hf
      cases hf
    · exact hq
  · intro hm
    refine List.mem_map.2 ⟨c, List.mem_filter.2 ⟨hm, by simp [Claim.isWaiting, hk]⟩, if_neg ?_⟩
    simp [Claim.isInFlight, hk]

theorem map_flushedQueue {α : Type} (g : Claim → α) (hg : ∀ (c : Claim) st, g { c with state := st } = g c) (q : List Claim) :
    (flushedQueue q).map g = (q.filter fun c => !c.isWaiting).map g := by
  unfold flushedQueue
  rw [List.map_map]
  refine List.map_congr_left fun c _ => ?_
  show g (if c.isInFlight then { c with state := .inFlight true } else c) = g c
  split
  · exact hg c _
  · rfl

theorem launchedClaims_flushedQueue (q : List Claim) : launchedClaims (flushedQueue q) ≤ launchedClaims q := by
  have hcount : ∀ l : List Claim, launchedClaims l = (l.map Claim.payload).countP (· == .launched) := fun l => by
    rw [List.countP_map]
    rfl
  rw [hcount, map_flushedQueue _ (fun _ _ => rfl), ← hcount]
  exact launchedClaims_filter_le _

theorem launchesFall_judgeTickTimer (s : State) : LaunchesFall s s.judgeTickTimer := by
  rw [judgeTickTimer_eq, judgeTickTimer_claim]
  exact .of_eq rfl rfl

theorem launchesFall_moveStation (s : State) (st : StationState) : LaunchesFall s (s.moveStation st) := by
  unfold State.moveStation
  split
  · exact .refl s
  · dsimp only
    have h1 : LaunchesFall s (if s.ctl.state = .member then s.flushClaims.setPresence 0 else s) := by
      split
      · exact (LaunchesFall.setQueue s (launchedClaims_flushedQueue _)).trans (.of_eq rfl rfl)
      · exact .refl s
    generalize (if s.ctl.state = .member then s.flushClaims.setPresence 0 else s) = s1 at h1 ⊢
    refine LaunchesFall.trans ?_ (launchesFall_judgeTickTimer _)
    refine h1.trans ?_
    repeat' split
    all_goals exact .of_eq rfl rfl

/-- R141: what a move of the station leaves of the claims: those ACCEPTED stay, the others may go. -/
structure MovedClaims (u v : ClaimUnit) : Prop where
  numbered : u.Numbered → v.Numbered
  serial   : v.serial = u.serial
  length   : v.queue.length ≤ u.queue.length
  accepted : ∀ c : Claim, c.isAccepted = true → (c ∈ v.queue ↔ c ∈ u.queue)
  reject   : v.reject = u.reject

theorem moveStation_claims_of (s : State) (st : StationState) : MovedClaims s.claim (s.moveStation st).claim := by
  by_cases h : s.ctl.state = st
  · rw [← h, moveStation_same]
    exact ⟨id, rfl, le_refl _, fun _ _ => Iff.rfl, rfl⟩
  · rw [moveStation_claim s st h]
    by_cases hm : s.ctl.state = .member
    · rw [if_pos hm]
      have hcreated : ((flushedQueue s.claim.queue).map Claim.created).Sublist (s.claim.queue.map Claim.created) := by
        rw [map_flushedQueue _ (fun _ _ => rfl)]
        exact List.filter_sublist.map _
      refine ⟨fun hn => ⟨hn.distinct.sublist hcreated, fun c hc => ?_⟩, rfl, ?_, fun c hc => mem_flushedQueue_of_accepted hc,
        rfl⟩
      · obtain ⟨d, hd, he⟩ := List.mem_map.1 (hcreated.subset (List.mem_map_of_mem hc))
        exact he ▸ hn.created d hd
      · have := hcreated.length_le
        rwa [List.length_map, List.length_map] at this
    · rw [if_neg hm]
      exact ⟨fun hn => ⟨hn.distinct, hn.created⟩, rfl, le_refl _, fun _ _ => Iff.rfl, rfl⟩

/-- R134: the tick timer as a condition that holds, or does not, judges it. -/
def judgedBy (runs : Bool) (full x : TickTimer) : TickTimer :=
  if runs then if x = .stopped then full else x else .stopped

theorem judgedBy_judgedBy {runs : Bool} {full x : TickTimer} (h : full ≠ .stopped) :
    judgedBy runs full (judgedBy runs full x) = judgedBy runs full x := by
  unfold judgedBy
  by_cases hr : runs = true
  · by_cases hx : x = .stopped <;> simp [hr, hx, h]
  · simp [hr]

theorem judgedTimer_eq (s : State) : s.judgedTimer = judgedBy s.tickTimerRuns s.fullTickTimer s.claim.tickTimer := rfl

/-- R134: the judgement in a move is that of the station in its new state. -/
theorem moveStation_judgedTimer (s : State) (st : StationState) :
    (s.moveStation st).judgedTimer =
      judgedBy (s.moveStation st).tickTimerRuns (s.moveStation st).fullTickTimer s.claim.tickTimer := by
  rw [judgedTimer_eq]
  by_cases h : s.ctl.state = st
  · rw [← h, moveStation_same]
  · have htimer : (s.moveStation st).claim.tickTimer =
        judgedBy (s.moveStation st).tickTimerRuns (s.moveStation st).fullTickTimer s.claim.tickTimer :=
      congrArg ClaimUnit.tickTimer (moveStation_claim s st h)
    rw [htimer, judgedBy_judgedBy (by exact nofun)]

/-- R135: the presence count of a MEMBER, which counts anew where it has just become one. -/
theorem moveStation_presence (s : State) :
    (s.moveStation .member).claim.presence = if s.ctl.state = .member then s.claim.presence else 0 := by
  by_cases h : s.ctl.state = .member
  · conv_lhs => rw [← h, moveStation_same]
    rw [if_pos h]
  · rw [moveStation_claim s _ h]
    dsimp only
    rw [if_pos (Or.inr rfl), if_neg h]

end Moved

/-! ### This station's own claim, the timers and the latches at a hand-off (R137, steps 1 to 4) -/

section OwnClaim

/-- The claim that has been chosen was accepted at the `m`-th count. -/
def AcceptedAt (best : Option Claim) (m : Nat) : Prop := ∃ b, best = some b ∧ b.state = .accepted m

/-- A fold that prefers an earlier acceptance ends with an acceptance as early as any. -/
theorem foldl_earliest {f : Option Claim → Claim → Option Claim}
    (hk : ∀ best c m, AcceptedAt best m → ∃ k ≤ m, AcceptedAt (f best c) k)
    (hn : ∀ best (c : Claim) j, c.state = .accepted j → ∃ k ≤ j, AcceptedAt (f best c) k) (l : List Claim)
    (best : Option Claim) :
    (∀ m, AcceptedAt best m → ∃ k ≤ m, AcceptedAt (l.foldl f best) k)
      ∧ ∀ c ∈ l, ∀ j, c.state = .accepted j → ∃ k ≤ j, AcceptedAt (l.foldl f best) k := by
  induction l generalizing best with
  | nil => exact ⟨fun m hm => ⟨m, le_refl m, hm⟩, nofun⟩
  | cons d l ih =>
    obtain ⟨ihk, ihn⟩ := ih (f best d)
    refine ⟨fun m hm => ?_, fun c hc j hj => ?_⟩
    · obtain ⟨k, hle, hd⟩ := hk best d m hm
      obtain ⟨k', hle', hd'⟩ := ihk k hd
      exact ⟨k', hle'.trans hle, hd'⟩
    · rcases List.mem_cons.1 hc with rfl | hm
      · obtain ⟨k, hle, hd⟩ := hn best c j hj
        obtain ⟨k', hle', hd'⟩ := ihk k hd
        exact ⟨k', hle'.trans hle, hd'⟩
      · exact ihn c hm j hj

variable {q : List Claim} {c : Claim}

theorem oldestAccepted_spec (h : oldestAccepted q = some c) : c ∈ q ∧ ∃ k, c.state = .accepted k := by
  refine (mem_of_foldl_choice_of (P := fun c => ∃ k, c.state = .accepted k) (fun best d b hb => ?_) q none h).resolve_left
    nofun
  split at hb
  · next n hn =>
    have hd : some d = some b → best = some b ∨ b = d ∧ ∃ k, d.state = .accepted k := fun he =>
      .inr ⟨(Option.some.inj he).symm, n, hn⟩
    split at hb
    · exact hd hb
    · split at hb
      · split at hb
        · exact hd hb
        · exact .inl hb
      all_goals exact hd hb
  all_goals exact .inl hb

theorem oldestAccepted_earliest {j : Nat} (hc : c ∈ q) (hj : c.state = .accepted j) :
    ∃ k ≤ j, AcceptedAt (oldestAccepted q) k := by
  refine (foldl_earliest (fun best d m hb => ?_) (fun best d j hd => ?_) q none).2 c hc j hj
  · obtain ⟨b, rfl, hb⟩ := hb
    cases hd : d.state with
    | accepted n =>
      dsimp only
      rw [hb]
      dsimp only
      split
      · next hlt => exact ⟨n, hlt.le, d, rfl, hd⟩
      · exact ⟨m, le_refl m, b, rfl, hb⟩
    | _ => exact ⟨m, le_refl m, b, rfl, hb⟩
  · rw [hd]
    dsimp only
    split
    · exact ⟨j, le_refl j, d, rfl, hd⟩
    · next b =>
      split
      · next m hm =>
        split
        · exact ⟨j, le_refl j, d, rfl, hd⟩
        · next hle => exact ⟨m, Nat.not_lt.1 hle, b, rfl, hm⟩
      all_goals exact ⟨j, le_refl j, d, rfl, hd⟩

/-- R137: the ACCEPTED claim before all others is the oldest. -/
theorem oldestAccepted_eq (hn : (q.map Claim.created).Nodup) {k : Nat} (hc : c ∈ q) (hk : c.state = .accepted k)
    (hfirst : ∀ d ∈ q, ∀ j, d.state = .accepted j → d.created = c.created ∨ k < j) : oldestAccepted q = some c := by
  obtain ⟨m, hle, b, hb, hbm⟩ := oldestAccepted_earliest hc hk
  have hbq := (oldestAccepted_spec hb).1
  rcases hfirst b hbq m hbm with he | hlt
  · rw [hb, eq_of_created hn hbq hc he]
  · omega

end OwnClaim

section Answered

variable (s : State) (f : Frame) (o : AppOutcome)

/-- R137, steps 1 to 4: the Claim Unit at a hand-off before it reconciles. -/
def State.answered : State := ((s.takeOwnClaim f o).ticksAfter f o).presenceAfter f o

theorem latchRefused_claim (p : Payload) :
    (s.latchRefused p o).claim = { s.claim with reject := (s.latchRefused p o).claim.reject } := by
  unfold State.latchRefused
  split <;> rfl

theorem latchRefused_drv (p : Payload) : (s.latchRefused p o).drv = s.drv := by
  unfold State.latchRefused
  split <;> rfl

theorem latchRefused_lock (n : Slot) (r : Reason) : (s.latchRefused (.lock n) (.refused r)).claim.reject[n] = true := by
  show (s.setLatch n true).claim.reject[n] = true
  rw [setLatch_reject, if_pos rfl]

theorem latchRefused_reject {p : Payload} {n : Slot} (h : (s.latchRefused p o).claim.reject[n] = true) :
    s.claim.reject[n] = true ∨ p = .lock n ∧ ∃ r, o = .refused r := by
  unfold State.latchRefused at h
  split at h
  · next m r =>
    rw [setLatch_reject] at h
    split at h
    · next he => exact .inr ⟨by rw [he], r, rfl⟩
    · exact .inl h
  · exact .inl h

theorem takeOwnClaim_of_other (h : f.sender ≠ s.ctl.station) : s.takeOwnClaim f o = s := if_neg h

theorem takeOwnClaim_of_own {c : Claim} (h : f.sender = s.ctl.station) (hc : oldestAccepted s.claim.queue = some c) :
    s.takeOwnClaim f o = (s.setQueue (removeClaim c s.claim.queue)).latchRefused c.payload o := by
  unfold State.takeOwnClaim
  rw [if_pos h, hc]

/-- R137: this station's own claim is taken, or nothing is. -/
theorem takeOwnClaim_cases :
    s.takeOwnClaim f o = s
      ∨ ∃ c, f.sender = s.ctl.station ∧ oldestAccepted s.claim.queue = some c
        ∧ s.takeOwnClaim f o = (s.setQueue (removeClaim c s.claim.queue)).latchRefused c.payload o := by
  by_cases h : f.sender = s.ctl.station
  · cases hc : oldestAccepted s.claim.queue with
    | none =>
      refine .inl ?_
      unfold State.takeOwnClaim
      rw [if_pos h, hc]
    | some c => exact .inr ⟨c, h, rfl, takeOwnClaim_of_own s f o h hc⟩
  · exact .inl (takeOwnClaim_of_other s f o h)

theorem takeOwnClaim_claim :
    ∃ q v, q.Sublist s.claim.queue ∧ (s.takeOwnClaim f o).claim = { s.claim with queue := q, reject := v } := by
  rcases takeOwnClaim_cases s f o with h | ⟨c, -, -, h⟩
  · rw [h]
    exact ⟨_, _, .refl _, rfl⟩
  · rw [h, latchRefused_claim]
    exact ⟨removeClaim c s.claim.queue, _, List.filter_sublist, rfl⟩

theorem launchesFall_takeOwnClaim : LaunchesFall s (s.takeOwnClaim f o) := by
  rcases takeOwnClaim_cases s f o with h | ⟨c, -, -, h⟩
  · rw [h]
    exact .refl s
  · rw [h]
    refine (launchesFall_filter s fun d => d.created != c.created).trans (.of_eq ?_ ?_)
    · rw [latchRefused_claim]
      rfl
    · rw [latchRefused_drv]
      rfl

/-- R137, step 4: the tick timer behind an applied TICK. -/
def State.restartedTimer : TickTimer := if s.tickTimerRuns then s.fullTickTimer else .stopped

theorem restartTickTimer_claim : s.restartTickTimer.claim = { s.claim with tickTimer := s.restartedTimer } := by
  unfold State.restartTickTimer State.restartedTimer
  split <;> rfl

theorem restartTickTimer_drv : s.restartTickTimer.drv = s.drv := by
  unfold State.restartTickTimer
  split <;> rfl

/-- R134: the frame is a TICK that has been applied. -/
abbrev Ticked : Prop := f.payload.kind = .tick ∧ o = .applied

variable {f o} in
theorem Ticked.payload (h : Ticked f o) : ∃ number, f.payload = .tick number := by
  obtain ⟨hk, -⟩ := h
  cases hp : f.payload with
  | tick number => exact ⟨number, rfl⟩
  | _ => rw [hp] at hk; cases hk

theorem ticksAfter_ticked {number : Word16} (hp : f.payload = .tick number) :
    s.ticksAfter f .applied = (s.setQueue (s.claim.queue.filter fun c => !staleTick number c)).restartTickTimer := by
  unfold State.ticksAfter
  rw [hp]

theorem ticksAfter_of_not_ticked (h : ¬Ticked f o) : s.ticksAfter f o = s.judgeTickTimer := by
  unfold State.ticksAfter
  split
  · next hp => exact absurd ⟨by rw [hp]; rfl, rfl⟩ h
  · rfl

theorem ticksAfter_timer_of_ticked (h : Ticked f o) : (s.ticksAfter f o).claim.tickTimer = s.restartedTimer := by
  obtain ⟨number, hp⟩ := h.payload
  rw [h.2, ticksAfter_ticked s f hp, restartTickTimer_claim]
  rfl

theorem ticksAfter_timer_of_not_ticked (h : ¬Ticked f o) : (s.ticksAfter f o).claim.tickTimer = s.judgedTimer := by
  rw [ticksAfter_of_not_ticked s f o h, judgeTickTimer_claim]

/-- What the steps for TICKs leave of the claims. -/
theorem ticksAfter_claim :
    ∃ p : Claim → Bool, (∀ c, c.isWaiting = false → p c = true)
      ∧ (s.ticksAfter f o).claim =
        { s.claim with queue := s.claim.queue.filter p, tickTimer := (s.ticksAfter f o).claim.tickTimer } := by
  by_cases h : Ticked f o
  · obtain ⟨number, hp⟩ := h.payload
    rw [h.2, ticksAfter_ticked s f hp, restartTickTimer_claim]
    refine ⟨fun c => !staleTick number c, fun c hc => ?_, rfl⟩
    show (!staleTick number c) = true
    unfold staleTick
    split
    · rw [hc]
      rfl
    · rfl
  · rw [ticksAfter_of_not_ticked s f o h, judgeTickTimer_claim]
    exact ⟨fun _ => true, fun _ _ => rfl, by rw [List.filter_true]⟩

theorem launchesFall_ticksAfter : LaunchesFall s (s.ticksAfter f o) := by
  by_cases h : Ticked f o
  · obtain ⟨number, hp⟩ := h.payload
    rw [h.2, ticksAfter_ticked s f hp]
    refine (launchesFall_filter s fun c => !staleTick number c).trans (.of_eq ?_ ?_)
    · rw [restartTickTimer_claim]
    · rw [restartTickTimer_drv]
  · rw [ticksAfter_of_not_ticked s f o h]
    exact launchesFall_judgeTickTimer s

/-- R137, step 3: no stale TICK waits behind an applied one. -/
theorem ticksAfter_stale {number k : Word16} (hp : f.payload = .tick number) {c : Claim}
    (hc : c ∈ (s.ticksAfter f .applied).claim.queue) (hw : c.state = .waiting) (hk : c.payload = .tick k) :
    32768 ≤ (number - k).toNat := by
  rw [ticksAfter_ticked s f hp, restartTickTimer_claim] at hc
  have hs := (List.mem_filter.1 hc).2
  unfold staleTick at hs
  rw [hk] at hs
  simpa [Claim.isWaiting, hw] using hs

theorem presenceAfter_claim :
    (s.presenceAfter f o).claim = { s.claim with presence := (s.presenceAfter f o).claim.presence } := by
  unfold State.presenceAfter
  repeat' split
  all_goals rfl

theorem presenceAfter_drv : (s.presenceAfter f o).drv = s.drv := by
  unfold State.presenceAfter
  repeat' split
  all_goals rfl

theorem isTick_iff {p : Payload} : p.isTick = true ↔ p.kind = .tick := by
  cases p with
  | tick => exact ⟨fun _ => rfl, fun _ => rfl⟩
  | _ => exact ⟨nofun, nofun⟩

theorem presenceAfter_presence (h : s.ctl.state = .member) :
    (s.presenceAfter f o).claim.presence =
      if f.sender = s.ctl.station then 0
      else if Ticked f o then min 10 (s.claim.presence + 1) else s.claim.presence := by
  unfold State.presenceAfter
  rw [if_pos h]
  by_cases hs : f.sender = s.ctl.station
  · rw [if_pos hs, if_pos hs]
    rfl
  · rw [if_neg hs, if_neg hs]
    by_cases ht : Ticked f o
    · rw [if_pos ht, if_pos ⟨isTick_iff.2 ht.1, ht.2⟩]
      rfl
    · rw [if_neg ht, if_neg fun hc => ht ⟨isTick_iff.1 hc.1, hc.2⟩]

theorem kept_answered : Kept s (s.answered f o) :=
  ((kept_takeOwnClaim s f o).trans (kept_ticksAfter _ f o)).trans (kept_presenceAfter _ f o)

theorem launchesFall_answered : LaunchesFall s (s.answered f o) := by
  refine ((launchesFall_takeOwnClaim s f o).trans (launchesFall_ticksAfter _ f o)).trans (.of_eq ?_ ?_)
  · unfold State.answered
    rw [presenceAfter_claim]
  · unfold State.answered
    rw [presenceAfter_drv]

/-- The claims of the answered state beside the queue of the state in which this station's own claim has been taken. -/
theorem answered_claim :
    ∃ p : Claim → Bool, (∀ c, c.isWaiting = false → p c = true)
      ∧ (s.answered f o).claim.queue = (s.takeOwnClaim f o).claim.queue.filter p
      ∧ (s.answered f o).claim.serial = s.claim.serial
      ∧ (s.answered f o).claim.reject = (s.takeOwnClaim f o).claim.reject := by
  obtain ⟨p, hp, hq⟩ := ticksAfter_claim (s.takeOwnClaim f o) f o
  obtain ⟨q, v, -, ho⟩ := takeOwnClaim_claim s f o
  unfold State.answered
  refine ⟨p, hp, ?_, ?_, ?_⟩
  · rw [presenceAfter_claim, hq]
  · rw [presenceAfter_claim, hq, ho]
  · rw [presenceAfter_claim, hq]

theorem answered_sublist : (s.answered f o).claim.queue.Sublist s.claim.queue := by
  obtain ⟨p, -, hq, -, -⟩ := answered_claim s f o
  obtain ⟨q, v, hs, ho⟩ := takeOwnClaim_claim s f o
  rw [hq, ho]
  exact List.filter_sublist.trans hs

theorem answered_serial : (s.answered f o).claim.serial = s.claim.serial := by
  obtain ⟨p, -, -, hs, -⟩ := answered_claim s f o
  exact hs

theorem answered_reject : (s.answered f o).claim.reject = (s.takeOwnClaim f o).claim.reject := by
  obtain ⟨p, -, -, -, hr⟩ := answered_claim s f o
  exact hr

theorem mem_answered {c : Claim} (h : c ∈ (s.takeOwnClaim f o).claim.queue) (ha : c.isWaiting = false) :
    c ∈ (s.answered f o).claim.queue := by
  obtain ⟨p, hp, hq, -, -⟩ := answered_claim s f o
  rw [hq]
  exact List.mem_filter.2 ⟨h, hp c ha⟩

theorem mem_takeOwnClaim_of_mem_answered {c : Claim} (h : c ∈ (s.answered f o).claim.queue) :
    c ∈ (s.takeOwnClaim f o).claim.queue := by
  obtain ⟨p, -, hq, -, -⟩ := answered_claim s f o
  rw [hq] at h
  exact List.mem_of_mem_filter h

theorem answered_numbered (h : s.claim.Numbered) : (s.answered f o).claim.Numbered :=
  h.sublist (answered_sublist s f o) (answered_serial s f o)

theorem answered_timer :
    (s.answered f o).claim.tickTimer = ((s.takeOwnClaim f o).ticksAfter f o).claim.tickTimer := by
  unfold State.answered
  rw [presenceAfter_claim]

theorem Kept.tickTimerRuns {s t : State} (h : Kept s t) : t.tickTimerRuns = s.tickTimerRuns := by
  unfold State.tickTimerRuns
  rw [h.state, h.listener, h.bus, h.isValid, h.table]

theorem Kept.fullTickTimer {s t : State} (h : Kept s t) : t.fullTickTimer = s.fullTickTimer := by
  unfold State.fullTickTimer
  rw [h.now, h.station]

/-- R134: the tick timer behind a hand-off. -/
theorem answered_timer_eq :
    (s.answered f o).claim.tickTimer = if Ticked f o then s.restartedTimer else s.judgedTimer := by
  have hk := kept_takeOwnClaim s f o
  obtain ⟨q, v, -, ho⟩ := takeOwnClaim_claim s f o
  rw [answered_timer]
  split
  · next h =>
    rw [ticksAfter_timer_of_ticked _ f o h]
    unfold State.restartedTimer
    rw [hk.tickTimerRuns, hk.fullTickTimer]
  · next h =>
    rw [ticksAfter_timer_of_not_ticked _ f o h]
    unfold State.judgedTimer
    rw [hk.tickTimerRuns, hk.fullTickTimer, ho]

theorem answered_presence (h : s.ctl.state = .member) :
    (s.answered f o).claim.presence =
      if f.sender = s.ctl.station then 0
      else if Ticked f o then min 10 (s.claim.presence + 1) else s.claim.presence := by
  have hk := (kept_takeOwnClaim s f o).trans (kept_ticksAfter _ f o)
  obtain ⟨q, v, -, ho⟩ := takeOwnClaim_claim s f o
  obtain ⟨p, -, ht⟩ := ticksAfter_claim (s.takeOwnClaim f o) f o
  unfold State.answered
  rw [presenceAfter_presence _ f o (by rw [hk.state]; exact h), hk.station, ht, ho]

/-- R137, step 3. -/
theorem answered_stale {number k : Word16} (hp : f.payload = .tick number) {c : Claim}
    (hc : c ∈ (s.answered f .applied).claim.queue) (hw : c.state = .waiting) (hk : c.payload = .tick k) :
    32768 ≤ (number - k).toNat := by
  unfold State.answered at hc
  rw [presenceAfter_claim] at hc
  exact ticksAfter_stale _ f hp hc hw hk

end Answered

end Sys2Proof.Machine

namespace Sys2Proof.Machine

/-! ### The duties behind a hand-off (R166, R170) -/

section Duties

/-- The kind of a slot's eject duty, if it has one. -/
def DriverUnit.ejectKind (d : DriverUnit) (n : Slot) : Option EjectKind := d.ejects[n].map EjectDuty.kind

/-- The launches unapplied, the requests for a BOUNCE and the kinds of the eject duties are as they were. -/
structure KindsStand (s t : State) : Prop where
  launches : t.drv.serve.launches = s.drv.serve.launches
  bounce   : t.drv.bounce = s.drv.bounce
  kinds    : ∀ n : Slot, t.drv.ejectKind n = s.drv.ejectKind n

namespace KindsStand

theorem refl (s : State) : KindsStand s s := ⟨rfl, rfl, fun _ => rfl⟩

theorem trans {s t u : State} (h : KindsStand s t) (g : KindsStand t u) : KindsStand s u :=
  ⟨g.launches.trans h.launches, g.bounce.trans h.bounce, fun n => (g.kinds n).trans (h.kinds n)⟩

theorem ite {s t u : State} {p : Prop} [Decidable p] (h : KindsStand s t) (g : KindsStand s u) :
    KindsStand s (if p then t else u) := by
  split <;> assumption

theorem foldl {α : Type} {f : State → α → State} (hf : ∀ s a, KindsStand s (f s a)) (l : List α) (s : State) :
    KindsStand s (l.foldl f s) := by
  induction l generalizing s with
  | nil => exact refl s
  | cons a l ih => exact (hf s a).trans (ih (f s a))

end KindsStand

/-- The duties of the eject records are changed, their kinds left as they are. -/
theorem ejectKind_vmap {d e : DriverUnit} {g : Slot → Option EjectDuty → Option EjectDuty}
    (he : e.ejects = vmap g d.ejects) (n : Slot) :
    e.ejectKind n = (g n d.ejects[n]).map EjectDuty.kind := by
  unfold DriverUnit.ejectKind
  rw [he, vmap_get_fin]

variable (s : State)

theorem stand_updEject (n : Slot) {f : EjectDuty → EjectDuty} (hf : ∀ x, (f x).kind = x.kind) :
    KindsStand s (s.updDrv fun d => d.updEject n f) := by
  refine ⟨rfl, rfl, fun k =>
    (ejectKind_vmap (d := s.drv) (g := fun k y => if k = n then y.map f else y) rfl k).trans ?_⟩
  split
  · rw [Option.map_map]
    exact congrArg (s.drv.ejects[k].map ·) (funext hf)
  · rfl

theorem setEject_kind (n m : Slot) (x : Option EjectDuty) :
    (s.updDrv fun d => d.setEject n x).drv.ejectKind m =
      if m = n then x.map EjectDuty.kind else s.drv.ejectKind m := by
  rw [ejectKind_vmap (d := s.drv) (g := fun k y => if k = n then x else y) rfl m]
  unfold DriverUnit.ejectKind
  split <;> rfl

theorem stand_updServe {f : ServeRecord → ServeRecord} (hf : ∀ v, (f v).launches = v.launches) :
    KindsStand s (s.updDrv fun d => d.updServe f) := ⟨hf _, rfl, fun _ => rfl⟩

theorem stand_setScoop (n : Switch) (x : Option ScoopDuty) : KindsStand s (s.updDrv fun d => d.setScoop n x) :=
  ⟨rfl, rfl, fun _ => rfl⟩

theorem stand_dropRequest (id : DutyId) : KindsStand s (s.updDrv fun d => d.dropRequest id) := ⟨rfl, rfl, fun _ => rfl⟩

theorem stand_updOutput (o : Output) (f : OutputRecord → OutputRecord) :
    KindsStand s (s.updDrv fun d => d.updOutput o f) := ⟨rfl, rfl, fun _ => rfl⟩

theorem stand_leaveRecycle (o : Output) : KindsStand s (s.leaveRecycle o) := by
  refine ⟨?_, rfl, fun n => ?_⟩
  · show (if s.cfg.serveOutput = some o then { s.drv.serve with await := false } else s.drv.serve).launches = _
    split <;> rfl
  · refine (ejectKind_vmap (d := s.drv)
      (g := fun n x => if s.cfg.ejectOutput n = some o then x.map ejectAfterRecycle else x) rfl n).trans ?_
    split
    · rw [Option.map_map]
      rfl
    · rfl

theorem stand_enterRecycle (o : Output) : KindsStand s (s.enterRecycle o) :=
  KindsStand.ite (stand_leaveRecycle s o) (stand_updOutput s o _)

theorem stand_closeAttempt (o : Output) : KindsStand s (s.closeAttempt o) :=
  KindsStand.ite (stand_enterRecycle s o) (stand_updOutput s o _)

theorem stand_endDuty (id : DutyId) : KindsStand s (s.endDuty id) :=
  (stand_dropRequest s id).trans
    (KindsStand.foldl (fun t o => KindsStand.ite (stand_closeAttempt t o) (.refl t)) _ _)

theorem stand_cancelScoop (n : Switch) : KindsStand s (s.cancelScoop n) := by
  unfold State.cancelScoop
  split
  · exact KindsStand.ite ((stand_endDuty s _).trans (stand_setScoop _ n _)) (.refl s)
  · exact .refl s

theorem stand_cancelScoops : KindsStand s s.cancelScoops := KindsStand.foldl stand_cancelScoop _ s

theorem stand_tendEject (n : Slot) : KindsStand s (s.tendEject n) := by
  have h0 := KindsStand.ite (p := s.boundState n = some .present) (.refl s) (stand_dropRequest s (.eject n))
  unfold State.tendEject
  split
  · dsimp only
    split
    · exact h0.trans (stand_updEject _ n fun _ => rfl)
    · exact KindsStand.ite (h0.trans (stand_updEject _ n fun _ => rfl)) h0
  · exact .refl s

theorem stand_askEject (n : Slot) : KindsStand s (s.askEject n) := by
  unfold State.askEject
  split
  · next o _ _ =>
    refine KindsStand.ite ?_ (.refl s)
    have h1 : KindsStand s (s.updDrv fun d => d.enterRequest o (.eject n)) := ⟨rfl, rfl, fun _ => rfl⟩
    exact h1.trans (stand_updEject _ n fun _ => rfl)
  · exact .refl s

theorem stand_askServe : KindsStand s s.askServe := by
  unfold State.askServe
  split
  · exact .refl s
  · exact KindsStand.ite ⟨rfl, rfl, fun _ => rfl⟩ (.refl s)

theorem stand_askScoop (n : Switch) : KindsStand s (s.askScoop n) := by
  unfold State.askScoop
  split
  · exact KindsStand.ite ⟨rfl, rfl, fun _ => rfl⟩ (.refl s)
  · exact .refl s

theorem grant_stand (d : DriverUnit) (c : StationConfig) (now : Nat) (r : Request) :
    (d.grant c now r).serve = d.serve ∧ (d.grant c now r).bounce = d.bounce ∧ (d.grant c now r).ejects = d.ejects := by
  unfold DriverUnit.grant
  dsimp only
  split <;> exact ⟨rfl, rfl, rfl⟩

/-- R165: the arbiter grants pulses, and leaves the duties. -/
theorem walk_stand (c : StationConfig) (now : Nat) (rest kept : List Request) (d : DriverUnit) :
    (DriverUnit.walk c now kept rest d).serve = d.serve ∧ (DriverUnit.walk c now kept rest d).bounce = d.bounce
      ∧ (DriverUnit.walk c now kept rest d).ejects = d.ejects := by
  induction rest generalizing kept d with
  | nil => exact ⟨rfl, rfl, rfl⟩
  | cons r rest ih =>
    unfold DriverUnit.walk
    split
    · obtain ⟨hs, hb, he⟩ := ih kept (d.grant c now r)
      obtain ⟨gs, gb, ge⟩ := grant_stand d c now r
      exact ⟨hs.trans gs, hb.trans gb, he.trans ge⟩
    · exact ih _ d

theorem stand_arbiter : KindsStand s s.arbiter := by
  obtain ⟨h1, h2, h3⟩ := walk_stand s.cfg s.now s.drv.requests [] s.drv
  refine ⟨congrArg ServeRecord.launches h1, h2, fun n => ?_⟩
  unfold DriverUnit.ejectKind
  rw [show s.arbiter.drv.ejects = s.drv.ejects from h3]

theorem stand_refreshLamps : KindsStand s s.refreshLamps := ⟨rfl, rfl, fun _ => rfl⟩

theorem stand_putFaults (x : Byte) : KindsStand s (s.putFaults x) := by
  rw [putFaults_eq]
  exact ⟨rfl, rfl, fun _ => rfl⟩

/-! #### Settling the duties -/

theorem settleBounce_drv (n : Slot) :
    (s.settleBounce n).drv.ejects = s.drv.ejects ∧ (s.settleBounce n).drv.serve = s.drv.serve
      ∧ ∀ m : Slot, m ≠ n ∨ s.ejectHolds n = some .bounce → (s.settleBounce n).drv.bounce[m] = s.drv.bounce[m] := by
  unfold State.settleBounce
  split
  · exact ⟨rfl, rfl, fun _ _ => rfl⟩
  · next h =>
    refine ⟨rfl, rfl, fun m hm => ?_⟩
    show (vmap _ s.drv.bounce)[m] = _
    rw [vmap_get_fin, if_neg (hm.resolve_right h)]

/-- R166: what the settling of one eject duty leaves of the Driver Unit: the slot has the duty that holds for it. -/
theorem settleEject_drv (n : Slot) :
    (s.settleEject n).drv.serve.launches = s.drv.serve.launches
      ∧ (s.settleEject n).drv.ejectKind n = s.ejectHolds n
      ∧ (∀ m : Slot, m ≠ n → (s.settleEject n).drv.ejectKind m = s.drv.ejectKind m)
      ∧ ∀ m : Slot, m ≠ n ∨ s.ejectHolds n = some .bounce → (s.settleEject n).drv.bounce[m] = s.drv.bounce[m] := by
  obtain ⟨he, hs, hb⟩ := settleBounce_drv s n
  have hk : ∀ m, (s.settleBounce n).drv.ejectKind m = s.drv.ejectKind m := fun m => by
    unfold DriverUnit.ejectKind
    rw [he]
  unfold State.settleEject
  dsimp only
  split
  · next hsame =>
    exact ⟨by rw [hs], (hk n).trans hsame, fun m _ => hk m, hb⟩
  · have hend : KindsStand (s.settleBounce n)
        (if s.drv.ejects[n].isSome then (s.settleBounce n).endDuty (.eject n) else s.settleBounce n) :=
      KindsStand.ite (stand_endDuty _ _) (.refl _)
    generalize (if s.drv.ejects[n].isSome then (s.settleBounce n).endDuty (.eject n) else s.settleBounce n) = s1 at hend ⊢
    refine ⟨hend.launches.trans (by rw [hs]), ?_, fun m hm => ?_, fun m hm => ?_⟩
    · rw [setEject_kind, if_pos rfl, Option.map_map]
      exact congrFun Option.map_id _
    · rw [setEject_kind, if_neg hm]
      exact (hend.kinds m).trans (hk m)
    · show s1.drv.bounce[m] = _
      rw [hend.bounce, hb m hm]

variable {s}

/-- R166: the duty that holds for a slot is a matter of its request for a BOUNCE and of what the Driver Unit leaves. -/
theorem ejectHolds_congr {t : State} {n : Slot} (hk : Kept s t) (hc : ClaimsKept s t)
    (hb : t.drv.bounce[n] = s.drv.bounce[n]) : t.ejectHolds n = s.ejectHolds n := by
  unfold State.ejectHolds
  rw [hk.boundState, hk.isValid, hk.table, hk.station, hc.claim, hb]

theorem ejectHolds_settleEject {n : Slot} (h : s.ejectHolds n = some .bounce) (m : Slot) :
    (s.settleEject m).ejectHolds n = some .bounce := by
  obtain ⟨-, -, -, hb⟩ := settleEject_drv s m
  rw [ejectHolds_congr (kept_settleEject s m) (claims_settleEject s m) (hb n ?_), h]
  by_cases hm : n = m
  · exact .inr (hm ▸ h)
  · exact .inl hm

/-- A BOUNCE duty that holds stands behind the settling of others, and is there behind its own. -/
theorem bounce_settled {n : Slot} (l : List Slot) (h : s.ejectHolds n = some .bounce)
    (hl : n ∈ l ∨ s.drv.ejectKind n = some .bounce) : (l.foldl State.settleEject s).drv.ejectKind n = some .bounce := by
  induction l generalizing s with
  | nil => exact hl.resolve_left nofun
  | cons m l ih =>
    obtain ⟨-, hown, hother, -⟩ := settleEject_drv s m
    refine ih (ejectHolds_settleEject h m) ?_
    by_cases hm : n = m
    · refine .inr ?_
      rw [hm, hown, ← hm, h]
    · rw [hother n hm]
      exact hl.imp_left fun hc => (List.mem_cons.1 hc).resolve_left hm

theorem launches_settled (l : List Slot) (s : State) :
    (l.foldl State.settleEject s).drv.serve.launches = s.drv.serve.launches := by
  induction l generalizing s with
  | nil => rfl
  | cons m l ih => exact (ih _).trans (settleEject_drv s m).1

/-- R166, R169: the SERVE duty is created or ended in `u`. -/
def State.serveSettled (s u : State) : State :=
  if s.serveHolds then
    let s2 := u.updDrv fun d => d.updServe fun v => { v with holds := true }
    if s.cfg.serveOutput = none then s2.setFault .drive else s2
  else if s.drv.serve.holds then
    let s2 := (u.endDuty .serve).updDrv fun d => d.updServe fun v =>
      { v with holds := false, failed := 0, retryDue := none, retryReady := false, await := false }
    if s.cfg.serveOutput = none then s2.clearFault .drive else s2
  else u

theorem stand_serveSettled (s u : State) : KindsStand u (s.serveSettled u) := by
  have h1 : KindsStand u (u.updDrv fun d => d.updServe fun v => { v with holds := true }) := stand_updServe u fun _ => rfl
  have h2 := (stand_endDuty u .serve).trans (stand_updServe _ (f := fun v =>
    { v with holds := false, failed := 0, retryDue := none, retryReady := false, await := false }) fun _ => rfl)
  exact KindsStand.ite (KindsStand.ite (h1.trans (stand_putFaults _ _)) h1)
    (KindsStand.ite (KindsStand.ite (h2.trans (stand_putFaults _ _)) h2) (.refl u))

/-- R170: the launches unapplied of a station that is not the trough member are forgotten. -/
def State.launchesJudged (s : State) : State :=
  if s.isValid && s.table.isTrough s.ctl.station then s
  else s.updDrv fun d => d.updServe fun v => { v with launches := 0 }

theorem settleServe_eq (s : State) : s.settleServe = s.serveSettled s.launchesJudged := rfl

/-- R170: the launches unapplied stand at the trough member, and are 0 at another station. -/
theorem settleServe_launches (s : State) :
    s.settleServe.drv.serve.launches =
      if s.isValid && s.table.isTrough s.ctl.station then s.drv.serve.launches else 0 := by
  rw [settleServe_eq, (stand_serveSettled s _).launches]
  unfold State.launchesJudged
  split <;> rfl

theorem settleServe_kind (s : State) (n : Slot) : s.settleServe.drv.ejectKind n = s.drv.ejectKind n := by
  rw [settleServe_eq, (stand_serveSettled s _).kinds]
  unfold State.launchesJudged
  split <;> rfl

/-- Behind the settling a derivation leaves the launches and the kinds of the duties. -/
theorem stand_derived (s : State) :
    KindsStand ((indices 8).foldl State.settleEject s).settleServe s.deriveDuties.refreshLamps := by
  have h2 := KindsStand.foldl stand_tendEject (indices 8) ((indices 8).foldl State.settleEject s).settleServe
  have h3 := (h2.trans (KindsStand.foldl stand_askEject (indices 8) _)).trans (stand_askServe _)
  exact ((h3.trans (KindsStand.foldl stand_askScoop (indices 32) _)).trans (stand_arbiter _)).trans
    (stand_refreshLamps _)

theorem derived_launches (s : State) :
    s.deriveDuties.refreshLamps.drv.serve.launches =
      if s.isValid && s.table.isTrough s.ctl.station then s.drv.serve.launches else 0 := by
  have hk := Kept.foldl kept_settleEject (indices 8) s
  rw [(stand_derived s).launches, settleServe_launches, launches_settled, hk.isValid, hk.table, hk.station]

theorem derived_bounce {n : Slot} (h : s.ejectHolds n = some .bounce) :
    s.deriveDuties.refreshLamps.drv.ejectKind n = some .bounce := by
  rw [(stand_derived s).kinds, settleServe_kind]
  exact bounce_settled _ h (.inl (mem_indices n))

theorem ejectHolds_bounce {n : Slot} (hv : s.isValid = true) (hp : s.boundState n = some .present)
    (hl : s.table.slots[n].isLightable = true) (hb : s.drv.bounce[n] = true) (hj : s.claim.reject[n] = true) :
    s.ejectHolds n = some .bounce := by
  unfold State.ejectHolds
  rw [hp]
  dsimp only
  rw [notLeaving_of_isLightable hl, if_neg (by simp), if_pos ⟨hv, hb, hj, rfl, hl⟩]

end Duties

end Sys2Proof.Machine

namespace Sys2Proof.Machine

/-! ### The Claim Unit at a hand-off, whole (R137) -/

section Claimed

variable {s : State} {f : Frame} {o : AppOutcome} {began : Bool}

/-- R137, step 6: the JOIN of a START that began a game. -/
def State.joins (s : State) (began : Bool) : State := if began then s.build s.joinPayload .rollcall else s

theorem claimHandOff_eq (s : State) (f : Frame) (o : AppOutcome) (began : Bool) :
    s.claimHandOff f o began = ((s.answered f o).turned.joins began).buildTick.buildPresence := rfl

theorem joins_of_member (h : s.ctl.state = .member) (began : Bool) : s.joins began = s := by
  have hm : s.mayBuild .join = false := by
    unfold State.mayBuild
    rw [h]
    simp
  unfold State.joins
  split
  · unfold State.build
    exact if_neg (by rw [show s.joinPayload.kind = .join from rfl, hm]; decide)
  · rfl

theorem builds_joins (h : s.claim.Numbered) (began : Bool) :
    Builds (fun p => p.kind = .join) (fun c => c.isWaiting = true) s (s.joins began) :=
  Builds.ite (fun _ => (builds_build h .rollcall (by exact nofun)).mono (fun p hp => by rw [hp]; rfl) fun _ hc => hc.1)
    fun _ => .refl h

theorem endsAs_timers (h : s.claim.Numbered) : EndsAs OfTimers s s.buildTick.buildPresence := by
  have h1 := endsAs_buildTick h
  exact (h1.mono fun _ => Or.inl).trans ((endsAs_buildPresence h1.builds.numbered).mono fun _ => Or.inr)

/-- R134: a TICK is built behind an EXPIRED timer alone. -/
theorem builds_timers (h : s.claim.Numbered) :
    Builds (fun p => p.kind = .tick → s.claim.tickTimer = .expired) (fun _ => False) s s.buildTick.buildPresence := by
  have h1 : Builds (fun p => p.kind = .tick → s.claim.tickTimer = .expired) (fun _ => False) s s.buildTick := by
    by_cases he : s.claim.tickTimer = .expired
    · exact (endsAs_buildTick h).builds.mono (fun _ _ _ => he) fun _ => id
    · rw [buildTick_of_ne he]
      exact .refl h
  refine h1.trans ((endsAs_buildPresence h1.numbered).builds.mono (fun p hp hk => ?_) fun _ => id)
  rw [hp] at hk
  cases hk

/-- R137: behind steps 1 to 4 claims are built, a TICK behind an EXPIRED timer alone, and only WAITING claims leave. -/
theorem builds_claimHandOff (h : s.claim.Numbered) (f : Frame) (o : AppOutcome) (began : Bool) :
    Builds (fun p => p.kind = .tick → (s.answered f o).claim.tickTimer = .expired) (fun c => c.isWaiting = true)
      (s.answered f o) (s.claimHandOff f o began) := by
  have h0 := answered_numbered s f o h
  have h1 := (builds_turned h0).mono
    (Q := fun p => p.kind = .tick → (s.answered f o).claim.tickTimer = .expired) (S := fun c => c.isWaiting = true)
    (fun p ⟨m, _, hp⟩ hk => by rcases hp with rfl | rfl | rfl <;> cases hk) fun c ⟨m, _, hc⟩ => hc.1
  have h2 := h1.trans ((builds_joins h1.numbered began).mono (fun p hp hk => by rw [hp] at hk; cases hk) fun _ => id)
  have h3 := builds_timers h2.numbered
  rw [h2.timer] at h3
  rw [claimHandOff_eq]
  exact h2.trans (h3.mono (fun _ => id) fun _ => False.elim)

theorem claimHandOff_of_member (h : s.claim.Numbered) (hm : s.ctl.state = .member) (f : Frame) (o : AppOutcome)
    (began : Bool) :
    s.claimHandOff f o began = (s.answered f o).turned.buildTick.buildPresence := by
  have hk := (kept_answered s f o).trans (builds_turned (answered_numbered s f o h)).kept
  rw [claimHandOff_eq, joins_of_member (by rw [hk.state, hm])]

theorem endsAs_claimHandOff (h : s.claim.Numbered) (hm : s.ctl.state = .member) (f : Frame) (o : AppOutcome)
    (began : Bool) : EndsAs OfTimers (s.answered f o).turned (s.claimHandOff f o began) := by
  rw [claimHandOff_of_member h hm]
  exact endsAs_timers (builds_turned (answered_numbered s f o h)).numbered

/-- R134, R135: with room in the end, an EXPIRED timer and a full presence count have their claims. -/
theorem timers_claimed (h : s.claim.Numbered) (hf : s.FreeMember) (hh : s.eng.history ≠ [])
    (hl : (s.claimHandOff f o began).claim.queue.length < 8) :
    ((s.claimHandOff f o began).claim.tickTimer = .expired →
        ∃ c ∈ (s.claimHandOff f o began).claim.queue, c.payload.kind = .tick)
      ∧ ((s.claimHandOff f o began).claim.presence = 10 →
        ∃ c ∈ (s.claimHandOff f o began).claim.queue, c.payload.kind = .presence) := by
  have hb := builds_turned (answered_numbered s f o h)
  have hk := (kept_answered s f o).trans hb.kept
  rw [claimHandOff_of_member h hf.member] at hl ⊢
  generalize (s.answered f o).turned = u at hb hk hl ⊢
  have ht := endsAs_buildTick hb.numbered
  have hp := endsAs_buildPresence ht.builds.numbered
  have hku := hk.trans ht.builds.kept
  refine ⟨fun he => ?_, fun he => ?_⟩
  · rw [hp.builds.timer, ht.builds.timer] at he
    obtain ⟨c, hc, hkind⟩ := tick_built hb.numbered (hf.kept hk) he (hp.length.trans_lt hl)
    exact ⟨c, hp.mem hc, hkind⟩
  · rw [hp.builds.presence] at he
    exact presence_built ht.builds.numbered (hf.kept hku) he (by rw [hku.eng]; exact hh) hl

theorem mem_claimHandOff (h : s.claim.Numbered) {c : Claim} (hc : c ∈ (s.takeOwnClaim f o).claim.queue)
    (ha : c.isAccepted = true) : c ∈ (s.claimHandOff f o began).claim.queue := by
  have hw : c.isWaiting = false := by
    cases hs : c.state with
    | waiting => simp [Claim.isAccepted, hs] at ha
    | _ => simp [Claim.isWaiting, hs]
  refine ((builds_claimHandOff h f o began).left c (mem_answered s f o hc hw)).resolve_right ?_
  rw [hw]
  decide

end Claimed

/-! ### The hand-off of a numbered queue (R18, R137) -/

section Handed

/-- R18: Station Control's part of a hand-off. -/
def State.moved (s : State) : State := s.moveStation s.stateAfter

/-- R18: the state in which the Driver Unit derives its duties at a hand-off. -/
def State.beforeDuties (s : State) (f : Frame) (o : AppOutcome) (began : Bool) (before : GameTable) : State :=
  if endsHolding before s.moved.table then (s.moved.claimHandOff f o began).cancelScoops
  else s.moved.claimHandOff f o began

variable {s : State} {f : Frame} {o : AppOutcome} {began : Bool} {before : GameTable}

theorem moved_game (s : State) : SameGame s s.moved := game_moveStation s s.stateAfter

theorem handOff_eq (s : State) (f : Frame) (o : AppOutcome) (began : Bool) (before : GameTable) :
    s.handOff f o began before = (s.beforeDuties f o began before).deriveDuties.refreshLamps := by
  have ht := (moved_game s).table
  unfold State.beforeDuties
  rw [ht]
  rfl

theorem kept_beforeDuties : Kept (s.moved.claimHandOff f o began) (s.beforeDuties f o began before) :=
  Kept.ite (kept_cancelScoops _) (.refl _)

theorem claims_beforeDuties : ClaimsKept (s.moved.claimHandOff f o began) (s.beforeDuties f o began before) :=
  ClaimsKept.ite (claims_cancelScoops _) (.refl _)

theorem stand_beforeDuties : KindsStand (s.moved.claimHandOff f o began) (s.beforeDuties f o began before) :=
  KindsStand.ite (stand_cancelScoops _) (.refl _)

theorem handOff_claimed : (s.handOff f o began before).claim = (s.moved.claimHandOff f o began).claim :=
  handOff_claim s f o began before

theorem moved_state (s : State) : s.moved.ctl.state = s.stateAfter := moveStation_state s _

theorem moved_numbered (h : s.claim.Numbered) : s.moved.claim.Numbered :=
  (moveStation_claims_of s s.stateAfter).numbered h

theorem kept_toDuties : Kept s.moved (s.beforeDuties f o began before) :=
  (kept_claimHandOff s.moved f o began).trans kept_beforeDuties

/-- R170: what the hand-off makes of the launches unapplied. -/
theorem handOff_launches (h : s.claim.Numbered) :
    (s.handOff f o began before).drv.serve.launches =
      if s.isValid && s.table.isTrough s.ctl.station then
        s.drv.serve.launches
          - (launchedIn s.claim.queue - launchedIn (s.handOff f o began before).claim.queue)
      else 0 := by
  have hk : Kept s.moved (s.beforeDuties f o began before) := kept_toDuties
  have hfall := ((launchesFall_moveStation s s.stateAfter).trans (launchesFall_answered s.moved f o)).trans
    (builds_claimHandOff (moved_numbered h) f o began).launches
  rw [launchedIn_eq, launchedIn_eq, handOff_claimed, ← hfall.unapplied, handOff_eq, derived_launches, hk.isValid, hk.table,
    hk.station, stand_beforeDuties.launches, (moved_game s).table, (moved_game s).ctl,
    show s.moved.isValid = s.isValid from moveStation_isValid s _]

/-- R140, R166: a rejected ball that is still there has its BOUNCE. -/
theorem handOff_bounce {n : Slot} (hv : s.isValid = true) (hp : s.moved.boundState n = some .present)
    (hl : s.moved.table.slots[n].isLightable = true) (hb : (s.moved.claimHandOff f o began).drv.bounce[n] = true)
    (hj : (s.handOff f o began before).claim.reject[n] = true) :
    ∃ y, (s.handOff f o began before).drv.ejects[n] = some y ∧ y.kind = .bounce := by
  have hk : Kept s.moved (s.beforeDuties f o began before) := kept_toDuties
  have hh : (s.beforeDuties f o began before).ejectHolds n = some .bounce := by
    refine ejectHolds_bounce ?_ ?_ ?_ ?_ ?_
    · rw [hk.isValid, show s.moved.isValid = s.isValid from moveStation_isValid s _, hv]
    · rw [hk.boundState, hp]
    · rw [hk.table, hl]
    · rw [stand_beforeDuties.bounce, hb]
    · rw [claims_beforeDuties.claim, ← handOff_claimed (before := before), hj]
  have hd := derived_bounce hh
  rw [← handOff_eq] at hd
  exact Option.map_eq_some_iff.1 hd

end Handed

end Sys2Proof.Machine

namespace Sys2Proof.Machine

/-! ### The hand-off, clause by clause -/

section HandOff

variable {s : State} {f : Frame} {o : AppOutcome} {began : Bool} {before : GameTable}

theorem isAccepted_of_state {c : Claim} {k : Nat} (h : c.state = .accepted k) : c.isAccepted = true := by
  unfold Claim.isAccepted
  rw [h]

theorem mem_moved {c : Claim} {k : Nat} (hc : c.state = .accepted k) :
    c ∈ s.moved.claim.queue ↔ c ∈ s.claim.queue :=
  (moveStation_claims_of s s.stateAfter).accepted c (isAccepted_of_state hc)

theorem moved_serial (s : State) : s.moved.claim.serial = s.claim.serial := (moveStation_claims_of s s.stateAfter).serial

theorem moved_reject (s : State) : s.moved.claim.reject = s.claim.reject := (moveStation_claims_of s s.stateAfter).reject

theorem SameGame.boundState {s t : State} (h : SameGame s t) (n : Slot) : t.boundState n = s.boundState n := by
  unfold State.boundState
  rw [h.cfg, h.sen]

theorem moved_station (s : State) : s.moved.ctl.station = s.ctl.station := (moved_game s).station

/-- R137: the claim accepted first is this station's own, at its own frame. -/
theorem moved_oldest (h : s.claim.Numbered) {c : Claim} {k : Nat} (hc : c ∈ s.claim.queue) (hk : c.state = .accepted k)
    (hfirst : ∀ d ∈ s.claim.queue, ∀ j, d.state = .accepted j → d.created = c.created ∨ k < j) :
    oldestAccepted s.moved.claim.queue = some c :=
  oldestAccepted_eq (moved_numbered h).distinct ((mem_moved hk).2 hc) hk fun d hd j hj => hfirst d ((mem_moved hj).1 hd) j hj

theorem moved_takeOwn (h : s.claim.Numbered) (hs : f.sender = s.ctl.station) {c : Claim} {k : Nat}
    (hc : c ∈ s.claim.queue) (hk : c.state = .accepted k)
    (hfirst : ∀ d ∈ s.claim.queue, ∀ j, d.state = .accepted j → d.created = c.created ∨ k < j) :
    s.moved.takeOwnClaim f o = (s.moved.setQueue (removeClaim c s.moved.claim.queue)).latchRefused c.payload o :=
  takeOwnClaim_of_own _ f o (hs.trans (moved_station s).symm) (moved_oldest h hc hk hfirst)

theorem moved_takeOwn_queue (h : s.claim.Numbered) (hs : f.sender = s.ctl.station) {c : Claim} {k : Nat}
    (hc : c ∈ s.claim.queue) (hk : c.state = .accepted k)
    (hfirst : ∀ d ∈ s.claim.queue, ∀ j, d.state = .accepted j → d.created = c.created ∨ k < j) :
    (s.moved.takeOwnClaim f o).claim.queue = removeClaim c s.moved.claim.queue := by
  rw [moved_takeOwn h hs hc hk hfirst, latchRefused_claim]
  rfl

/-- R137, steps 1 and 2: what becomes of this station's own claim, of the other ACCEPTED ones and of its latch. -/
theorem handOff_own (h : s.claim.Numbered) (hs : f.sender = s.ctl.station) {c : Claim} {k : Nat}
    (hc : c ∈ s.claim.queue) (hk : c.state = .accepted k)
    (hfirst : ∀ d ∈ s.claim.queue, ∀ j, d.state = .accepted j → d.created = c.created ∨ k < j) :
    (∀ d ∈ (s.handOff f o began before).claim.queue, d.created ≠ c.created)
      ∧ (∀ d ∈ s.claim.queue, ∀ j, d.state = .accepted j → d.created ≠ c.created →
        d ∈ (s.handOff f o began before).claim.queue)
      ∧ ∀ n r, c.payload = .lock n → o = .refused r → s.boundState n ≠ some .absent →
        (s.handOff f o began before).claim.reject[n] = true := by
  have hn := moved_numbered h
  have hb := builds_claimHandOff hn f o began
  have hq := moved_takeOwn_queue (o := o) h hs hc hk hfirst
  rw [handOff_claimed]
  refine ⟨fun d hd => ?_, fun d hd j hj hne => ?_, fun n r hp ho hna => ?_⟩
  · rcases hb.joined d hd with hm | ⟨hge, -⟩
    · have hm' := mem_takeOwnClaim_of_mem_answered _ f o hm
      rw [hq] at hm'
      exact (mem_removeClaim.1 hm').2
    · rw [answered_serial, moved_serial] at hge
      exact Nat.ne_of_gt ((h.created c hc).trans_le hge)
  · refine mem_claimHandOff hn ?_ (isAccepted_of_state hj)
    rw [hq]
    exact mem_removeClaim.2 ⟨(mem_moved hj).2 hd, hne⟩
  · have hbound : (s.moved.answered f o).boundState n = s.boundState n := by
      rw [(kept_answered _ f o).boundState, (moved_game s).boundState]
    rw [hb.stands n (by rwa [hbound]), answered_reject, moved_takeOwn h hs hc hk hfirst, hp, ho]
    exact latchRefused_lock _ n r

/-- R137: another station's frame leaves every ACCEPTED claim. -/
theorem handOff_other (h : s.claim.Numbered) (hs : f.sender ≠ s.ctl.station) {d : Claim} {j : Nat}
    (hd : d ∈ s.claim.queue) (hj : d.state = .accepted j) : d ∈ (s.handOff f o began before).claim.queue := by
  rw [handOff_claimed]
  refine mem_claimHandOff (moved_numbered h) ?_ (isAccepted_of_state hj)
  rw [takeOwnClaim_of_other _ f o (by rwa [moved_station])]
  exact (mem_moved hj).2 hd

/-- R140: the refusal of this station's own LOCK alone sets a latch. -/
theorem handOff_latched (h : s.claim.Numbered) {n : Slot}
    (hr : (s.handOff f o began before).claim.reject[n] = true) :
    s.claim.reject[n] = true
      ∨ f.sender = s.ctl.station ∧ (∃ r, o = .refused r)
        ∧ ∃ c ∈ s.claim.queue, ∃ j, c.state = .accepted j ∧ c.payload = .lock n := by
  rw [handOff_claimed] at hr
  have h1 := (builds_claimHandOff (moved_numbered h) f o began).falls n hr
  rw [answered_reject] at h1
  rcases takeOwnClaim_cases s.moved f o with he | ⟨c, hs, hold, he⟩
  · rw [he, moved_reject] at h1
    exact .inl h1
  · rw [he] at h1
    rcases latchRefused_reject _ o h1 with h2 | ⟨hp, hrf⟩
    · left
      rw [← moved_reject]
      exact h2
    · obtain ⟨hm, j, hj⟩ := oldestAccepted_spec hold
      exact .inr ⟨hs.trans (moved_station s), hrf, c, (mem_moved hj).1 hm, j, hj, hp⟩

theorem moved_tickTimerRuns (hvalid : s.isValid = true) : s.moved.tickTimerRuns = true ↔
    (s.stateAfter = .ready ∨ s.stateAfter = .member) ∧ ¬(s.ctl.listener = true ∨ s.bus.muted = true)
      ∧ s.table.phase ≠ .attract := by
  have hv : s.moved.isValid = s.isValid := moveStation_isValid s _
  have hb : s.moved.bus = s.bus := moveStation_bus s _
  unfold State.tickTimerRuns
  rw [moved_state, hv, hvalid, hb, (moved_game s).table, (moved_game s).ctl]
  simp only [Bool.and_eq_true, Bool.or_eq_true, beq_iff_eq, Bool.not_eq_true', bne_iff_ne, not_or, Bool.not_eq_true]
  tauto

/-- R134: the tick timer behind a hand-off. -/
theorem handOff_timer (h : s.claim.Numbered) (hv : s.isValid = true) :
    (s.handOff f o began before).claim.tickTimer =
      if (s.stateAfter = .ready ∨ s.stateAfter = .member) ∧ ¬(s.ctl.listener = true ∨ s.bus.muted = true)
          ∧ s.table.phase ≠ .attract then
        if Ticked f o ∨ s.claim.tickTimer = .stopped then s.fullTickTimer else s.claim.tickTimer
      else .stopped := by
  have hfull : s.moved.fullTickTimer = s.fullTickTimer := by
    unfold State.fullTickTimer
    rw [(moved_game s).now, moved_station]
  have hjudge : s.moved.judgedTimer = judgedBy s.moved.tickTimerRuns s.fullTickTimer s.claim.tickTimer :=
    (moveStation_judgedTimer s s.stateAfter).trans (by rw [← hfull]; rfl)
  have hruns := moved_tickTimerRuns hv
  rw [handOff_claimed, (builds_claimHandOff (moved_numbered h) f o began).timer, answered_timer_eq, hjudge]
  unfold State.restartedTimer judgedBy
  rw [hfull]
  by_cases hr : s.moved.tickTimerRuns = true
  · rw [if_pos (hruns.1 hr)]
    simp only [hr, if_true]
    by_cases ht : Ticked f o
    · rw [if_pos ht, if_pos (Or.inl ht)]
    · simp only [ht, if_false, false_or]
  · rw [if_neg (mt hruns.2 hr)]
    simp [hr]

/-- R135: the presence count of a MEMBER behind a hand-off. -/
theorem handOff_presence (h : s.claim.Numbered) (hm : s.stateAfter = .member) :
    (s.handOff f o began before).claim.presence =
      if f.sender = s.ctl.station then 0
      else if Ticked f o then min 10 ((if s.ctl.state = .member then s.claim.presence else 0) + 1)
      else if s.ctl.state = .member then s.claim.presence else 0 := by
  have hp : s.moved.claim.presence = if s.ctl.state = .member then s.claim.presence else 0 := by
    rw [← moveStation_presence s, ← hm]
    rfl
  rw [handOff_claimed, (builds_claimHandOff (moved_numbered h) f o began).presence,
    answered_presence _ f o ((moved_state s).trans hm), moved_station, hp]

/-- R137, step 3: no WAITING TICK is stale behind an applied one. -/
theorem handOff_stale (h : s.claim.Numbered) {number k : Word16} (hp : f.payload = .tick number) (ht : Ticked f o)
    {d : Claim} (hd : d ∈ (s.handOff f o began before).claim.queue) (hw : d.state = .waiting) (hk : d.payload = .tick k) :
    32768 ≤ (number - k).toNat := by
  rw [handOff_claimed] at hd
  have hne : (s.moved.answered f o).claim.tickTimer ≠ .expired := by
    rw [answered_timer_eq, if_pos ht]
    unfold State.restartedTimer State.fullTickTimer
    split <;> nofun
  rcases (builds_claimHandOff (moved_numbered h) f o began).joined d hd with hm | ⟨-, hx⟩
  · rw [ht.2] at hm
    exact answered_stale _ f hp hm hw hk
  · exact absurd (hx (by rw [hk]; rfl)) hne

theorem moved_free (hv : s.isValid = true) (hm : s.stateAfter = .member)
    (hb : ¬(s.ctl.listener = true ∨ s.bus.muted = true)) : s.moved.FreeMember := by
  have hbus : s.moved.bus = s.bus := moveStation_bus s _
  have hlist : s.moved.ctl.listener = s.ctl.listener := by rw [(moved_game s).ctl]
  have hval : s.moved.isValid = s.isValid := moveStation_isValid s _
  rw [not_or, Bool.not_eq_true, Bool.not_eq_true] at hb
  refine ⟨(moved_state s).trans hm, hlist.trans hb.1, ?_, hval.trans hv⟩
  rw [hbus]
  exact hb.2

/-- R134, R135: the claims of the timers. -/
theorem handOff_timers (h : s.claim.Numbered) (hv : s.isValid = true) (hh : s.eng.history ≠ []) (hm : s.stateAfter = .member)
    (hb : ¬(s.ctl.listener = true ∨ s.bus.muted = true))
    (hl : (s.handOff f o began before).claim.queue.length < 8) :
    ((s.handOff f o began before).claim.tickTimer = .expired →
        ∃ c ∈ (s.handOff f o began before).claim.queue, c.payload.kind = .tick)
      ∧ ((s.handOff f o began before).claim.presence = 10 →
        ∃ c ∈ (s.handOff f o began before).claim.queue, c.payload.kind = .presence) := by
  rw [handOff_claimed] at hl ⊢
  have hhist : s.moved.eng.history = s.eng.history := by
    have he : s.moved.eng = s.eng.moved s.ctl.state s.stateAfter s.freshSync := moveStation_eng s _
    rw [he]
    unfold Engine.moved
    repeat' split
    all_goals rfl
  exact timers_claimed (moved_numbered h) (moved_free hv hm hb) (by rwa [hhist]) hl

/-- What the reconciliation at a hand-off asks of a slot that this MEMBER owns (R139, R140), beside the room there is. -/
structure SlotAsked (s t : State) (n : Slot) (room : Prop) : Prop where
  lock     : s.boundState n = some .present → s.table.slots[n].isLightable = true → t.claim.reject[n] = false → room →
    ∃ c ∈ t.claim.queue, c.payload = .lock n
  bounce   : s.boundState n = some .present → s.table.slots[n].isLightable = true → t.claim.reject[n] = true →
    ∃ y, t.drv.ejects[n] = some y ∧ y.kind = .bounce
  latch    : s.boundState n = some .absent → t.claim.reject[n] = false
  withdraw : s.boundState n = some .absent → s.table.slots[n].isLightable = true →
    ∀ c ∈ t.claim.queue, c.payload = .lock n → c.state ≠ .waiting
  lost     : s.boundState n = some .absent → s.table.slots[n].isHeld = true → room → ∃ c ∈ t.claim.queue, c.payload = .lost n
  released : s.boundState n = some .absent → s.table.slots[n].isLeaving = true → room →
    ∃ c ∈ t.claim.queue, c.payload = .released n

/-- R139, R140: a slot that this MEMBER owns. -/
theorem handOff_slot (h : s.claim.Numbered) (hv : s.isValid = true) (hm : s.stateAfter = .member) {n : Slot}
    (hown : s.table.slots[n].owner = some s.ctl.station) :
    SlotAsked s (s.handOff f o began before) n
      (¬(s.ctl.listener = true ∨ s.bus.muted = true) ∧ RoomAt n s (s.handOff f o began before)) := by
  have hn := moved_numbered h
  have hna := answered_numbered s.moved f o hn
  have hka := kept_answered s.moved f o
  have hend := endsAs_claimHandOff hn ((moved_state s).trans hm) f o began
  have hval : s.moved.isValid = s.isValid := moveStation_isValid s _
  have hbound : ∀ m, (s.moved.answered f o).boundState m = s.boundState m := fun m => by
    rw [hka.boundState, (moved_game s).boundState]
  have htable : (s.moved.answered f o).table = s.table := hka.table.trans (moved_game s).table
  have hrec : (s.moved.answered f o).reconciles n = true := by
    rw [hka.reconciles]
    unfold State.reconciles
    rw [moved_state, hm, hval, hv, (moved_game s).table, hown, moved_station]
    simp
  have hfree : ¬(s.ctl.listener = true ∨ s.bus.muted = true) → (s.moved.answered f o).FreeMember := fun hb =>
    (moved_free hv hm hb).kept hka
  have hlen : (s.moved.answered f o).claim.queue.length ≤ s.claim.queue.length :=
    (answered_sublist s.moved f o).length_le.trans (moveStation_claims_of s s.stateAfter).length
  have hroom : RoomAt n s (s.handOff f o began before) →
      RoomAt n (s.moved.answered f o) (s.moved.claimHandOff f o began) := fun hr => by
    unfold RoomAt at hr ⊢
    rw [handOff_claimed] at hr
    rw [htable]
    simp only [hbound]
    exact hr.imp_left fun hlt => by omega
  have hat : ∀ {x}, s.boundState n = some x → (s.moved.answered f o).boundState n = some x := fun hx => by
    rw [hbound, hx]
  constructor
  · rw [handOff_claimed]
    intro hp hl hj ⟨hb, hr⟩
    exact lock_stands hna hend hrec (hfree hb) (hat hp) (by rw [htable]; exact hl) hj (hroom hr)
  · intro hp hl hj
    refine handOff_bounce hv (by rw [(moved_game s).boundState, hp]) (by rw [(moved_game s).table]; exact hl) ?_ hj
    rw [handOff_claimed] at hj
    exact bounce_stands hna hend hrec (hat hp) (by rw [htable]; exact hl) hj
  · rw [handOff_claimed]
    intro ha
    exact latch_cleared hna hend hrec (hat ha)
  · rw [handOff_claimed]
    intro ha hl
    exact lock_withdrawn hna hend hrec (hat ha) (by rw [htable]; exact hl)
  · rw [handOff_claimed]
    intro ha hl ⟨hb, hr⟩
    exact lost_stands hna hend hrec (hfree hb) (hat ha) (by rw [htable]; exact hl) (hroom hr)
  · rw [handOff_claimed]
    intro ha hl ⟨hb, hr⟩
    exact released_stands hna hend hrec (hfree hb) (hat ha) (by rw [htable]; exact hl) (hroom hr)

end HandOff

end Sys2Proof.Machine

namespace Sys2Proof.Machine

/-! ### The hand-off of an application that leaves the replica VALID -/

section HandOffSettled

variable {s : State} {f : Frame}

theorem notifyAll_drv (s : State) (l : List NoticeBody) : (s.notifyAll l).drv = s.drv := by
  induction l generalizing s with
  | nil => rfl
  | cons b l ih => exact (ih (s.notify b)).trans rfl

theorem staged_drv (s : State) (f : Frame) : (s.staged f).drv = s.drv := by
  unfold State.staged
  rw [notifyAll_drv]
  rfl

theorem taken_drv (s : State) : s.taken.drv = s.drv := by rw [taken_eq]

theorem pushHistory_ne_nil (ring : List (Word32 × Word16)) (e : Word32 × Word16) : pushHistory ring e ≠ [] := by
  unfold pushHistory
  split <;> simp

/-- What the Table Engine's part of an application leaves as it was for the neighbouring blocks (R18). -/
structure HandedOver (s v : State) : Prop where
  now     : v.now = s.now
  state   : v.ctl.state = s.ctl.state
  station : v.ctl.station = s.ctl.station
  listens : v.ctl.listener = s.ctl.listener
  muted   : v.bus.muted = s.bus.muted
  bound   : ∀ n, v.boundState n = s.boundState n
  claim   : v.claim = s.claim
  drv     : v.drv = s.drv
  valid   : v.isValid = true
  history : v.eng.history ≠ []

theorem Undisturbed.handedOver (h : Undisturbed s f) : HandedOver s (s.taken.staged f) := by
  have hv : s.taken.isValid = true := (taken_isValid s).trans h.next.2
  have hk := staged_kept s.taken f
  have hctl : (s.taken.staged f).ctl = { s.ctl with faults := (s.taken.staged f).ctl.faults } := by
    rw [hk.ctl, show (s.taken.afterStages f).ctl = s.taken.ctl from rfl, taken_ctl]
  have hmuted : (s.taken.staged f).bus.muted = s.bus.muted := by
    rw [hk.bus, show (s.taken.afterStages f).bus = s.taken.bus from rfl, (taken_game s).bus]
  refine ⟨?_, ?_, ?_, ?_, hmuted, fun n => ?_, ?_, ?_, ?_, ?_⟩
  · rw [hk.now, show (s.taken.afterStages f).now = s.taken.now from rfl, (taken_game s).now]
  · rw [hctl]
  · rw [hctl]
  · rw [hctl]
  · rw [hk.boundState, ← (taken_game s).boundState]
    rfl
  · rw [staged_claim, taken_claim]
  · rw [staged_drv, taken_drv]
  · rw [hk.isValid]
    exact hv
  · rw [hk.eng]
    exact pushHistory_ne_nil _ _

theorem Undisturbed.completed_eq (h : Undisturbed s f) :
    s.taken.completed f =
      (s.taken.staged f).handOff f (applyFrame s.ctl.station false f s.table).2 (beginsGame false f s.table) s.table := by
  rw [completed_valid ((taken_isValid s).trans h.next.2), taken_ctl, taken_table]

/-- The table of the hand-off is that of the application. -/
theorem Undisturbed.staged_table (h : Undisturbed s f) : (s.taken.staged f).table = (s.taken.completed f).table := by
  rw [h.table_eq, (staged_kept s.taken f).table]
  unfold State.afterStages
  dsimp only
  rw [syncStart_valid ((taken_isValid s).trans h.next.2), taken_ctl, taken_table]
  rfl

theorem ClaimQueueOrdered.numbered (h : ClaimQueueOrdered s) : s.claim.Numbered := ⟨h.distinct, h.created⟩

/-- R179: what becomes of the station's state, from each of the three states of a running station. -/
theorem stateAfter_of_member {v : State} (h : v.ctl.state = .member) :
    v.stateAfter =
      if v.table.phase = .attract then .ready
      else if v.table.members[v.ctl.station].state = .silent ∨ v.table.members[v.ctl.station].state = .mismatched then
        .bystander
      else .member := by
  unfold State.stateAfter
  rw [h]

theorem stateAfter_of_bystander {v : State} (h : v.ctl.state = .bystander) :
    v.stateAfter = if v.table.phase = .attract then .ready else .bystander := by
  unfold State.stateAfter
  rw [h]

theorem stateAfter_of_ready {v : State} (h : v.ctl.state = .ready) :
    v.stateAfter =
      if v.table.phase = .attract then .ready
      else if v.table.members[v.ctl.station].state = .member ∧ ¬(v.ctl.listener = true ∨ v.bus.muted = true) then .member
      else if v.ctl.listener = true ∨ v.bus.muted = true then .bystander
      else if v.table.phase = .rollcall then .ready
      else .bystander := by
  unfold State.stateAfter
  rw [h]
  by_cases hb : v.ctl.listener = true ∨ v.bus.muted = true
  · simp only [Bool.or_eq_true, hb, if_true, not_true_eq_false, and_false, if_false]
  · simp only [Bool.or_eq_true, hb, if_false, not_false_eq_true, and_true]

theorem troughMember_iff {t : State} :
    TroughMember t ↔ (t.isValid && t.table.isTrough t.ctl.station) = true := by
  unfold TroughMember GameTable.isTrough
  simp only [Bool.and_eq_true, bne_iff_ne, beq_iff_eq, and_assoc]

/-- R170: a hand-off leaves what makes a station the trough member. -/
theorem handOff_trough {o : AppOutcome} {began : Bool} {before : GameTable} (v : State) :
    TroughMember (v.handOff f o began before) ↔ (v.isValid && v.table.isTrough v.ctl.station) = true := by
  have hk := (tends_handOff v f o began before).kept
  have hval : v.moved.isValid = v.isValid := moveStation_isValid v _
  rw [troughMember_iff, hk.isValid, hk.table, hk.station]
  show (v.moved.isValid && v.moved.table.isTrough v.moved.ctl.station) = true ↔ _
  rw [hval, (moved_game v).table, moved_station]

/-- Settles O39. The hand-off is Station Control's move, the Claim Unit's steps and the Driver Unit's derivation
(`handOff_eq`); every clause is a lemma about these on a state whose claims are numbered. -/
theorem handOff : Obligations.HandOff := by
  unfold Obligations.HandOff
  intro s f h hord outcome
  have hover := h.handedOver
  have htable := h.staged_table
  have hcomp : s.taken.completed f = (s.taken.staged f).handOff f outcome (beginsGame false f s.table) s.table :=
    h.completed_eq
  have hexec := h.exec_eq
  have hnum : (s.taken.staged f).claim.Numbered := by
    rw [hover.claim]
    exact hord.numbered
  clear_value outcome
  generalize s.taken.staged f = v at hover htable hnum hcomp
  generalize beginsGame false f s.table = began at hcomp
  rw [hcomp] at htable hexec
  intro ticked barred own
  have hvt : (v.handOff f outcome began s.table).table = v.table := htable.symm
  have hstate : (v.handOff f outcome began s.table).ctl.state = v.stateAfter := handOff_state v f outcome began s.table
  have hbound := hover.bound
  have hclaim := hover.claim
  have hown : v.ctl.station = own := hover.station
  have hlaunch := handOff_launches (f := f) (o := outcome) (began := began) (before := s.table) hnum
  have htrough := handOff_trough (f := f) (o := outcome) (began := began) (before := s.table) v
  refine ⟨_, hexec, ⟨fun hm => ?_, fun hm => ?_, fun hm => ?_⟩, fun c k hs hc hk hfirst => ?_,
    fun hs d hd j hj => ?_, fun n hn => ?_, fun number k d hp ht hd hw hk => ?_, ?_, fun hm => ?_, fun n hm hslot => ?_,
    fun hm hb hl => ?_, fun htr => ?_, fun htr => ?_⟩
  · rw [hstate, stateAfter_of_member (hover.state.trans hm), hvt]
    simp only [hown]
  · rw [hstate, stateAfter_of_bystander (hover.state.trans hm), hvt]
  · rw [hstate, stateAfter_of_ready (hover.state.trans hm), hvt, hover.listens, hover.muted]
    simp only [hown]
    rfl
  · rw [← hclaim] at hc hfirst ⊢
    simp only [← hbound]
    exact handOff_own hnum (hs.trans hown.symm) hc hk hfirst
  · exact handOff_other hnum (fun he => hs (he.trans hown)) (by rwa [hclaim]) hj
  · have hl := handOff_latched hnum hn
    rwa [hclaim, hown] at hl
  · exact handOff_stale hnum hp ht hd hw hk
  · have hfull : v.fullTickTimer = .running (s.now + (100 + own.val) * Config.ms) := by
      unfold State.fullTickTimer
      rw [hover.now, hown]
    rw [handOff_timer hnum hover.valid, hstate, hvt, hclaim, hfull, hover.listens, hover.muted]
  · rw [handOff_presence hnum (hstate.symm.trans hm), hover.state, hclaim, hown]
  · rw [hvt] at hslot ⊢
    have ha := handOff_slot (f := f) (o := outcome) (began := began) (before := s.table) hnum hover.valid
      (hstate.symm.trans hm) (n := n) (by rw [hslot, hown])
    intro room
    have hroom : room → ¬(v.ctl.listener = true ∨ v.bus.muted = true) ∧ RoomAt n v (v.handOff f outcome began s.table) := by
      rintro ⟨hb, hr⟩
      unfold RoomAt
      rw [hover.listens, hover.muted, hclaim]
      simp only [hbound]
      exact ⟨hb, hr⟩
    rw [← hbound n]
    exact ⟨fun hp hl hj hr => ha.lock hp hl hj (hroom hr), ha.bounce, fun hp => ⟨ha.latch hp, ha.withdraw hp,
      fun hl hr => ha.lost hp hl (hroom hr), fun hl hr => ha.released hp hl (hroom hr)⟩⟩
  · exact handOff_timers hnum hover.valid hover.history (hstate.symm.trans hm) (by rwa [hover.listens, hover.muted]) hl
  · rw [hlaunch, if_pos (htrough.1 htr), hclaim, hover.drv]
  · rw [hlaunch, if_neg (mt htrough.2 htr)]

end HandOffSettled

end Sys2Proof.Machine

namespace Sys2Proof.Machine

/-! ### The tables of the ball end and of game over (R42 to R47, R87, R88) -/

section BallEnd

variable {t : GameTable} {w : Work}

/-- A change of the mode table, entry by entry. -/
theorem mapModes_filterMap (g : ModeEntry → ModeStep) (l : List ModeEntry) :
    ((l.map g).filter ModeStep.stays).map ModeStep.entry =
      l.filterMap fun e => if (g e).stays then some (g e).entry else none := by
  induction l with
  | nil => rfl
  | cons e l ih => cases h : (g e).stays <;> simp [h, ih]

/-- A change under which no entry stays empties the mode table. -/
theorem mapModes_of_removes (g : ModeEntry → ModeStep) (l : List ModeEntry) (h : ∀ e, (g e).stays = false) :
    ((l.map g).filter ModeStep.stays).map ModeStep.entry = [] := by
  rw [mapModes_filterMap]
  exact List.filterMap_eq_nil_iff.2 fun e _ => by rw [h e]; rfl

/-- A table whose every entry is given the same content. -/
theorem vmap_const {α β : Type} {n : Nat} (x : β) (v : Vector α n) : vmap (fun _ _ => x) v = Vector.replicate n x :=
  Vector.ext fun i hi => by rw [vmap_get, Vector.getElem_replicate]

theorem all_slots_iff (t : GameTable) (p : SlotRecord → Bool) :
    t.slots.toList.all p = true ↔ ∀ n : Slot, p t.slots[n] = true := by
  rw [Vector.all_toList, Vector.all_eq_true]
  exact ⟨fun h n => h n.val n.isLt, fun h i hi => h ⟨i, hi⟩⟩

/-- R42: what the entry check looks for. -/
theorem ballOver_iff (t : GameTable) :
    t.ballOver = true ↔ t.inPlay = 0 ∧ t.servePending = 0 ∧ ∀ (n : Slot) (o : Station), t.slots[n] ≠ .releasing o .multiball := by
  unfold GameTable.ballOver
  rw [Bool.and_eq_true, Bool.and_eq_true, beq_iff_eq, beq_iff_eq, Bool.not_eq_true', ← Bool.not_eq_true,
    multiballReleasing_iff, and_assoc]
  simp only [not_exists]

/-- R43, R87: the table behind the entry to BALL_END. -/
def GameTable.inBallEnd (t : GameTable) : GameTable :=
  { t with
    phase := .ballEnd
    slots := vmap (fun _ r => ballEndSlot r) t.slots
    modes := t.modes.filterMap fun e =>
      if e.player = t.currentPlayer ∧ e.state ≠ .suspended then
        if t.profile.modes[e.mode].carry then some { e with state := .suspended } else none
      else some e
    holds := Vector.replicate 16 none, saveWindow := 0, multiball := false, ballEndRemaining := 100 }

/-- R87: what entry to BALL_END does to an entry of the mode table. -/
theorem ballEndModeStep_eq (t : GameTable) (e : ModeEntry) :
    (if (ballEndModeStep t e).stays then some (ballEndModeStep t e).entry else none) =
      if e.player = t.currentPlayer ∧ e.state ≠ .suspended then
        if t.profile.modes[e.mode].carry then some { e with state := .suspended } else none
      else some e := by
  have hact : t.activeOfCurrent e = true ↔ e.player = t.currentPlayer ∧ e.state ≠ .suspended := by
    simp [GameTable.activeOfCurrent, ModeEntry.active]
  unfold ballEndModeStep GameTable.modeDef
  by_cases ha : e.player = t.currentPlayer ∧ e.state ≠ .suspended
  · rw [if_pos (hact.2 ha), if_pos ha]
    split <;> rfl
  · rw [if_neg (mt hact.1 ha), if_neg ha]
    rfl

theorem enterBallEnd_eq (w : Work) : w.enterBallEnd.table = w.table.inBallEnd := by
  unfold Work.enterBallEnd GameTable.inBallEnd
  simp only [upd_table, mapModes_table, mapSlots_table, notePhase_table, mapModes_filterMap, ballEndModeStep_eq]

theorem entryChecked_of_over (hp : t.phase = .play) (h : t.ballOver = true) : entryChecked t = t.inBallEnd := by
  unfold entryChecked Work.ballEndEntryCheck
  rw [if_pos ⟨hp, h⟩, enterBallEnd_eq]

theorem entryChecked_of_not_over (h : ¬(t.phase = .play ∧ t.ballOver = true)) : entryChecked t = t := by
  unfold entryChecked Work.ballEndEntryCheck
  rw [if_neg h]

/-- R44: what the completion check looks for. -/
theorem ballEndDone_iff (t : GameTable) :
    t.ballEndDone = true ↔ t.returning = 0 ∧ ∀ n : Slot, t.slots[n].isHeld = false ∧ t.slots[n].isReleasing = false := by
  unfold GameTable.ballEndDone
  rw [Bool.and_eq_true, all_slots_iff, beq_iff_eq, and_comm]
  simp only [Bool.and_eq_true, Bool.not_eq_true']

/-- R46, steps 1 to 3: the table with the tilt lifted and the turn passed on. -/
def GameTable.turned (t : GameTable) : GameTable :=
  { t with
    tilted := false, nudgeCount := 0, ballEndRemaining := 0
    currentPlayer := if playerNumber t.currentPlayer < t.playerCount then t.currentPlayer + 1 else 0
    ballNumber := if playerNumber t.currentPlayer < t.playerCount then t.ballNumber else t.ballNumber + 1 }

/-- R47: the table behind the game-over changes. -/
def GameTable.over (t : GameTable) : GameTable :=
  { t with
    phase := .attract, modes := [], slots := Vector.replicate 8 .absent
    inPlay := 0, returning := 0, servePending := 0, saveWindow := 0, ballEndRemaining := 0, rollcallRemaining := 0
    multiball := false, launchSeen := false, tilted := false, nudgeCount := 0
    jackpot := 0, holds := Vector.replicate 16 none }

theorem gameOver_eq (w : Work) : w.gameOver.table = w.table.over := by
  unfold Work.gameOver GameTable.over
  simp only [upd_table, mapModes_table, mapSlots_table, notePhase_table, vmap_const]
  rw [mapModes_of_removes _ _ fun _ => rfl]

/-- R46, step 4, and R88: the table in which the next ball begins. -/
def GameTable.nextBegun (t : GameTable) : GameTable :=
  { t with
    phase := .play, servePending := 1, launchSeen := false
    modes := t.modes.map fun e =>
      if e.player = t.currentPlayer ∧ e.state = .suspended then { e with state := .running } else e }

/-- R88: what the next ball does to an entry of the mode table. -/
def nextBallStep (p : PlayerIx) (e : ModeEntry) : ModeStep :=
  if e.player = p ∧ e.state = .suspended then .move e .running else .keep e

theorem nextBallStep_stays (p : PlayerIx) (e : ModeEntry) : (nextBallStep p e).stays = true := by
  unfold nextBallStep
  split <;> rfl

theorem nextBallStep_entry (p : PlayerIx) (e : ModeEntry) :
    (nextBallStep p e).entry = if e.player = p ∧ e.state = .suspended then { e with state := .running } else e :=
  apply_ite ModeStep.entry _ _ _

theorem nextBall_eq (w : Work) : w.nextBall.table = w.table.nextBegun := by
  have h := mapModes_of_stays _ w.table.modes (nextBallStep_stays w.table.currentPlayer)
  simp only [nextBallStep_entry] at h
  exact congrArg (fun ms => { w.table with phase := .play, servePending := 1, launchSeen := false, modes := ms }) h

/-- R46: the table behind a ball end that completes. -/
def GameTable.ended (t : GameTable) : GameTable :=
  if t.profile.ballsPerGame < t.turned.ballNumber then t.turned.over else t.turned.nextBegun

theorem completeBallEnd_eq (w : Work) : w.completeBallEnd.table = w.table.ended := by
  unfold Work.completeBallEnd GameTable.ended
  dsimp only
  rw [apply_ite Work.table, gameOver_eq, nextBall_eq]
  rfl

theorem completionChecked_of_done (hp : t.phase = .ballEnd) (h : t.ballEndDone = true) : completionChecked t = t.ended := by
  unfold completionChecked Work.completionCheck
  rw [if_pos ⟨hp, h⟩, completeBallEnd_eq]

theorem completionChecked_of_not_done (h : ¬(t.phase = .ballEnd ∧ t.ballEndDone = true)) : completionChecked t = t := by
  unfold completionChecked Work.completionCheck
  rw [if_neg h]

/-- All that the completion check can do. -/
theorem completionChecked_cases (t : GameTable) :
    completionChecked t = t ∨ t.phase = .ballEnd ∧ completionChecked t = t.ended := by
  by_cases h : t.phase = .ballEnd ∧ t.ballEndDone = true
  · exact .inr ⟨h.1, completionChecked_of_done h.1 h.2⟩
  · exact .inl (completionChecked_of_not_done h)

/-- Settles O36, by the tables of the entry to BALL_END and of a completed ball end. -/
theorem ballEndChecks : Obligations.BallEndChecks := by
  unfold Obligations.BallEndChecks
  constructor
  · intro t ballOver
    have hover : ballOver ↔ t.phase = .play ∧ t.ballOver = true := by rw [ballOver_iff]
    refine ⟨fun h => entryChecked_of_not_over (mt hover.2 h), fun h => ?_⟩
    obtain ⟨hp, hb⟩ := hover.1 h
    exact entryChecked_of_over hp hb
  · intro t done last advanced
    have hdone : done ↔ t.phase = .ballEnd ∧ t.ballEndDone = true := by rw [ballEndDone_iff]
    refine ⟨fun h => completionChecked_of_not_done (mt hdone.2 h), fun h hnext => ?_, fun h hlast => ?_⟩
    · obtain ⟨hp, hd⟩ := hdone.1 h
      exact (completionChecked_of_done hp hd).trans (if_neg (Nat.not_lt.2 hnext))
    · obtain ⟨hp, hd⟩ := hdone.1 h
      exact (completionChecked_of_done hp hd).trans (if_pos hlast)

end BallEnd

end Sys2Proof.Machine

namespace Sys2Proof.Machine

/-! ### A kind's checks and effects on the table (R15, stage 3) -/

section Stages

variable {s : State} {f : Frame} {w : Work}

/-- A kind's statement about the table, behind the gate. -/
theorem leaves_of_stage {c : Instr} {k : GameTable} {r : Work × AppOutcome} (hn : TakesNext s f) (hg : PassesGate s f)
    (hc : commandOf f = c) (hs : kindChecks s.ctl.station false f (Work.begin s.table f) = r) (hk : r.1.table = k) :
    Leaves c s k := by
  rw [← hc]
  exact leaves_of_gated hn (by rw [gated_of_passes hg, hs, hk])

@[simp] theorem refuse_table (r : Reason) : (w.refuse f r).1.table = refusedWith w.table f r := rfl
@[simp] theorem applied_table : w.applied.1.table = w.table := rfl

theorem updPlayer_eq_withCurrent (g : Player → Player) : (w.updPlayer g).table = withCurrent w.table (g w.table.current) := by
  refine congrArg (fun ps => { w.table with players := ps }) (vmap_congr fun k => ?_)
  by_cases hk : k = w.table.currentPlayer
  · rw [if_pos hk, if_pos hk, hk]
    rfl
  · rw [if_neg hk, if_neg hk]

/-! #### Tilt and nudge (R40, R41, R86) -/

/-- R40, R86: the table behind the tilt. -/
def GameTable.tiltTaken (t : GameTable) : GameTable :=
  { t with
    tilted := true
    modes := t.modes.filter fun e => !(e.player == t.currentPlayer && e.state != .suspended)
    holds := Vector.replicate 16 none
    slots := vmap (fun _ r => darken r) t.slots }

/-- A change of the mode table that removes some entries and keeps the others. -/
theorem mapModes_filter (p : ModeEntry → Bool) (r : ModeReport) (l : List ModeEntry) :
    ((l.map fun e => if p e then ModeStep.remove e r else .keep e).filter ModeStep.stays).map ModeStep.entry =
      l.filter fun e => !p e := by
  induction l with
  | nil => rfl
  | cons e l ih => cases h : p e <;> simp_all [ModeStep.remove, ModeStep.keep]

theorem tiltEffects_eq (w : Work) : w.tiltEffects.table = w.table.tiltTaken :=
  congrArg (fun ms => { w.table.tiltTaken with modes := ms }) (mapModes_filter w.table.activeOfCurrent .aborted w.table.modes)

theorem tiltStage_not_playing (h : w.table.phase ≠ .play) : (tiltStage f w).1.table = refusedWith w.table f .notPlaying := by
  unfold tiltStage
  rw [if_pos h, refuse_table]

theorem tiltStage_tilted (hp : w.table.phase = .play) (ht : w.table.tilted = true) : (tiltStage f w).1.table = w.table := by
  unfold tiltStage
  rw [if_neg (not_not.2 hp), if_pos ht, applied_table]

theorem tiltStage_tilts (hp : w.table.phase = .play) (ht : w.table.tilted = false) :
    (tiltStage f w).1.table = w.table.tiltTaken := by
  unfold tiltStage
  rw [if_neg (not_not.2 hp), if_neg (Bool.eq_false_iff.1 ht), applied_table, tiltEffects_eq]

theorem nudgeStage_not_playing (h : w.table.phase ≠ .play) :
    (nudgeStage f w).1.table = refusedWith w.table f .notPlaying := by
  unfold nudgeStage
  rw [if_pos h, refuse_table]

theorem nudgeStage_tilted (hp : w.table.phase = .play) (ht : w.table.tilted = true) : (nudgeStage f w).1.table = w.table := by
  unfold nudgeStage
  rw [if_neg (not_not.2 hp), if_pos ht, applied_table]

theorem nudgeStage_counts (hp : w.table.phase = .play) (ht : w.table.tilted = false)
    (hc : w.table.nudgeCount + 1 ≤ w.table.profile.nudgeWarnings) :
    (nudgeStage f w).1.table = { w.table with nudgeCount := w.table.nudgeCount + 1 } := by
  unfold nudgeStage
  rw [if_neg (not_not.2 hp), if_neg (Bool.eq_false_iff.1 ht), if_neg (Nat.not_lt.2 hc)]
  rfl

theorem nudgeStage_tilts (hp : w.table.phase = .play) (ht : w.table.tilted = false)
    (hc : w.table.profile.nudgeWarnings < w.table.nudgeCount + 1) :
    (nudgeStage f w).1.table = { w.table with nudgeCount := w.table.nudgeCount + 1 }.tiltTaken := by
  unfold nudgeStage
  rw [if_neg (not_not.2 hp), if_neg (Bool.eq_false_iff.1 ht), if_pos hc, applied_table, tiltEffects_eq]
  rfl

/-- Settles O20, by the branches of the two stages in their order. -/
theorem tiltAndNudge : Obligations.TiltAndNudge := by
  unfold Obligations.TiltAndNudge
  constructor
  · intro s f hn hg hp b
    have leaves : ∀ {k : GameTable}, (tiltStage f (Work.begin s.table f)).1.table = k → Leaves .tilt s k := fun h =>
      leaves_of_stage hn hg (by unfold commandOf; rw [hp]) (by unfold kindChecks; rw [hp]) h
    exact ⟨fun h => leaves (tiltStage_not_playing h), fun h ht => leaves (tiltStage_tilted h ht),
      fun h ht => leaves (tiltStage_tilts h ht)⟩
  · intro s f hn hg hp b counted
    have leaves : ∀ {k : GameTable}, (nudgeStage f (Work.begin s.table f)).1.table = k → Leaves .nudge s k := fun h =>
      leaves_of_stage hn hg (by unfold commandOf; rw [hp]) (by unfold kindChecks; rw [hp]) h
    exact ⟨fun h => leaves (nudgeStage_not_playing h), fun h ht => leaves (nudgeStage_tilted h ht),
      fun h ht hc => leaves (nudgeStage_counts h ht hc), fun h ht hc => leaves (nudgeStage_tilts h ht hc)⟩

end Stages

end Sys2Proof.Machine

namespace Sys2Proof.Machine

section BallsLeave

variable {s : State} {f : Frame} {w : Work} {n : Slot} {c : Cause}

/-! #### LOST and RELEASED (R59, R60) -/

theorem heldBy_iff (r : SlotRecord) (k : Station) : r.isHeld = true ∧ r.owner = some k ↔ ∃ p, r = .held k p := by
  cases r <;> simp [SlotRecord.isHeld, SlotRecord.owner]

theorem leavingBy_iff (r : SlotRecord) (k : Station) :
    r.isLeaving = true ∧ r.owner = some k ↔ ∃ c, r = .releasing k c ∨ r = .jammed k c := by
  cases r <;> simp [SlotRecord.isLeaving, SlotRecord.owner]

theorem lostStage_held {p : PlayerIx} (h : w.table.slots[n] = .held f.sender p) :
    (lostStage f n w).1.table =
      withCurrent { withSlot w.table n (.dark f.sender) with inPlay := w.table.inPlay + 1 }
        { w.table.current with locksLit := min 4 (w.table.current.locksLit + 1) } := by
  unfold lostStage
  rw [if_pos ((heldBy_iff _ _).2 ⟨p, h⟩), applied_table]
  exact updPlayer_eq_withCurrent _

theorem lostStage_refused (h : ∀ p, w.table.slots[n] ≠ .held f.sender p) :
    (lostStage f n w).1.table = refusedWith w.table f .slotState := by
  unfold lostStage
  rw [if_neg (mt (heldBy_iff _ _).1 (not_exists.2 h)), refuse_table]

theorem releasedStage_leaving (h : w.table.slots[n] = .releasing f.sender c ∨ w.table.slots[n] = .jammed f.sender c) :
    (releasedStage f n w).1.table =
      if c = .multiball ∧ w.table.phase = .play then
        { withSlot w.table n (.dark f.sender) with inPlay := w.table.inPlay + 1 }
      else { withSlot w.table n (.dark f.sender) with returning := w.table.returning + 1 } := by
  have hc : w.table.slots[n].cause = some c := by rcases h with h | h <;> rw [h] <;> rfl
  unfold releasedStage
  rw [if_pos ((leavingBy_iff _ _).2 ⟨c, h⟩), applied_table, upd_table, hc]
  unfold GameTable.countRelease
  simp only [Option.some.injEq]
  rfl

theorem releasedStage_refused (h : ∀ c, w.table.slots[n] ≠ .releasing f.sender c ∧ w.table.slots[n] ≠ .jammed f.sender c) :
    (releasedStage f n w).1.table = refusedWith w.table f .slotState := by
  unfold releasedStage
  rw [if_neg, refuse_table]
  intro hl
  obtain ⟨c, hc⟩ := (leavingBy_iff _ _).1 hl
  exact hc.elim (h c).1 (h c).2

/-! #### JAMMED (R61) -/

/-- R61: the conditions of the forced serve. -/
theorem forcesServe_iff (t : GameTable) (c : Cause) :
    t.forcesServe c = true ↔ t.phase = .play ∧ c = .multiball ∧ t.inPlay = 0 ∧ t.servePending = 0
      ∧ ∀ (k : Slot) (o : Station), t.slots[k] ≠ .releasing o .multiball := by
  unfold GameTable.forcesServe
  simp only [Bool.and_eq_true, beq_iff_eq, Bool.not_eq_true', ← Bool.not_eq_true, multiballReleasing_iff, and_assoc,
    not_exists]

/-- R61: a forced serve is the one serve pending. -/
theorem forcedServe_eq (h : w.table.forcesServe c = true) : w.raiseServe.table = { w.table with servePending := 1 } := by
  obtain ⟨-, -, -, hs, -⟩ := (forcesServe_iff _ _).1 h
  unfold Work.raiseServe
  rw [upd_table, hs]
  rfl

theorem jammedStage_releasing (h : w.table.slots[n] = .releasing f.sender c) :
    (jammedStage f n w).1.table =
      entryChecked
        (if (withSlot w.table n (.jammed f.sender c)).forcesServe c = true then
          { withSlot w.table n (.jammed f.sender c) with servePending := 1 }
        else withSlot w.table n (.jammed f.sender c)) := by
  unfold jammedStage
  rw [h]
  dsimp only
  rw [if_pos rfl, applied_table, ballEndEntryCheck_table, apply_ite Work.table]
  congr 1
  refine ite_congr rfl (fun hf => forcedServe_eq hf) fun _ => rfl

theorem jammedStage_refused (h : ∀ c, w.table.slots[n] ≠ .releasing f.sender c) :
    (jammedStage f n w).1.table = refusedWith w.table f .slotState := by
  unfold jammedStage
  split
  · next o c hr =>
    rw [if_neg fun ho : o = f.sender => h c (ho ▸ hr), refuse_table]
  · exact refuse_table _

/-- Settles O22: each of the three by whether the slot's record lets the sender's ball go. -/
theorem ballLeaves : Obligations.BallLeaves := by
  unfold Obligations.BallLeaves
  intro s f n hn hg b
  refine ⟨fun hp => ?_, fun hp => ?_, fun hp => ?_⟩
  · have leaves : ∀ {k : GameTable}, (lostStage f n (Work.begin s.table f)).1.table = k → Leaves .lost s k := fun h =>
      leaves_of_stage hn hg (by unfold commandOf; rw [hp]) (by unfold kindChecks; rw [hp]) h
    exact ⟨fun p h => leaves (lostStage_held h), fun h => leaves (lostStage_refused h)⟩
  · have leaves : ∀ {k : GameTable}, (releasedStage f n (Work.begin s.table f)).1.table = k → Leaves .released s k :=
      fun h => leaves_of_stage hn hg (by unfold commandOf; rw [hp]) (by unfold kindChecks; rw [hp]) h
    exact ⟨fun c h => leaves (releasedStage_leaving h), fun h => leaves (releasedStage_refused h)⟩
  · have leaves : ∀ {k : GameTable}, (jammedStage f n (Work.begin s.table f)).1.table = k → Leaves .jammed s k :=
      fun h => leaves_of_stage hn hg (by unfold commandOf; rw [hp]) (by unfold kindChecks; rw [hp]) h
    refine ⟨fun c h => leaves ((jammedStage_releasing h).trans ?_), fun h => leaves (jammedStage_refused h)⟩
    exact congrArg entryChecked (if_congr (forcesServe_iff _ _) rfl rfl)

end BallsLeave

end Sys2Proof.Machine

namespace Sys2Proof.Machine

section Trough

variable {s : State} {f : Frame} {w : Work}

/-! #### DRAIN and LAUNCHED (R62 to R64) -/

theorem isTrough_iff (t : GameTable) (k : Station) :
    t.isTrough k = true ↔ t.phase ≠ .attract ∧ t.members[k].state = .member ∧ t.members[k].trough = true := by
  unfold GameTable.isTrough
  rw [Bool.and_eq_true, Bool.and_eq_true, bne_iff_ne, beq_iff_eq, and_assoc]

/-- R9: what being heard leaves of a membership entry. -/
theorem heard_member (t : GameTable) (j k : Station) :
    (t.heard j).members[k] =
      { t.members[k] with lastHeard := if k = j then t.tick else t.members[k].lastHeard } := by
  unfold GameTable.heard
  rw [vmap_get_fin]
  split <;> rfl

theorem heard_state (t : GameTable) (j k : Station) : (t.heard j).members[k].state = t.members[k].state := by
  rw [heard_member]

theorem heard_trough (t : GameTable) (j k : Station) : (t.heard j).members[k].trough = t.members[k].trough := by
  rw [heard_member]

theorem isTrough_heard (t : GameTable) (j k : Station) : (t.heard j).isTrough k = t.isTrough k := by
  unfold GameTable.isTrough
  rw [heard_state, heard_trough]
  rfl

theorem drainStage_not_member (h : ¬w.table.isTrough f.sender = true) :
    (drainStage f w).1.table = refusedWith w.table f .notMember := by
  unfold drainStage
  rw [if_pos (by simpa using h), refuse_table]

theorem drainStage_returning (h : w.table.isTrough f.sender = true) (hr : 0 < w.table.returning) :
    (drainStage f w).1.table = { w.table with returning := w.table.returning - 1 } := by
  unfold drainStage
  rw [if_neg (by simp [h]), if_pos hr]
  rfl

theorem drainStage_saved (h : w.table.isTrough f.sender = true) (hr : w.table.returning = 0) (hi : 0 < w.table.inPlay)
    (hs : w.table.phase = .play ∧ 0 < w.table.saveWindow ∧ w.table.tilted = false) :
    (drainStage f w).1.table =
      { w.table with
        inPlay := w.table.inPlay - 1
        servePending := if w.table.servePending < 8 then w.table.servePending + 1 else w.table.servePending } := by
  unfold drainStage
  rw [if_neg (by simp [h]), if_neg (by simp [hr]), if_pos hi]
  exact congrArg (fun r : Work × AppOutcome => r.1.table) (if_pos hs)

theorem drainStage_drains (h : w.table.isTrough f.sender = true) (hr : w.table.returning = 0) (hi : 0 < w.table.inPlay)
    (hs : ¬(w.table.phase = .play ∧ 0 < w.table.saveWindow ∧ w.table.tilted = false)) :
    (drainStage f w).1.table = entryChecked { w.table with inPlay := w.table.inPlay - 1 } := by
  unfold drainStage
  rw [if_neg (by simp [h]), if_neg (by simp [hr]), if_pos hi]
  exact (congrArg (fun r : Work × AppOutcome => r.1.table) (if_neg hs)).trans (ballEndEntryCheck_table _)

theorem drainStage_stray (h : w.table.isTrough f.sender = true) (hr : w.table.returning = 0) (hi : w.table.inPlay = 0) :
    (drainStage f w).1.table = refusedWith w.table f .stray := by
  unfold drainStage
  rw [if_neg (by simp [h]), if_neg (by simp [hr]), if_neg (by simp [hi]), refuse_table]

theorem launchedStage_not_member (h : ¬w.table.isTrough f.sender = true) :
    (launchedStage f w).1.table = refusedWith w.table f .notMember := by
  unfold launchedStage
  rw [if_pos (by simpa using h), refuse_table]

theorem launchedStage_stray (h : w.table.isTrough f.sender = true)
    (hc : w.table.profile.ballsInstalled ≤ w.table.countedTotal) :
    (launchedStage f w).1.table = refusedWith w.table f .stray := by
  unfold launchedStage
  rw [if_neg (by simp [h]), if_pos hc, refuse_table]

theorem launchedStage_play (h : w.table.isTrough f.sender = true)
    (hc : w.table.countedTotal < w.table.profile.ballsInstalled) (hp : w.table.phase = .play) :
    (launchedStage f w).1.table = w.table.launchInPlay := by
  unfold launchedStage
  rw [if_neg (by simp [h]), if_neg (Nat.not_le.2 hc), if_pos hp]
  rfl

theorem launchedStage_returning (h : w.table.isTrough f.sender = true)
    (hc : w.table.countedTotal < w.table.profile.ballsInstalled) (hp : w.table.phase ≠ .play) :
    (launchedStage f w).1.table = { w.table with returning := w.table.returning + 1 } := by
  unfold launchedStage
  rw [if_neg (by simp [h]), if_neg (Nat.not_le.2 hc), if_neg hp]
  rfl

/-- Settles O23, by the branches of the two stages in their order. -/
theorem troughFrames : Obligations.TroughFrames := by
  unfold Obligations.TroughFrames
  intro s f hn hg b trough saved
  have ht : trough ↔ (Work.begin s.table f).table.isTrough f.sender = true := by
    rw [begin_table, isTrough_heard, isTrough_iff]
  refine ⟨fun hp => ?_, fun hp => ?_⟩
  · have leaves : ∀ {k : GameTable}, (drainStage f (Work.begin s.table f)).1.table = k → Leaves .drain s k := fun h =>
      leaves_of_stage hn hg (by unfold commandOf; rw [hp]) (by unfold kindChecks; rw [hp]) h
    exact ⟨fun h => leaves (drainStage_not_member (mt ht.2 h)), fun h hr => leaves (drainStage_returning (ht.1 h) hr),
      fun h hr hi => ⟨fun hs => leaves (drainStage_saved (ht.1 h) hr hi hs),
        fun hs => leaves (drainStage_drains (ht.1 h) hr hi hs)⟩,
      fun h hr hi => leaves (drainStage_stray (ht.1 h) hr hi)⟩
  · have leaves : ∀ {k : GameTable}, (launchedStage f (Work.begin s.table f)).1.table = k → Leaves .launched s k :=
      fun h => leaves_of_stage hn hg (by unfold commandOf; rw [hp]) (by unfold kindChecks; rw [hp]) h
    exact ⟨fun h => leaves (launchedStage_not_member (mt ht.2 h)), fun h hc => leaves (launchedStage_stray (ht.1 h) hc),
      fun h hc => ⟨fun hph => leaves (launchedStage_play (ht.1 h) hc hph),
        fun hph => leaves (launchedStage_returning (ht.1 h) hc hph)⟩⟩

end Trough

end Sys2Proof.Machine

namespace Sys2Proof.Machine

section Ticks

variable {s : State} {f : Frame} {w : Work} {t : GameTable}

/-! ### A TICK on the table, stage by stage (R27, R28) -/

theorem tickAdvances_iff (t : GameTable) (number : Word16) :
    t.tickAdvances number = true ↔ t.phase ≠ .attract ∧ number = t.tick + 1#16 := by
  unfold GameTable.tickAdvances
  rw [Bool.and_eq_true, bne_iff_ne, beq_iff_eq]

/-- R28, stages 1 and 2, and R80: the table with the tick advanced and the holds expired. -/
def GameTable.ticked (t : GameTable) : GameTable :=
  { t with tick := t.tick + 1#16, holds := vmap (fun _ x => if x = some (t.tick + 1#16) then none else x) t.holds }

theorem tickStage_stale {number : Word16} (h : w.table.phase = .attract ∨ number ≠ w.table.tick + 1#16) :
    (tickStage f number w).1.table = w.table := by
  unfold tickStage
  rw [if_neg]
  intro ha
  obtain ⟨hp, hn⟩ := (tickAdvances_iff _ _).1 ha
  exact h.elim hp fun h => h hn

theorem tickStage_advances (h : w.table.phase ≠ .attract) :
    (tickStage f (w.table.tick + 1#16) w).1.table =
      entryChecked ((w.advanceTick.expireHolds.countdown f.sender).silenceStage).table := by
  unfold tickStage
  rw [if_pos ((tickAdvances_iff _ _).2 ⟨h, rfl⟩), applied_table]
  exact ballEndEntryCheck_table _

theorem kindChecks_tick (own : Station) (sync : Bool) {number : Word16} (hp : f.payload = .tick number) :
    kindChecks own sync f w = tickStage f number w := by
  unfold kindChecks
  rw [hp]

/-- The table of a TICK that applies. -/
theorem leaves_tick (hn : TakesNext s f) (hg : PassesGate s f) (hp : f.payload = .tick (s.table.tick + 1#16))
    (hph : s.table.phase ≠ .attract) :
    Leaves .tick s (entryChecked ((tickBegun s.table f).countdown f.sender).silenceStage.table) :=
  leaves_of_stage hn hg (by unfold commandOf; rw [hp]) (kindChecks_tick _ _ hp)
    (tickStage_advances (w := Work.begin s.table f) hph)

/-! #### The countdowns (R28, stage 3) -/

/-- R82: what the countdown does to an entry of the mode table. -/
theorem countdownStep_eq (e : ModeEntry) :
    (if (countdownStep e).stays then some (countdownStep e).entry else none) =
      if e.state = .running ∧ 0 < e.remaining then
        if e.remaining = 1 then none else some { e with remaining := e.remaining - 1 }
      else some e := by
  unfold countdownStep
  by_cases h : e.state = .running ∧ 0 < e.remaining
  · rw [if_pos h, if_pos h]
    by_cases h1 : e.remaining = 1
    · simp [h1, ModeStep.remove]
    · have h0 : e.remaining - 1 ≠ 0 := by omega
      simp [h1, h0]
  · rw [if_neg h, if_neg h]
    rfl

/-- R28, R70, R82: the table behind the countdown of PLAY. -/
def GameTable.counted (t : GameTable) : GameTable :=
  { t with
    saveWindow := if t.holds.toList.all Option.isNone then t.saveWindow - 1 else t.saveWindow
    modes := t.modes.filterMap fun e =>
      if e.state = .running ∧ 0 < e.remaining then
        if e.remaining = 1 then none else some { e with remaining := e.remaining - 1 }
      else some e }

theorem countdown_play (h : w.table.phase = .play) (k : Station) : (w.countdown k).table = w.table.counted := by
  unfold Work.countdown
  rw [h]
  unfold Work.playCountdown GameTable.counted
  simp only [mapModes_table, upd_table, mapModes_filterMap, countdownStep_eq]
  rfl

theorem countdown_rollcall (h : w.table.phase = .rollcall) (hr : 1 < w.table.rollcallRemaining) (k : Station) :
    (w.countdown k).table = { w.table with rollcallRemaining := w.table.rollcallRemaining - 1 } := by
  have h0 : ¬w.table.rollcallRemaining - 1 = 0 := by omega
  unfold Work.countdown
  rw [h]
  exact congrArg Work.table (if_neg h0)

theorem countdown_rollcall_ends (h : w.table.phase = .rollcall) (hr : w.table.rollcallRemaining ≤ 1) (k : Station) :
    w.countdown k = (w.upd fun t => { t with rollcallRemaining := 0 }).endRollcall k := by
  have h0 : w.table.rollcallRemaining - 1 = 0 := by omega
  have hu : w.upd (fun t => { t with rollcallRemaining := t.rollcallRemaining - 1 }) =
      w.upd fun t => { t with rollcallRemaining := 0 } := by
    unfold Work.upd
    dsimp only
    rw [h0]
  unfold Work.countdown
  rw [h]
  dsimp only
  unfold Work.rollcallCountdown
  rw [hu]
  exact if_pos rfl

theorem countdown_ballEnd (h : w.table.phase = .ballEnd) (hr : 1 < w.table.ballEndRemaining) (k : Station) :
    (w.countdown k).table = { w.table with ballEndRemaining := w.table.ballEndRemaining - 1 } := by
  have h0 : ¬w.table.ballEndRemaining - 1 = 0 := by omega
  unfold Work.countdown
  rw [h]
  exact congrArg Work.table (if_neg h0)

/-- R45: the ball-end limit. -/
theorem countdown_ballEnd_ends (h : w.table.phase = .ballEnd) (hr : w.table.ballEndRemaining ≤ 1) (k : Station) :
    (w.countdown k).table =
      { w.table with ballEndRemaining := w.table.ballEndRemaining - 1, returning := 0 }.ended := by
  have h0 : w.table.ballEndRemaining - 1 = 0 := by omega
  unfold Work.countdown
  rw [h]
  exact (congrArg Work.table (if_pos h0)).trans (completeBallEnd_eq _)

/-! #### The silence check (R37 to R39) -/

theorem findsSilent_iff (t : GameTable) (k : Station) :
    t.findsSilent k = true ↔ t.members[k].state = .member ∧ 30 ≤ (t.tick - t.members[k].lastHeard).toNat := by
  unfold GameTable.findsSilent
  rw [Bool.and_eq_true, beq_iff_eq, decide_eq_true_iff]

theorem noneSilent_iff (t : GameTable) : NoneSilent t t.tick ↔ ∀ k : Station, t.findsSilent k = false := by
  unfold NoneSilent
  refine forall_congr' fun k => ?_
  rw [← Bool.not_eq_true, findsSilent_iff, not_and, Nat.not_le]

/-- R37, R38: the table with the entries found silent SILENT, and their slots stranded. -/
def GameTable.silenced (t : GameTable) : GameTable :=
  { t with
    members := vmap (fun k m => if t.findsSilent k then { m with state := .silent } else m) t.members
    slots := vmap (fun _ r => strandOf t.findsSilent r) t.slots }

theorem silenceEntries_eq (w : Work) : w.silenceEntries.table = w.table.silenced := rfl

/-- R39: the trough-loss abort ends the game. -/
theorem troughLossAbort_eq (w : Work) : w.troughLossAbort.table = w.table.over := by
  unfold Work.troughLossAbort
  rw [gameOver_eq]
  rfl

theorem strandOf_of_none {lost : Station → Bool} (h : ∀ k, lost k = false) (r : SlotRecord) : strandOf lost r = r := by
  cases ho : r.owner with
  | none => exact strandOf_unowned ho
  | some k => rw [strandOf_owned ho, h k]; rfl

theorem silenced_of_none (h : ∀ k, t.findsSilent k = false) : t.silenced = t := by
  unfold GameTable.silenced
  rw [vmap_id _ _ fun k => by rw [h k]; rfl, vmap_id _ _ fun n => strandOf_of_none h _]

/-- R39: a trough member is among the entries found silent. -/
def GameTable.losesTrough (t : GameTable) : Prop := ∃ k : Station, t.findsSilent k = true ∧ t.members[k].trough = true

theorem silenceStage_attract (h : w.table.phase = .attract) : w.silenceStage = w := if_pos h

theorem silenceStage_aborts (hp : w.table.phase ≠ .attract) (h : w.table.losesTrough) :
    w.silenceStage.table = w.table.silenced.over := by
  obtain ⟨k, hk, ht⟩ := h
  unfold Work.silenceStage Work.silenceCheck
  rw [if_neg hp, if_pos, troughLossAbort_eq, silenceEntries_eq]
  exact List.any_eq_true.2 ⟨k, mem_indices k, by rw [hk, ht]; rfl⟩

theorem silenceStage_strands (hp : w.table.phase ≠ .attract) (h : ¬w.table.losesTrough) :
    w.silenceStage.table = w.table.silenced := by
  unfold Work.silenceStage Work.silenceCheck
  rw [if_neg hp, if_neg, silenceEntries_eq]
  intro ha
  obtain ⟨k, -, hk⟩ := List.any_eq_true.1 ha
  exact h ⟨k, Bool.and_eq_true _ _ ▸ hk⟩

theorem silenceStage_of_none (h : ∀ k, w.table.findsSilent k = false) : w.silenceStage.table = w.table := by
  by_cases hp : w.table.phase = .attract
  · rw [silenceStage_attract hp]
  · rw [silenceStage_strands hp, silenced_of_none h]
    rintro ⟨k, hk, -⟩
    rw [h k] at hk
    cases hk

/-- A TICK that applies and finds no member silent. -/
theorem leaves_tick_none_silent (hn : TakesNext s f) (hg : PassesGate s f) (hp : f.payload = .tick (s.table.tick + 1#16))
    (hph : s.table.phase ≠ .attract) (hs : NoneSilent (s.table.heard f.sender) (s.table.tick + 1#16)) {k : GameTable}
    (hk : ((tickBegun s.table f).countdown f.sender).table = k) (ht : k.tick = s.table.tick + 1#16)
    (hm : k.members = (s.table.heard f.sender).members) : Leaves .tick s (entryChecked k) := by
  have h := leaves_tick hn hg hp hph
  rwa [silenceStage_of_none, hk] at h
  rw [← noneSilent_iff, hk, ht]
  unfold NoneSilent
  rwa [hm]

/-- Settles O31: a TICK that applies makes its phase's countdown (`countdown_play` and its like), and the silence check
finds nothing. -/
theorem tick : Obligations.Tick := by
  unfold Obligations.Tick
  intro s f number hn hg hp b held advanced
  refine ⟨fun h => ?_, fun hnum hs => ?_⟩
  · exact leaves_of_stage hn hg (by unfold commandOf; rw [hp]) (kindChecks_tick _ _ hp)
      (tickStage_stale (w := Work.begin s.table f) h)
  · subst hnum
    have leaves : ∀ {k : GameTable}, s.table.phase ≠ .attract → ((tickBegun s.table f).countdown f.sender).table = k →
        k.tick = s.table.tick + 1#16 → k.members = b.members → Leaves .tick s (entryChecked k) :=
      fun hph => leaves_tick_none_silent hn hg hp hph hs
    refine ⟨fun h hr => ?_, fun h => ?_, fun h hr => ?_⟩
    · have hl := leaves (h ▸ nofun) (countdown_rollcall (w := tickBegun s.table f) h hr f.sender) rfl rfl
      rwa [entryChecked_of_ne] at hl
      exact (h ▸ nofun : s.table.phase ≠ .play)
    · exact leaves (h ▸ nofun) (countdown_play (w := tickBegun s.table f) h f.sender) rfl rfl
    · have hl := leaves (h ▸ nofun) (countdown_ballEnd (w := tickBegun s.table f) h hr f.sender) rfl rfl
      rwa [entryChecked_of_ne] at hl
      exact (h ▸ nofun : s.table.phase ≠ .play)

end Ticks

end Sys2Proof.Machine

namespace Sys2Proof.Machine

section RollcallEnds

variable {s : State} {f : Frame} {w : Work} {t : GameTable}

/-! ### The end of the roll call (R34, R35, R47) -/

theorem any_members_iff (t : GameTable) (p : Member → Bool) :
    t.members.toList.any p = true ↔ ∃ k : Station, p t.members[k] = true := by
  rw [Vector.any_toList, Vector.any_eq_true]
  exact ⟨fun ⟨i, hi, h⟩ => ⟨⟨i, hi⟩, h⟩, fun ⟨k, h⟩ => ⟨k.val, k.isLt, h⟩⟩

theorem anyMismatched_iff (t : GameTable) :
    t.members.toList.any (fun m => m.state == .mismatched) = true ↔ ∃ k : Station, t.members[k].state = .mismatched := by
  rw [any_members_iff]
  simp only [beq_iff_eq]

/-- The entries of a table, in order. -/
theorem toList_eq_map {α : Type} {n : Nat} (v : Vector α n) : v.toList = (indices n).map fun i => v[i] := by
  rw [← vmap_toList fun _ x => x, vmap_id _ _ fun _ => rfl]

/-- A count over a table is 1 exactly where one index alone is counted. -/
theorem countP_toList_eq_one {α : Type} {n : Nat} (v : Vector α n) (p : α → Bool) :
    v.toList.countP p = 1 ↔ ∃ k : Fin n, p v[k] = true ∧ ∀ j : Fin n, p v[j] = true → j = k := by
  rw [toList_eq_map, List.countP_map, List.countP_eq_length_filter]
  have hmem : ∀ j : Fin n, j ∈ (indices n).filter (p ∘ fun i => v[i]) ↔ p v[j] = true := fun j => by
    rw [List.mem_filter]
    exact and_iff_right (List.mem_finRange j)
  constructor
  · intro h
    obtain ⟨k, hk⟩ := List.length_eq_one_iff.1 h
    simp only [hk, List.mem_singleton] at hmem
    exact ⟨k, (hmem k).1 rfl, fun j hj => (hmem j).2 hj⟩
  · rintro ⟨k, hk, hu⟩
    refine ((List.perm_ext_iff_of_nodup ((List.nodup_finRange n).filter _) (List.nodup_singleton k)).2 fun j => ?_).length_eq
    rw [hmem, List.mem_singleton]
    exact ⟨hu j, fun h => h ▸ hk⟩

/-- R35: the sub-reason that a failed roll call records. -/
def GameTable.rollcallSub (t : GameTable) : SubReason :=
  if t.members.toList.any (fun m => m.state == .mismatched) then .mismatch
  else if t.members.toList.any (fun m => m.state == .member && m.trough) then .twoTroughs
  else .noTrough

theorem rollcallFailure_of_one (hm : ¬∃ k : Station, t.members[k].state = .mismatched)
    (h : ∃ k : Station, (t.members[k].state = .member ∧ t.members[k].trough = true)
      ∧ ∀ j : Station, t.members[j].state = .member ∧ t.members[j].trough = true → j = k) :
    t.rollcallFailure = none := by
  have hone : t.troughMembers = 1 := by
    refine (countP_toList_eq_one _ _).2 ?_
    simpa using h
  unfold GameTable.rollcallFailure
  rw [if_neg (mt (anyMismatched_iff t).1 hm), hone]
  rfl

theorem rollcallFailure_of_not_one
    (h : (∃ k : Station, t.members[k].state = .mismatched)
      ∨ ¬∃ k : Station, (t.members[k].state = .member ∧ t.members[k].trough = true)
        ∧ ∀ j : Station, t.members[j].state = .member ∧ t.members[j].trough = true → j = k) :
    t.rollcallFailure = some t.rollcallSub := by
  unfold GameTable.rollcallFailure GameTable.rollcallSub
  by_cases hany : t.members.toList.any (fun m => m.state == .mismatched) = true
  · rw [if_pos hany, if_pos hany]
  · have hone : t.troughMembers ≠ 1 := fun h1 => by
      refine h.elim (fun hk => hany ((anyMismatched_iff t).2 hk)) fun hk => hk ?_
      simpa using (countP_toList_eq_one _ _).1 h1
    have hpos : t.members.toList.any (fun m => m.state == .member && m.trough) = true ↔ 0 < t.troughMembers := by
      unfold GameTable.troughMembers
      rw [List.countP_pos_iff, List.any_eq_true]
    rw [if_neg hany, if_neg hany]
    by_cases h0 : t.troughMembers = 0
    · rw [if_pos h0, if_neg (mt hpos.1 (by omega))]
    · rw [if_neg h0, if_pos (by omega), if_pos (hpos.2 (by omega))]

theorem heard_any (t : GameTable) (k : Station) (p : Member → Bool)
    (hp : ∀ (m : Member) (x : Word16), p { m with lastHeard := x } = p m) :
    (t.heard k).members.toList.any p = t.members.toList.any p := by
  rw [Bool.eq_iff_iff, any_members_iff, any_members_iff]
  simp only [heard_member, hp]

theorem heard_rollcallSub (t : GameTable) (k : Station) : (t.heard k).rollcallSub = t.rollcallSub := by
  unfold GameTable.rollcallSub
  rw [heard_any _ _ _ fun _ _ => rfl, heard_any _ _ _ fun _ _ => rfl]

theorem endRollcall_enters (h : w.table.rollcallFailure = none) (k : Station) :
    (w.endRollcall k).table = { w.table with phase := .play, servePending := 1, launchSeen := false } := by
  unfold Work.endRollcall
  rw [h]
  rfl

/-- R20: the refusal record of a failed roll call. -/
def rollcallRefusal (t : GameTable) (sender : Station) (sub : SubReason) : RefusalRecord :=
  { kind := .tick, sender := sender, reason := .rollcallFailed, sub := some sub, ordinal := t.ordinal + 1#32, argument := none }

theorem endRollcall_fails {sub : SubReason} (h : w.table.rollcallFailure = some sub) (k : Station) :
    (w.endRollcall k).table = { w.table with refusal := some (rollcallRefusal w.table k sub) }.over := by
  unfold Work.endRollcall
  rw [h]
  exact gameOver_eq _

/-! #### The commands that are the TICK seen by what it brings about (log entry 9) -/

theorem exec_tick (hn : TakesNext s f) {number : Word16} (hp : f.payload = .tick number) :
    exec .tick s = .next (s.taken.application f) := by
  have h := exec_application hn.1
  rwa [show commandOf f = .tick by unfold commandOf; rw [hp]] at h

/-- R26, R27: the TICK is one that applies. -/
theorem tickApplies_of (hn : TakesNext s f) (hg : PassesGate s f) (hp : f.payload = .tick (s.table.tick + 1#16))
    (hph : s.table.phase ≠ .attract) : s.tickApplies f = true := by
  have hgate : s.table.gateRefuses f = false := by
    rw [← Bool.not_eq_true, gateRefuses_iff]
    rintro ⟨-, -, -, hm⟩
    exact hm (hg.resolve_left hph)
  have hadv : s.table.tickAdvances (s.table.tick + 1#16) = true := (tickAdvances_iff _ _).2 ⟨hph, rfl⟩
  unfold State.tickApplies
  rw [hp]
  dsimp only
  rw [hn.2, hgate, hadv]
  rfl

/-- Log entry 9: each of these commands is the whole TICK, where it brings the command's event about. -/
theorem exec_as_tick {c : Instr} {event : Frame → Bool} (hn : TakesNext s f) (hg : PassesGate s f)
    (hp : f.payload = .tick (s.table.tick + 1#16)) (hph : s.table.phase ≠ .attract)
    (hc : exec c s = .next (s.applyNext fun g => s.tickApplies g && event g)) (he : event f = true) :
    exec c s = exec .tick s := by
  rw [hc, exec_tick hn hp, applyNext_eq s _ f hn.1]
  rw [tickApplies_of hn hg hp hph, he]
  rfl

theorem leaves_as_tick {c : Instr} {k : GameTable} (hc : exec c s = exec .tick s) (h : Leaves .tick s k) : Leaves c s k := by
  unfold Leaves
  rwa [hc]

theorem over_slots (t : GameTable) (n : Slot) : t.over.slots[n] = .absent := Vector.getElem_replicate _

/-- The game-over table is neither checked nor changed by the recomputation. -/
theorem recomputed_over {after : GameTable} (h : RecomputedFrom (completionChecked t.over) after) :
    after = { t.over with ordinal := t.ordinal + 1#32 } := by
  rw [completionChecked_of_ne _ (show t.over.phase ≠ .ballEnd from nofun), recomputedFrom_iff,
    light_absent _ _ (over_slots t)] at h
  exact h

/-- Settles O32: the roll call's end by whether it fails (`rollcallFailure_of_one`, `rollcallFailure_of_not_one`). -/
theorem rollcallEnd : Obligations.RollcallEnd := by
  unfold Obligations.RollcallEnd
  intro s f hn hg hp hph hr b member mismatch trough
  have hne : s.table.phase ≠ .attract := hph ▸ nofun
  have hexec : exec .rollcallEnd s = exec .tick s :=
    exec_as_tick (event := fun _ => s.table.rollcallEnds) hn hg hp hne rfl (by simp [GameTable.rollcallEnds, hph, hr])
  have hcount := countdown_rollcall_ends (w := tickBegun s.table f) hph hr f.sender
  have hstate : ∀ k : Station, b.ticked.members[k].state = s.table.members[k].state := heard_state s.table f.sender
  have htrough : ∀ k : Station, b.ticked.members[k].trough = s.table.members[k].trough := heard_trough s.table f.sender
  refine ⟨fun hm ht hs => ?_, fun hbad => ?_⟩
  · have hfail : { b.ticked with rollcallRemaining := 0 }.rollcallFailure = none := by
      refine rollcallFailure_of_one ?_ ?_
      · simp only [hstate]
        exact hm
      · simp only [hstate, htrough]
        exact ht
    have henter := (congrArg Work.table hcount).trans (endRollcall_enters hfail f.sender)
    have hl := leaves_tick_none_silent hn hg hp hne hs henter rfl rfl
    rw [entryChecked_of_not_over] at hl
    · exact leaves_as_tick hexec hl
    · rintro ⟨-, hover⟩
      obtain ⟨-, hserve, -⟩ := (ballOver_iff _).1 hover
      exact absurd hserve Nat.one_ne_zero
  · have hfail : { b.ticked with rollcallRemaining := 0 }.rollcallFailure = some s.table.rollcallSub := by
      refine (rollcallFailure_of_not_one ?_).trans (congrArg some (heard_rollcallSub s.table f.sender))
      simp only [hstate, htrough]
      exact hbad
    have hover := (congrArg Work.table hcount).trans (endRollcall_fails hfail f.sender)
    obtain ⟨t, hex, hrec, hframe⟩ := leaves_as_tick hexec (leaves_tick hn hg hp hne)
    rw [silenceStage_attract (congrArg GameTable.phase hover), hover, entryChecked_of_ne _ (by exact nofun)] at hrec
    have ht := recomputed_over hrec
    refine ⟨t, hex, hframe, ?_⟩
    rw [ht]
    exact ⟨rfl, fun _ => Vector.getElem_replicate _, rfl, rfl, rfl, rfl, rfl, rfl⟩

end RollcallEnds

end Sys2Proof.Machine

namespace Sys2Proof.Machine

/-! ### What the checks behind a TICK's countdown keep (R28, stages 4 to 6) -/

section TickKeeps

variable {P : GameTable → Prop} {t : GameTable} {w : Work}

/-- R42, R44: what the entry to BALL_END, the next ball and game over keep, the two checks keep. -/
theorem checked_of_kept (h : P t) (hin : ∀ u : GameTable, u.phase = .play → u.ballOver = true → P u → P u.inBallEnd)
    (hnext : ∀ u : GameTable, u.phase = .ballEnd → P u → P u.turned.nextBegun)
    (hover : ∀ u : GameTable, P u → P u.turned.over) : P (completionChecked (entryChecked t)) := by
  have hentry : P (entryChecked t) := by
    by_cases hb : t.phase = .play ∧ t.ballOver = true
    · rw [entryChecked_of_over hb.1 hb.2]
      exact hin t hb.1 hb.2 h
    · rwa [entryChecked_of_not_over hb]
  rcases completionChecked_cases (entryChecked t) with hc | ⟨hp, hc⟩
  · rwa [hc]
  · rw [hc]
    unfold GameTable.ended
    split
    · exact hover _ hentry
    · exact hnext _ hp hentry

/-- R37, R39: what the silence of members and game over keep, the silence check keeps. -/
theorem silenceStage_of_kept (h : P w.table) (hs : ∀ u : GameTable, P u → P u.silenced)
    (hover : ∀ u : GameTable, P u → P u.over) : P w.silenceStage.table := by
  by_cases hp : w.table.phase = .attract
  · rwa [silenceStage_attract hp]
  · by_cases hl : w.table.losesTrough
    · rw [silenceStage_aborts hp hl]
      exact hover _ (hs _ h)
    · rw [silenceStage_strands hp hl]
      exact hs _ h

end TickKeeps

/-! #### HOLD_EXPIRY (R80) -/

section HoldExpiry

variable {s : State} {f : Frame} {t : GameTable} {k : Station}

theorem holdExpires_of (h : t.holds[k] = some (t.tick + 1#16)) : t.holdExpires = true := by
  unfold GameTable.holdExpires
  rw [Vector.any_toList, Vector.any_eq_true]
  exact ⟨k.val, k.isLt, beq_iff_eq.2 h⟩

theorem ticked_hold (h : t.holds[k] = some (t.tick + 1#16) ∨ t.holds[k] = none) : t.ticked.holds[k] = none := by
  unfold GameTable.ticked
  rw [vmap_get_fin]
  rcases h with h | h <;> simp [h]

/-- R70: no stage of a TICK behind the expiry adds to the hold set. -/
theorem tick_holds_none (hp : f.payload.kind = .tick) (h : (tickBegun t f).table.holds[k] = none) :
    (completionChecked (entryChecked ((tickBegun t f).countdown f.sender).silenceStage.table)).holds[k] = none := by
  rw [← ballEndEntryCheck_table, ← completionCheck_table]
  have told : Settled f (tickBegun t f)
      ((tickBegun t f).countdown f.sender).silenceStage.ballEndEntryCheck.completionCheck :=
    (((Told.refl (v := tickBegun t f)).countdownStage rfl rfl f.sender).silenceStage).ballEndEntryCheck.completionCheck
  by_contra hk
  rcases told.holds k hk with hb | ⟨hh, -⟩
  · exact hb h
  · rw [hp] at hh
    cases hh

end HoldExpiry

/-! #### SAVE_WINDOW_CLOSE (R70) -/

section SaveWindow

variable {f : Frame} {t : GameTable} {w : Work}

theorem holdsEmpty_of_none (h : ∀ k : Station, t.holds[k] = none) : t.holdsEmpty = true := by
  unfold GameTable.holdsEmpty
  rw [Vector.all_toList, Vector.all_eq_true]
  exact fun i hi => Option.isNone_iff_eq_none.2 (h ⟨i, hi⟩)

theorem ticked_holdsEmpty (h : ∀ k : Station, t.holds[k] = none) : t.ticked.holdsEmpty = true :=
  holdsEmpty_of_none fun k => ticked_hold (.inr (h k))

theorem counted_saveWindow (h : t.holdsEmpty = true) : t.counted.saveWindow = t.saveWindow - 1 := if_pos h

theorem closed_window_stays (h : w.table.saveWindow = 0) :
    (completionChecked (entryChecked w.silenceStage.table)).saveWindow = 0 :=
  checked_of_kept (P := fun u => u.saveWindow = 0)
    (silenceStage_of_kept (P := fun u => u.saveWindow = 0) h (fun _ hu => hu) fun _ _ => rfl)
    (fun _ _ _ _ => rfl) (fun _ _ hu => hu) fun _ _ => rfl

end SaveWindow

/-! #### MODE_EXPIRY (R82) -/

section ModeExpiry

variable {t : GameTable} {w : Work} {m : ModeId} {p : PlayerIx}

/-- The entry is of the mode and the player. -/
def ModeEntry.isOf (m : ModeId) (p : PlayerIx) (e : ModeEntry) : Bool := e.mode == m && e.player == p

/-- The number of a player's entries for a mode. -/
def GameTable.entriesOf (t : GameTable) (m : ModeId) (p : PlayerIx) : Nat := t.modes.countP (ModeEntry.isOf m p)

/-- A change that keeps the mode and the player of every entry that it does not remove. -/
def KeepsKey (g : ModeEntry → Option ModeEntry) : Prop := ∀ e d, g e = some d → d.mode = e.mode ∧ d.player = e.player

theorem isOf_of_keepsKey {g : ModeEntry → Option ModeEntry} (h : KeepsKey g) (e : ModeEntry)
    (hd : ((g e).map (ModeEntry.isOf m p)).getD false = true) : e.isOf m p = true := by
  cases hg : g e with
  | none => rw [hg] at hd; cases hd
  | some d =>
    obtain ⟨hm, hpl⟩ := h e d hg
    rw [hg] at hd
    unfold ModeEntry.isOf at hd ⊢
    rw [← hm, ← hpl]
    exact hd

theorem countP_isOf_le {g : ModeEntry → Option ModeEntry} (h : KeepsKey g) (l : List ModeEntry) :
    (l.filterMap g).countP (ModeEntry.isOf m p) ≤ l.countP (ModeEntry.isOf m p) := by
  rw [List.countP_filterMap]
  exact List.countP_mono_left fun e _ => isOf_of_keepsKey h e

/-- An entry removed lowers the count of its mode and player. -/
theorem countP_isOf_lt {g : ModeEntry → Option ModeEntry} (h : KeepsKey g) {e : ModeEntry} {l : List ModeEntry} (he : e ∈ l)
    (hg : g e = none) : (l.filterMap g).countP (ModeEntry.isOf e.mode e.player) < l.countP (ModeEntry.isOf e.mode e.player) := by
  obtain ⟨a, b, rfl⟩ := List.append_of_mem he
  have hself : e.isOf e.mode e.player = true := by simp [ModeEntry.isOf]
  have ha := countP_isOf_le (m := e.mode) (p := e.player) h a
  have hb := countP_isOf_le (m := e.mode) (p := e.player) h b
  rw [List.filterMap_append, List.filterMap_cons_none hg, List.countP_append, List.countP_append, List.countP_cons_of_pos hself]
  omega

theorem keepsKey_ite {c : ModeEntry → Prop} [DecidablePred c] {g g' : ModeEntry → Option ModeEntry} (h : KeepsKey g)
    (h' : KeepsKey g') : KeepsKey fun e => if c e then g e else g' e := fun e d hd => by
  dsimp only at hd
  split at hd
  · exact h e d hd
  · exact h' e d hd

theorem keepsKey_some {g : ModeEntry → ModeEntry} (h : ∀ e, (g e).mode = e.mode ∧ (g e).player = e.player) :
    KeepsKey fun e => some (g e) := fun e d hd => by
  cases hd
  exact h e

theorem keepsKey_none : KeepsKey fun _ => none := fun _ _ hd => nomatch hd

theorem counted_entries {e : ModeEntry} (he : e ∈ t.modes) (hr : e.state = .running) (h1 : e.remaining = 1) :
    t.counted.entriesOf e.mode e.player < t.entriesOf e.mode e.player := by
  refine countP_isOf_lt ?_ he (by simp [hr, h1])
  exact keepsKey_ite (keepsKey_ite keepsKey_none (keepsKey_some fun _ => ⟨rfl, rfl⟩)) (keepsKey_some fun _ => ⟨rfl, rfl⟩)

theorem inBallEnd_entries (t : GameTable) : t.inBallEnd.entriesOf m p ≤ t.entriesOf m p := by
  refine countP_isOf_le ?_ t.modes
  exact keepsKey_ite (keepsKey_ite (keepsKey_some fun _ => ⟨rfl, rfl⟩) keepsKey_none) (keepsKey_some fun _ => ⟨rfl, rfl⟩)

theorem countP_isOf_map {g : ModeEntry → ModeEntry} (h : ∀ e, (g e).mode = e.mode ∧ (g e).player = e.player)
    (l : List ModeEntry) : (l.map g).countP (ModeEntry.isOf m p) = l.countP (ModeEntry.isOf m p) := by
  rw [List.countP_map]
  refine List.countP_congr fun e _ => ?_
  obtain ⟨hm, hpl⟩ := h e
  unfold ModeEntry.isOf
  rw [Function.comp_apply, hm, hpl]

theorem nextBegun_entries (t : GameTable) : t.nextBegun.entriesOf m p = t.entriesOf m p :=
  countP_isOf_map (fun e => by split <;> exact ⟨rfl, rfl⟩) t.modes

theorem repaused_key (t : GameTable) (e : ModeEntry) : (repaused t e).mode = e.mode ∧ (repaused t e).player = e.player := by
  unfold repaused
  split <;> exact ⟨rfl, rfl⟩

theorem recomputed_entries {after : GameTable} (h : RecomputedFrom t after) : after.entriesOf m p = t.entriesOf m p := by
  rw [recomputedFrom_iff] at h
  rw [h]
  exact countP_isOf_map (repaused_key t) t.modes

/-- No stage behind the countdown adds an entry. -/
theorem fewer_entries_stay {n : Nat} (h : w.table.entriesOf m p < n) :
    (completionChecked (entryChecked w.silenceStage.table)).entriesOf m p < n :=
  checked_of_kept (P := fun u => u.entriesOf m p < n)
    (silenceStage_of_kept (P := fun u => u.entriesOf m p < n) h (fun _ hu => hu) fun _ hu => Nat.zero_lt_of_lt hu)
    (fun u _ _ hu => (inBallEnd_entries u).trans_lt hu) (fun u _ hu => (nextBegun_entries u.turned).trans_lt hu)
    fun _ hu => Nat.zero_lt_of_lt hu

end ModeExpiry

/-! #### BALL_END_LIMIT (R45) -/

section BallEndLimit

variable {t : GameTable} {w : Work}

/-- The ball end is behind the table: the game is over, or the next ball waits for its serve. -/
structure BallEnded (t : GameTable) : Prop where
  phase     : t.phase ≠ .ballEnd
  serves    : t.phase = .play → t.servePending ≠ 0
  returning : t.returning = 0
  remaining : t.ballEndRemaining = 0

theorem ballEnded_over (t : GameTable) : BallEnded t.over := ⟨nofun, nofun, rfl, rfl⟩

theorem ballEnded_ended (h : t.returning = 0) : BallEnded t.ended := by
  unfold GameTable.ended
  split
  · exact ballEnded_over _
  · exact ⟨nofun, fun _ => nofun, h, rfl⟩

theorem BallEnded.stays (h : BallEnded w.table) : BallEnded (completionChecked (entryChecked w.silenceStage.table)) :=
  checked_of_kept
    (silenceStage_of_kept h (fun _ hu => ⟨hu.phase, hu.serves, hu.returning, hu.remaining⟩) fun u _ => ballEnded_over u)
    (fun u hp hb hu => absurd ((ballOver_iff u).1 hb).2.1 (hu.serves hp))
    (fun _ hp hu => absurd hp hu.phase) fun u _ => ballEnded_over u.turned

end BallEndLimit

/-! #### SILENCE (R37 to R39) -/

section Silence

variable {t : GameTable} {w : Work} {k : Station}

/-- A countdown that ends neither the roll call nor the ball end. -/
theorem countdown_ongoing (h : w.table.phase = .play ∨ w.table.phase = .rollcall ∧ 1 < w.table.rollcallRemaining
      ∨ w.table.phase = .ballEnd ∧ 1 < w.table.ballEndRemaining) (k : Station) :
    (w.countdown k).table.phase = w.table.phase ∧ (w.countdown k).table.tick = w.table.tick
      ∧ (w.countdown k).table.members = w.table.members ∧ (w.countdown k).table.slots = w.table.slots := by
  rcases h with h | ⟨h, hr⟩ | ⟨h, hr⟩
  · rw [countdown_play h]
    exact ⟨rfl, rfl, rfl, rfl⟩
  · rw [countdown_rollcall h hr]
    exact ⟨rfl, rfl, rfl, rfl⟩
  · rw [countdown_ballEnd h hr]
    exact ⟨rfl, rfl, rfl, rfl⟩

/-- R38, R39, R47: how a table stands whose member `k`, a trough member or not, has been found silent over the slots
`old`. -/
structure FoundSilent (k : Station) (trough : Bool) (old : Vector SlotRecord 8) (t : GameTable) : Prop where
  silent : t.members[k].state = .silent
  aborts : trough = true → t.phase = .attract ∧ t.modes = []
  slots  : ∀ n : Slot, old[n].owner = some k → t.slots[n] = if t.phase = .attract then .absent else strand old[n]

variable {trough : Bool} {old : Vector SlotRecord 8}

theorem silenced_silent (h : t.findsSilent k = true) : t.silenced.members[k].state = .silent := by
  unfold GameTable.silenced
  rw [vmap_get_fin, if_pos h]

theorem FoundSilent.over (h : t.members[k].state = .silent) : FoundSilent k trough old t.over :=
  ⟨h, fun _ => ⟨rfl, rfl⟩, fun n _ => over_slots t n⟩

theorem foundSilent_silenceStage (hp : w.table.phase ≠ .attract) (h : w.table.findsSilent k = true) :
    FoundSilent k w.table.members[k].trough w.table.slots w.silenceStage.table := by
  by_cases hl : w.table.losesTrough
  · rw [silenceStage_aborts hp hl]
    exact .over (silenced_silent h)
  · rw [silenceStage_strands hp hl]
    refine ⟨silenced_silent h, fun ht => absurd ⟨k, h, ht⟩ hl, fun n hn => ?_⟩
    rw [if_neg (show w.table.silenced.phase ≠ .attract from hp)]
    exact (vmap_get_fin _ _ n).trans ((strandOf_owned hn).trans (if_pos h))

/-- R38: a stranded slot is neither released for the ball end nor lit. -/
theorem ballEndSlot_strand (r : SlotRecord) : ballEndSlot (strand r) = strand r := by cases r <;> rfl

theorem light_strand (lit : Bool) (r : SlotRecord) : light lit (strand r) = strand r := by cases r <;> rfl

/-- A change of a game that goes on, which leaves the members and the stranded slots. -/
theorem FoundSilent.goesOn {u : GameTable} (h : FoundSilent k trough old t) (hp : t.phase ≠ .attract)
    (hu : u.phase ≠ .attract) (hm : u.members = t.members)
    (hs : ∀ n : Slot, t.slots[n] = strand old[n] → u.slots[n] = strand old[n]) : FoundSilent k trough old u := by
  refine ⟨by rw [hm]; exact h.silent, fun ht => absurd (h.aborts ht).1 hp, fun n hn => ?_⟩
  have hn := h.slots n hn
  rw [if_neg hp] at hn
  rw [if_neg hu]
  exact hs n hn

theorem FoundSilent.inBallEnd (h : FoundSilent k trough old t) (hp : t.phase = .play) :
    FoundSilent k trough old t.inBallEnd :=
  h.goesOn (hp ▸ nofun) nofun rfl fun n hs =>
    (vmap_get_fin _ _ n).trans ((congrArg ballEndSlot hs).trans (ballEndSlot_strand _))

theorem FoundSilent.nextBegun (h : FoundSilent k trough old t) (hp : t.phase = .ballEnd) :
    FoundSilent k trough old t.turned.nextBegun :=
  h.goesOn (hp ▸ nofun) nofun rfl fun _ hs => hs

theorem FoundSilent.checked (h : FoundSilent k trough old t) : FoundSilent k trough old (completionChecked (entryChecked t)) :=
  checked_of_kept h (fun _ hp _ hu => hu.inBallEnd hp) (fun _ hp hu => hu.nextBegun hp) fun _ hu => .over hu.silent

theorem FoundSilent.recomputed {after : GameTable} (h : FoundSilent k trough old t) (hr : RecomputedFrom t after) :
    FoundSilent k trough old after := by
  rw [recomputedFrom_iff] at hr
  rw [hr]
  refine ⟨h.silent, fun ht => ?_, fun n hn => ?_⟩
  · obtain ⟨hp, hm⟩ := h.aborts ht
    exact ⟨hp, by dsimp only; rw [hm]; rfl⟩
  · dsimp only
    rw [vmap_get_fin, h.slots n hn]
    split
    · rfl
    · exact light_strand _ _

/-- The silence of a member behind a countdown that ends nothing. -/
theorem tick_found_silent {s : State} {f : Frame}
    (h : s.table.phase = .play ∨ s.table.phase = .rollcall ∧ 1 < s.table.rollcallRemaining
      ∨ s.table.phase = .ballEnd ∧ 1 < s.table.ballEndRemaining) (hk : k ≠ f.sender)
    (hm : s.table.members[k].state = .member) (hl : 30 ≤ (s.table.tick + 1#16 - s.table.members[k].lastHeard).toNat) :
    s.table.silenceFound f = true
      ∧ FoundSilent k s.table.members[k].trough s.table.slots
        (completionChecked (entryChecked ((tickBegun s.table f).countdown f.sender).silenceStage.table)) := by
  obtain ⟨hph, htick, hmem, hslots⟩ := countdown_ongoing (w := tickBegun s.table f) h f.sender
  have hne : ((tickBegun s.table f).countdown f.sender).table.phase ≠ .attract := by
    rw [hph]
    show s.table.phase ≠ .attract
    rcases h with h | ⟨h, -⟩ | ⟨h, -⟩ <;> rw [h] <;> exact nofun
  have hkm : ((tickBegun s.table f).countdown f.sender).table.members[k] = s.table.members[k] := by
    rw [hmem]
    exact (heard_member s.table f.sender k).trans (by rw [if_neg hk])
  have hfound : ((tickBegun s.table f).countdown f.sender).table.findsSilent k = true := by
    rw [findsSilent_iff, hkm, htick]
    exact ⟨hm, hl⟩
  constructor
  · unfold GameTable.silenceFound
    dsimp only
    rw [bne_iff_ne.2 hne, List.any_eq_true.2 ⟨k, mem_indices k, hfound⟩]
    rfl
  · have hs := foundSilent_silenceStage hne hfound
    rw [hkm, hslots] at hs
    exact hs.checked

end Silence

/-- Settles O33: each command is the TICK (`exec_as_tick`), and what its event brings about outlasts the TICK's later
stages. -/
theorem tickBringsAbout : Obligations.TickBringsAbout := by
  unfold Obligations.TickBringsAbout
  intro s f hn hg hp hph
  obtain ⟨t, hex, hrec, -⟩ := leaves_tick hn hg hp hph
  have ht := (recomputedFrom_iff _ _).1 hrec
  have hkind : f.payload.kind = .tick := by rw [hp]; rfl
  have asTick : ∀ {c : Instr} (event : Frame → Bool),
      exec c s = .next (s.applyNext fun g => s.tickApplies g && event g) → event f = true → exec c s = .next t :=
    fun _ hc he => (exec_as_tick hn hg hp hph hc he).trans hex
  refine ⟨fun k hk => ?_, fun hplay hw hh => ?_, fun e he hplay hrun hrem => ?_, fun hbe hlim => ?_,
    fun k hon hk hm hl => ?_⟩
  · refine ⟨t, asTick (fun _ => s.table.holdExpires) rfl (holdExpires_of hk), hex, ?_⟩
    rw [ht]
    exact tick_holds_none hkind (ticked_hold (t := s.table.heard f.sender) (.inl hk))
  · have hempty : (tickBegun s.table f).table.holdsEmpty = true := ticked_holdsEmpty (t := s.table.heard f.sender) hh
    have hclosed : ((tickBegun s.table f).countdown f.sender).table.saveWindow = 0 := by
      rw [countdown_play (w := tickBegun s.table f) hplay, counted_saveWindow hempty]
      exact congrArg (· - 1) hw
    refine ⟨t, asTick s.table.windowCloses rfl ?_, hex, ?_⟩
    · unfold GameTable.windowCloses
      rw [hplay, hw, hempty]
      rfl
    · rw [ht]
      exact closed_window_stays hclosed
  · have hfewer : ((tickBegun s.table f).countdown f.sender).table.entriesOf e.mode e.player
        < s.table.entriesOf e.mode e.player := by
      rw [countdown_play (w := tickBegun s.table f) hplay]
      exact counted_entries he hrun hrem
    refine ⟨t, asTick (fun _ => s.table.modeExpires) rfl ?_, hex, ?_⟩
    · unfold GameTable.modeExpires
      rw [hplay, List.any_eq_true.2 ⟨e, he, by rw [hrun, hrem]; rfl⟩]
      rfl
    · rw [← List.countP_eq_length_filter, ← List.countP_eq_length_filter]
      exact (recomputed_entries hrec).trans_lt (fewer_entries_stay hfewer)
  · have hended : BallEnded ((tickBegun s.table f).countdown f.sender).table := by
      rw [countdown_ballEnd_ends (w := tickBegun s.table f) hbe (Nat.le_of_eq hlim)]
      exact ballEnded_ended rfl
    obtain ⟨hphase, -, hret, hrem⟩ := hended.stays
    refine ⟨t, asTick (fun _ => s.table.limitReached) rfl ?_, hex, ?_⟩
    · unfold GameTable.limitReached
      rw [hbe, hlim]
      rfl
    · rw [ht]
      exact ⟨hphase, hret, hrem⟩
  · obtain ⟨hfound, hsilent⟩ := tick_found_silent hon hk hm hl
    obtain ⟨hst, habort, hslots⟩ := hsilent.recomputed hrec
    refine ⟨t, asTick s.table.silenceFound rfl hfound, hex, hst, habort, fun n hown => ?_⟩
    rw [hslots n hown]
    cases s.table.slots[n] <;> rfl

end Sys2Proof.Machine

namespace Sys2Proof.Machine

/-! ### JOIN (R31 to R33) -/

section Counting

variable {t u : GameTable}

/-- A table with one entry replaced that was not counted by one that is. -/
theorem countP_replaced {α : Type} {n : Nat} (v : Vector α n) (p : α → Bool) (a : Fin n) (r : α) (hv : p v[a] = false)
    (hr : p r = true) : (vmap (fun k old => if k = a then r else old) v).toList.countP p = v.toList.countP p + 1 := by
  obtain ⟨l, l', hl⟩ : ∃ l l', indices n = l ++ a :: l' := List.append_of_mem (List.mem_finRange a)
  have hnd : (l ++ a :: l').Nodup := hl ▸ List.nodup_finRange n
  have hne : ∀ k, k ∈ l ∨ k ∈ l' → k ≠ a := by
    rintro k hk rfl
    exact (List.nodup_cons.1 (List.nodup_middle.1 hnd)).1 (List.mem_append.2 hk)
  have same : ∀ m : List (Fin n), (∀ k ∈ m, k ≠ a) →
      m.countP (p ∘ fun k => if k = a then r else v[k]) = m.countP (p ∘ fun k => v[k]) := fun m hm =>
    List.countP_congr fun k hk => by rw [Function.comp_apply, if_neg (hm k hk), Function.comp_apply]
  rw [vmap_toList, toList_eq_map v, List.countP_map, List.countP_map, hl, List.countP_append, List.countP_append,
    same l fun k hk => hne k (.inl hk), List.countP_cons_of_pos (by simpa using hr),
    List.countP_cons_of_neg (by simpa using hv), same l' fun k hk => hne k (.inr hk)]
  rfl

theorem occupiedSlots_congr (h : ∀ n : Slot, u.slots[n].occupied = t.slots[n].occupied) :
    u.occupiedSlots = t.occupiedSlots := by
  unfold GameTable.occupiedSlots
  rw [toList_eq_map u.slots, toList_eq_map t.slots, List.countP_map, List.countP_map]
  exact List.countP_congr fun n _ => by rw [Function.comp_apply, Function.comp_apply, h n]

/-- R50: a ball enters a slot that was not occupied. -/
theorem countedTotal_withSlot {n : Slot} {r : SlotRecord} (h : t.slots[n].occupied = false) (hr : r.occupied = true) :
    (withSlot t n r).countedTotal = t.countedTotal + 1 :=
  congrArg (t.inPlay + t.returning + ·) (countP_replaced t.slots SlotRecord.occupied n r h hr)

theorem vector_ext_fin {α : Type} {n : Nat} {u v : Vector α n} (h : ∀ i : Fin n, u[i] = v[i]) : u = v :=
  Vector.ext fun i hi => h ⟨i, hi⟩

theorem withSlot_slot (t : GameTable) (n : Slot) (r : SlotRecord) (k : Slot) :
    (withSlot t n r).slots[k] = if k = n then r else t.slots[k] := vmap_get_fin _ _ k

theorem withMember_member (t : GameTable) (k : Station) (x : Member) (j : Station) :
    (withMember t k x).members[j] = if j = k then x else t.members[j] := vmap_get_fin _ _ j

theorem withMember_withMember (t : GameTable) (k : Station) (x y : Member) :
    withMember (withMember t k x) k y = withMember t k y := by
  refine congrArg (fun ms => { t with members := ms })
    (vector_ext_fin (u := (withMember (withMember t k x) k y).members) (v := (withMember t k y).members) fun j => ?_)
  rw [withMember_member, withMember_member, withMember_member]
  split <;> rfl

end Counting

section Occupied

variable {t : GameTable} {w : Work} {k : Station} {l : List Slot} {a n : Slot}

/-- R33: the ball law admits slot `n` of the occupied slots `l`, those before it having been dealt with. -/
abbrev Admits (t : GameTable) (l : List Slot) (n : Slot) : Prop :=
  t.countedTotal + (l.filter fun j => decide (j < n)).length < t.profile.ballsInstalled

/-- R33: the refusal record behind the occupied slots, `last` the last one not admitted. -/
def GameTable.strayed (t : GameTable) (k : Station) (last : Option Slot) : Option RefusalRecord :=
  match last with
  | some n =>
    some { kind := .join, sender := k, reason := .stray, sub := none, ordinal := t.ordinal + 1#32, argument := some n }
  | none => t.refusal

/-- R33: the table behind the occupied slots `l`. -/
def GameTable.cleared (t : GameTable) (k : Station) (l : List Slot) : GameTable :=
  { t with
    slots := vmap (fun n r => if n ∈ l ∧ Admits t l n then .releasing k .clear else r) t.slots
    refusal := t.strayed k (l.filter fun n => !decide (Admits t l n)).getLast? }

theorem cleared_slot (t : GameTable) (k : Station) (l : List Slot) (n : Slot) :
    (t.cleared k l).slots[n] = if n ∈ l ∧ Admits t l n then .releasing k .clear else t.slots[n] := vmap_get_fin _ _ n

theorem not_admits_of_full (h : t.profile.ballsInstalled ≤ t.countedTotal) (l : List Slot) (n : Slot) : ¬Admits t l n :=
  Nat.not_lt.2 (h.trans (Nat.le_add_right _ _))

/-- With every ball counted no slot is admitted, and each takes the refusal record in turn. -/
theorem cleared_of_full (h : t.profile.ballsInstalled ≤ t.countedTotal) (l : List Slot) :
    t.cleared k l = { t with refusal := t.strayed k l.getLast? } := by
  have hno := not_admits_of_full h l
  unfold GameTable.cleared
  rw [vmap_id _ _ fun n => if_neg fun hn => hno n hn.2, List.filter_eq_self.2 fun n _ => by simp [hno n]]

/-- A first slot that is admitted is counted before the slots behind it. -/
theorem admits_cons (hocc : t.slots[a].occupied = false) (hn : a < n) :
    Admits t (a :: l) n ↔ Admits (withSlot t a (.releasing k .clear)) l n := by
  unfold Admits
  rw [countedTotal_withSlot hocc rfl, List.filter_cons_of_pos (by simpa using hn), List.length_cons, Nat.add_assoc,
    Nat.add_comm 1]
  rfl

/-- The first slot is admitted where a ball is left to count. -/
theorem admits_first (h : t.countedTotal < t.profile.ballsInstalled) (hl : ∀ n ∈ l, a < n) : Admits t (a :: l) a := by
  unfold Admits
  rw [List.filter_eq_nil_iff.2]
  · exact h
  · intro n hn
    rcases List.mem_cons.1 hn with rfl | hn
    · simp
    · simpa using (hl n hn).le

theorem cleared_cons (h : t.countedTotal < t.profile.ballsInstalled) (hocc : t.slots[a].occupied = false)
    (hl : ∀ n ∈ l, a < n) : t.cleared k (a :: l) = (withSlot t a (.releasing k .clear)).cleared k l := by
  have hslots : (t.cleared k (a :: l)).slots = ((withSlot t a (.releasing k .clear)).cleared k l).slots := by
    refine vector_ext_fin fun n => ?_
    rw [cleared_slot, cleared_slot, withSlot_slot]
    by_cases hna : n = a
    · subst hna
      rw [if_pos ⟨List.mem_cons_self, admits_first h hl⟩, if_pos rfl, ite_self]
    · by_cases hnl : n ∈ l
      · simp only [List.mem_cons, hna, hnl, false_or, true_and, if_false, admits_cons (k := k) hocc (hl n hnl)]
      · simp [hna, hnl]
  have hlast : (a :: l).filter (fun n => !decide (Admits t (a :: l) n)) =
      l.filter fun n => !decide (Admits (withSlot t a (.releasing k .clear)) l n) := by
    rw [List.filter_cons_of_neg (by simpa using admits_first h hl)]
    refine List.filter_congr fun n hn => ?_
    rw [decide_eq_decide.2 (admits_cons (k := k) hocc (hl n hn))]
  exact congrArg₂ (fun x y => { t with slots := x, refusal := t.strayed k y.getLast? }) hslots hlast

/-- R33: the occupied slots, in ascending order. -/
theorem foldl_clearOccupied (k : Station) (l : List Slot) : ∀ w : Work, l.Pairwise (· < ·) →
    (∀ n ∈ l, w.table.slots[n].occupied = false) → (l.foldl (Work.clearOccupied k) w).table = w.table.cleared k l := by
  induction l with
  | nil =>
    intro w _ _
    unfold GameTable.cleared
    rw [vmap_id _ _ fun n => if_neg fun h => nomatch h.1]
    rfl
  | cons a l ih =>
    intro w hl hocc
    obtain ⟨hlt, hl⟩ := List.pairwise_cons.1 hl
    have ha := hocc a List.mem_cons_self
    rw [List.foldl_cons]
    by_cases h : w.table.countedTotal < w.table.profile.ballsInstalled
    · rw [show Work.clearOccupied k w a = w.setSlot a (.releasing k .clear) from if_pos h, ih _ hl ?_, setSlot_table,
        cleared_cons h ha hlt]
      intro n hn
      rw [setSlot_table, withSlot_slot, if_neg (hlt n hn).ne']
      exact hocc n (List.mem_cons_of_mem _ hn)
    · have hfull := Nat.not_lt.1 h
      rw [show Work.clearOccupied k w a = w.recordRefusal .join k .stray none (some a) from if_neg h]
      refine (ih (w.recordRefusal .join k .stray none (some a)) hl fun n hn => hocc n (List.mem_cons_of_mem _ hn)).trans ?_
      rw [cleared_of_full hfull, List.getLast?_cons]
      refine (cleared_of_full (t := { w.table with refusal := w.table.strayed k (some a) }) hfull l).trans ?_
      cases l.getLast? <;> rfl

end Occupied

section Join

variable {s : State} {f : Frame} {w : Work} {t : GameTable} {k : Station} {digest : Word16} {declared occupied roles : Byte}

theorem updMember_eq_withMember (w : Work) (k : Station) (g : Member → Member) :
    (w.updMember k g).table = withMember w.table k (g w.table.members[k]) := by
  refine congrArg (fun ms => { w.table with members := ms }) (vmap_congr fun j => ?_)
  by_cases hj : j = k
  · rw [if_pos hj, if_pos hj, hj]
  · rw [if_neg hj, if_neg hj]

theorem memberBecomes_eq_withMember (w : Work) (k : Station) (st : MemberState) :
    (w.memberBecomes k st).table = withMember w.table k { w.table.members[k] with state := st } :=
  updMember_eq_withMember w k _

/-- R32: the table with the sender's entry as its JOIN makes it, in the state `st`. -/
def GameTable.joined (t : GameTable) (k : Station) (st : MemberState) (digest : Word16) (declared roles : Byte) : GameTable :=
  withMember { t with referenceDigest := some (t.referenceDigest.getD digest) } k
    { t.members[k] with
      state := st, declared := declared, trough := roles.getLsbD 0, start := roles.getLsbD 1, digest := some digest }

/-- R32, steps 1 and 2: the work with the sender's fields and the reference digest taken. -/
def Work.declares (w : Work) (k : Station) (digest : Word16) (declared roles : Byte) : Work :=
  (w.updMember k fun m =>
    { m with declared := declared, trough := roles.getLsbD 0, start := roles.getLsbD 1, digest := some digest }).upd
    fun t => { t with referenceDigest := some (t.referenceDigest.getD digest) }

theorem declares_eq (w : Work) (k : Station) (digest : Word16) (declared roles : Byte) :
    (w.declares k digest declared roles).table =
      w.table.joined k w.table.members[k].state digest declared roles :=
  congrArg (fun t : GameTable => { t with referenceDigest := some (w.table.referenceDigest.getD digest) })
    (updMember_eq_withMember w k _)

theorem declares_becomes (w : Work) (k : Station) (st : MemberState) (digest : Word16) (declared roles : Byte) :
    ((w.declares k digest declared roles).memberBecomes k st).table = w.table.joined k st digest declared roles := by
  rw [memberBecomes_eq_withMember, declares_eq]
  unfold GameTable.joined
  rw [withMember_member, if_pos rfl, withMember_withMember]

/-- R32: the digest agrees with the reference, or becomes it. -/
abbrev Matches (t : GameTable) (digest : Word16) : Prop := t.referenceDigest = none ∨ t.referenceDigest = some digest

/-- R32: no declared slot is taken. -/
abbrev SlotsFree (t : GameTable) (declared : Byte) : Prop :=
  ∀ n : Slot, declared.getLsbD n.val = true → t.slots[n] = .absent

theorem matches_iff : Matches t digest ↔ some (t.referenceDigest.getD digest) = some digest := by
  unfold Matches
  cases t.referenceDigest <;> simp

theorem slotsFree_iff :
    SlotsFree t declared ↔ ¬(indices 8).any (fun n => declared.getLsbD n.val && t.slots[n] != .absent) = true := by
  simp [SlotsFree]

/-- R33: the occupied ones of the declared slots. -/
abbrev occupiedOf (declared occupied : Byte) : List Slot :=
  (indices 8).filter fun n => (declared &&& occupied).getLsbD n.val

theorem judgeJoin_mismatched (h : ¬(Matches w.table digest ∧ SlotsFree w.table declared)) :
    (w.judgeJoin k digest declared occupied roles).table = w.table.joined k .mismatched digest declared roles := by
  rw [← declares_becomes]
  unfold Work.judgeJoin
  by_cases hm : Matches w.table digest
  · have hs := mt (fun hs => And.intro hm (slotsFree_iff.2 hs)) h
    exact congrArg Work.table ((if_neg (not_not.2 (matches_iff.1 hm))).trans (if_pos (not_not.1 hs)))
  · exact congrArg Work.table (if_pos (mt matches_iff.2 hm))

theorem judgeJoin_admitted (hm : Matches w.table digest) (hs : SlotsFree w.table declared) :
    w.judgeJoin k digest declared occupied roles = (w.declares k digest declared roles).admission k declared occupied := by
  unfold Work.judgeJoin
  exact (if_neg (not_not.2 (matches_iff.1 hm))).trans (if_neg (slotsFree_iff.1 hs))

/-- R32, step 5: the declared slots made DARK. -/
def GameTable.declaresSlots (t : GameTable) (k : Station) (declared : Byte) : GameTable :=
  { t with slots := vmap (fun n r => if declared.getLsbD n.val then .dark k else r) t.slots }

theorem declaresSlots_slot (t : GameTable) (k : Station) (declared : Byte) (n : Slot) :
    (t.declaresSlots k declared).slots[n] = if declared.getLsbD n.val then .dark k else t.slots[n] := vmap_get_fin _ _ n

theorem mem_occupiedOf {n : Slot} (h : n ∈ occupiedOf declared occupied) : declared.getLsbD n.val = true := by
  have := (List.mem_filter.1 h).2
  rw [BitVec.getLsbD_and, Bool.and_eq_true] at this
  exact this.1

theorem admission_eq (w : Work) (k : Station) (declared occupied : Byte) :
    (w.admission k declared occupied).table =
      ((w.memberBecomes k .member).table.declaresSlots k declared).cleared k (occupiedOf declared occupied) := by
  unfold Work.admission
  rw [foldl_clearOccupied]
  · rfl
  · exact (List.pairwise_lt_finRange 8).filter _
  · intro n hn
    rw [mapSlots_table, vmap_get_fin, if_pos (mem_occupiedOf hn)]
    rfl

/-- R50: free slots made DARK hold no ball. -/
theorem declaresSlots_countedTotal (h : SlotsFree t declared) : (t.declaresSlots k declared).countedTotal = t.countedTotal := by
  refine congrArg (t.inPlay + t.returning + ·) (occupiedSlots_congr fun n => ?_)
  rw [declaresSlots_slot]
  split
  · next hn => rw [h n hn]; rfl
  · rfl

/-- R33: the ball law before an admitted JOIN decides about its occupied slots. -/
theorem admits_joined (h : SlotsFree t declared) (l : List Slot) (n : Slot) :
    Admits ((t.joined k .member digest declared roles).declaresSlots k declared) l n ↔
      t.countedTotal + (l.filter fun j => decide (j < n)).length < t.profile.ballsInstalled := by
  unfold Admits
  rw [declaresSlots_countedTotal (t := t.joined k .member digest declared roles) h]
  rfl

/-- R32, R33: a slot behind an admitted JOIN. -/
theorem joined_slot (h : SlotsFree t declared) (n : Slot) :
    (((t.joined k .member digest declared roles).declaresSlots k declared).cleared k (occupiedOf declared occupied)).slots[n] =
      if declared.getLsbD n.val = false then t.slots[n]
      else if n ∈ occupiedOf declared occupied ∧
          t.countedTotal + ((occupiedOf declared occupied).filter fun j => decide (j < n)).length < t.profile.ballsInstalled
        then .releasing k .clear
      else .dark k := by
  rw [cleared_slot, declaresSlots_slot]
  simp only [admits_joined h]
  by_cases hd : declared.getLsbD n.val = true
  · rw [if_pos hd, if_neg (show ¬declared.getLsbD n.val = false by rw [hd]; decide)]
  · rw [if_neg fun hn => hd (mem_occupiedOf hn.1), if_neg hd, if_pos (Bool.eq_false_iff.2 hd)]
    rfl

theorem joinStage_late (h : w.table.phase ≠ .rollcall) :
    (joinStage f digest declared occupied roles w).1.table = refusedWith w.table f .lateJoin := by
  unfold joinStage
  rw [if_pos h, refuse_table]

theorem joinStage_member (h : w.table.phase = .rollcall) (hm : w.table.members[f.sender].state = .member) :
    (joinStage f digest declared occupied roles w).1.table =
      withMember w.table f.sender { w.table.members[f.sender] with state := .mismatched } := by
  unfold joinStage
  rw [if_neg (not_not.2 h), hm]
  exact memberBecomes_eq_withMember _ _ _

theorem joinStage_kept (h : w.table.phase = .rollcall)
    (hm : w.table.members[f.sender].state = .mismatched ∨ w.table.members[f.sender].state = .silent) :
    (joinStage f digest declared occupied roles w).1.table = w.table := by
  unfold joinStage
  rw [if_neg (not_not.2 h)]
  rcases hm with hm | hm <;> rw [hm] <;> rfl

theorem joinStage_absent (h : w.table.phase = .rollcall) (hm : w.table.members[f.sender].state = .absent) :
    (joinStage f digest declared occupied roles w).1.table = (w.judgeJoin f.sender digest declared occupied roles).table := by
  unfold joinStage
  rw [if_neg (not_not.2 h), hm]
  rfl

theorem gated_join (own : Station) (sync : Bool) (hp : f.payload = .join digest declared occupied roles) :
    gatedStage own sync f (Work.begin t f) = joinStage f digest declared occupied roles (Work.begin t f) := by
  have hg : (Work.begin t f).table.gateRefuses f = false := by
    rw [← Bool.not_eq_true, gateRefuses_iff, hp]
    rintro ⟨-, -, hj, -⟩
    exact hj rfl
  unfold gatedStage
  rw [hg, if_neg (by decide)]
  unfold kindChecks
  rw [hp]

/-- Settles O35: the stage by the sender's entry, the occupied slots by `foldl_clearOccupied`. -/
theorem join : Obligations.Join := by
  unfold Obligations.Join
  intro s f digest declared occupied roles hn hp b m entry referenced matched free reported admitted
  have leaves : ∀ {k : GameTable}, (joinStage f digest declared occupied roles (Work.begin s.table f)).1.table = k →
      Leaves .join s k := fun {k} h => by
    have hl := leaves_of_gated (k := k) hn (by rw [gated_join _ _ hp, h])
    rwa [show commandOf f = .join by unfold commandOf; rw [hp]] at hl
  refine ⟨fun h => leaves (joinStage_late h), fun h hm => leaves (joinStage_member h hm),
    fun h hm => leaves (joinStage_kept h hm), fun h hm hno => leaves ((joinStage_absent h hm).trans ?_),
    fun h hm hmat hfree => leaves ((joinStage_absent h hm).trans ?_)⟩
  · exact judgeJoin_mismatched (w := Work.begin s.table f) hno
  · rw [judgeJoin_admitted (w := Work.begin s.table f) hmat hfree, admission_eq, declares_becomes]
    have hslots : (((b.joined f.sender .member digest declared roles).declaresSlots f.sender declared).cleared f.sender
        reported).slots = vmap (fun n r =>
          if declared.getLsbD n.val = false then r
          else if n ∈ reported ∧ admitted n then .releasing f.sender .clear
          else .dark f.sender) b.slots :=
      vector_ext_fin fun n => by rw [vmap_get_fin]; exact joined_slot (t := b) hfree n
    have hlast : (reported.filter fun n => !decide
          (Admits ((b.joined f.sender .member digest declared roles).declaresSlots f.sender declared) reported n)) =
        reported.filter fun n => !decide (admitted n) :=
      List.filter_congr fun n _ => congrArg (! ·) (decide_eq_decide.2 (admits_joined (t := b) hfree reported n))
    exact congrArg₂ (fun x y => { withMember referenced f.sender (entry .member) with slots := x, refusal := y }) hslots
      (congrArg (fun l : List Slot => b.strayed f.sender l.getLast?) hlast)

end Join

end Sys2Proof.Machine

namespace Sys2Proof.Machine

/-! ### LOCK on the table (R56 to R58) -/

section Lock

variable {s : State} {f : Frame} {w : Work} {n : Slot}

/-- R57, steps 1 to 3: the table with the ball in the slot. -/
def GameTable.lockTaken (t : GameTable) (n : Slot) (k : Station) : GameTable :=
  withCurrent { withSlot t n (.held k t.currentPlayer) with inPlay := t.inPlay - 1 }
    { t.current with locksLit := t.current.locksLit - 1 }

/-- R58: the table behind the start of multiball. -/
def GameTable.multiballBegun (t : GameTable) : GameTable :=
  { t with
    slots := vmap (fun _ r => multiballSlot r) t.slots
    multiball := true, jackpot := t.profile.jackpotBase, saveWindow := t.profile.saveTicks }

/-- R49: the table with one more serve owed. -/
def GameTable.serveRaised (t : GameTable) : GameTable :=
  { t with servePending := if t.servePending < 8 then t.servePending + 1 else t.servePending }

/-- R57, R58: the table behind the effects of a LOCK. -/
def GameTable.locked (t : GameTable) (n : Slot) (k : Station) : GameTable :=
  if t.profile.lockGoal ≤ (t.lockTaken n k).heldSlots then (t.lockTaken n k).multiballBegun
  else if t.inPlay = 1 then (t.lockTaken n k).serveRaised
  else t.lockTaken n k

theorem takeLock_eq (w : Work) (n : Slot) (k : Station) : (w.takeLock n k).table = w.table.lockTaken n k :=
  updPlayer_eq_withCurrent _

/-- R57: of a ball locked from play, no ball is left in play where it was the only one. -/
theorem lockEffects_eq (k : Station) (hi : 0 < w.table.inPlay) : (w.lockEffects n k).table = w.table.locked n k := by
  have hlast : (w.table.lockTaken n k).inPlay = 0 ↔ w.table.inPlay = 1 := by
    show w.table.inPlay - 1 = 0 ↔ _
    omega
  unfold Work.lockEffects GameTable.locked
  dsimp only
  rw [apply_ite Work.table, apply_ite Work.table, takeLock_eq]
  exact if_congr Iff.rfl (congrArg GameTable.multiballBegun (takeLock_eq w n k))
    (if_congr hlast (congrArg GameTable.serveRaised (takeLock_eq w n k)) rfl)

theorem lockStage_not_playing (h : w.table.phase ≠ .play) :
    (lockStage f n w).1.table = refusedWith w.table f .notPlaying := by
  unfold lockStage
  rw [if_pos h, refuse_table]

theorem lockStage_tilted (hp : w.table.phase = .play) (ht : w.table.tilted = true) :
    (lockStage f n w).1.table = refusedWith w.table f .tilted := by
  unfold lockStage
  rw [if_neg (not_not.2 hp), if_pos ht, refuse_table]

/-- R56: in PLAY without a tilt the slot decides. -/
theorem lockStage_playing (hp : w.table.phase = .play) (ht : w.table.tilted = false) :
    lockStage f n w =
      if w.table.slots[n].owner ≠ some f.sender then w.refuse f .slotState
      else if w.table.slots[n] ≠ .opened f.sender then w.refuse f (lockRefusal w.table.multiball w.table.slots[n])
      else if w.table.inPlay = 0 then w.refuse f .stray
      else (w.lockEffects n f.sender).applied := by
  unfold lockStage
  rw [if_neg (not_not.2 hp), if_neg (Bool.eq_false_iff.1 ht)]

theorem lockStage_not_owner (hp : w.table.phase = .play) (ht : w.table.tilted = false)
    (h : w.table.slots[n].owner ≠ some f.sender) : (lockStage f n w).1.table = refusedWith w.table f .slotState := by
  rw [lockStage_playing hp ht, if_pos h, refuse_table]

theorem lockStage_not_open (hp : w.table.phase = .play) (ht : w.table.tilted = false)
    (ho : w.table.slots[n].owner = some f.sender) (h : w.table.slots[n] ≠ .opened f.sender) :
    (lockStage f n w).1.table = refusedWith w.table f (lockRefusal w.table.multiball w.table.slots[n]) := by
  rw [lockStage_playing hp ht, if_neg (not_not.2 ho), if_pos h, refuse_table]

theorem lockStage_stray (hp : w.table.phase = .play) (ht : w.table.tilted = false)
    (h : w.table.slots[n] = .opened f.sender) (hi : w.table.inPlay = 0) :
    (lockStage f n w).1.table = refusedWith w.table f .stray := by
  rw [lockStage_playing hp ht, if_neg (not_not.2 (by rw [h]; rfl)), if_neg (not_not.2 h), if_pos hi, refuse_table]

theorem lockStage_locks (hp : w.table.phase = .play) (ht : w.table.tilted = false)
    (h : w.table.slots[n] = .opened f.sender) (hi : 0 < w.table.inPlay) :
    (lockStage f n w).1.table = w.table.locked n f.sender := by
  rw [lockStage_playing hp ht, if_neg (not_not.2 (by rw [h]; rfl)), if_neg (not_not.2 h), if_neg hi.ne', applied_table,
    lockEffects_eq _ hi]

/-- R56: an occupied slot is refused for its state. -/
theorem lockRefusal_occupied {r : SlotRecord} (h : r.occupied = true) (multiball : Bool) :
    lockRefusal multiball r = .slotState := by
  cases r with
  | dark o => cases h
  | _ => rfl

/-- Settles O21, by the branches of the stage in the order of R56. -/
theorem lock : Obligations.Lock := by
  unfold Obligations.Lock
  intro s f n hn hg hp b held
  have leaves : ∀ {k : GameTable}, (lockStage f n (Work.begin s.table f)).1.table = k → Leaves .lock s k := fun h =>
    leaves_of_stage hn hg (by unfold commandOf; rw [hp]) (by unfold kindChecks; rw [hp]) h
  refine ⟨fun h => leaves (lockStage_not_playing h), fun h ht => leaves (lockStage_tilted h ht), fun h ht =>
    ⟨fun ho => leaves (lockStage_not_owner h ht ho), fun hd => leaves ?_, fun hocc ho => leaves ?_, fun hopen =>
      ⟨fun hi => leaves (lockStage_stray h ht hopen hi), fun hi => leaves (lockStage_locks h ht hopen hi)⟩⟩⟩
  · have hr := lockStage_not_open (w := Work.begin s.table f) h ht (congrArg SlotRecord.owner hd)
      fun e => nomatch hd.symm.trans e
    exact hr.trans (congrArg (fun r => refusedWith b f (lockRefusal s.table.multiball r)) hd)
  · have hr := lockStage_not_open (w := Work.begin s.table f) h ht ho
      fun e => nomatch hocc.symm.trans (congrArg SlotRecord.occupied e)
    exact hr.trans (congrArg (refusedWith b f) (lockRefusal_occupied hocc _))

end Lock

end Sys2Proof.Machine

namespace Sys2Proof.Machine

/-! ### What an application does with the balls (R50, R53) -/

section BallsKept

variable {t u v : GameTable} {n : Slot} {r : SlotRecord}

/-- R50, of a table. -/
def GameTable.BallsWithin (t : GameTable) : Prop := t.countedTotal ≤ t.profile.ballsInstalled

/-- R53, of a table. -/
def GameTable.HeldInPlay (t : GameTable) : Prop :=
  ∀ (n : Slot) (o : Station) (p : PlayerIx), t.slots[n] = .held o p → t.phase = .play ∧ p = t.currentPlayer

theorem ballLaw_iff (s : State) : BallLaw s ↔ (s.isValid = true → s.table.BallsWithin) := Iff.rfl

theorem heldByCurrent_iff (s : State) : HeldByCurrent s ↔ s.table.HeldInPlay := Iff.rfl

/-- The table `u` obeys the ball law and R53 if `t` does. -/
structure KeepsBalls (t u : GameTable) : Prop where
  within : t.BallsWithin → u.BallsWithin
  held   : t.HeldInPlay → u.HeldInPlay

/-- The values of a table that the two laws look at. -/
def GameTable.ballValues (t : GameTable) : Phase × PlayerIx × Nat × Nat × Vector SlotRecord 8 × Profile :=
  (t.phase, t.currentPlayer, t.inPlay, t.returning, t.slots, t.profile)

/-- A slot's ball, if it holds one, stays in it, and the slot does not become HELD. -/
structure Rests (r r' : SlotRecord) : Prop where
  occupied : r'.occupied = r.occupied
  held     : ∀ o p, r' = .held o p → r = .held o p

theorem Rests.refl (r : SlotRecord) : Rests r r := ⟨rfl, fun _ _ => id⟩

theorem countedTotal_of_rests (hb : u.inPlay + u.returning ≤ t.inPlay + t.returning)
    (hs : ∀ n : Slot, Rests t.slots[n] u.slots[n]) : u.countedTotal ≤ t.countedTotal := by
  unfold GameTable.countedTotal
  rw [occupiedSlots_congr fun n => (hs n).occupied]
  exact Nat.add_le_add_right hb _

namespace KeepsBalls

theorem refl (t : GameTable) : KeepsBalls t t := ⟨id, id⟩

theorem trans (h : KeepsBalls t u) (g : KeepsBalls u v) : KeepsBalls t v :=
  ⟨fun ht => g.within (h.within ht), fun ht => g.held (h.held ht)⟩

theorem ite {p : Prop} [Decidable p] (h : KeepsBalls t u) (g : KeepsBalls t v) : KeepsBalls t (if p then u else v) := by
  split <;> assumption

/-- A change of anything but the balls, the phase and the turn. -/
theorem other (h : u.ballValues = t.ballValues) : KeepsBalls t u := by
  unfold GameTable.ballValues at h
  simp only [Prod.mk.injEq] at h
  obtain ⟨hph, hc, hi, hr, hs, hp⟩ := h
  constructor
  · unfold GameTable.BallsWithin GameTable.countedTotal GameTable.occupiedSlots
    rw [hi, hr, hs, hp]
    exact id
  · unfold GameTable.HeldInPlay
    rw [hph, hc, hs]
    exact id

/-- A change behind which no more balls are counted, or no more than are installed, and no slot is newly HELD. -/
theorem of_counted (hp : u.profile = t.profile)
    (hc : u.countedTotal ≤ t.countedTotal ∨ u.countedTotal ≤ t.profile.ballsInstalled)
    (hh : ∀ (n : Slot) (o : Station) (p : PlayerIx), u.slots[n] = .held o p →
      t.slots[n] = .held o p ∧ (t.phase = .play → u.phase = .play) ∧ u.currentPlayer = t.currentPlayer) :
    KeepsBalls t u := by
  constructor
  · intro ht
    unfold GameTable.BallsWithin
    rw [hp]
    exact hc.elim (fun h => h.trans ht) id
  · intro ht n o p hn
    obtain ⟨hs, hph, hcur⟩ := hh n o p hn
    obtain ⟨hplay, hturn⟩ := ht n o p hs
    exact ⟨hph hplay, hturn.trans hcur.symm⟩

/-- Every ball in a slot stays in it, and nothing else changes. -/
theorem of_mapped {g : SlotRecord → SlotRecord} (hg : ∀ r, Rests r (g r))
    (h : u.ballValues = { t with slots := vmap (fun _ r => g r) t.slots }.ballValues) : KeepsBalls t u := by
  have hrests : ∀ n : Slot, Rests t.slots[n] (vmap (fun _ r => g r) t.slots)[n] := fun n => by
    rw [vmap_get_fin]
    exact hg _
  refine trans ?_ (other h)
  exact of_counted rfl (.inl (countedTotal_of_rests le_rfl hrests)) fun n o p hn => ⟨(hrests n).held o p hn, id, rfl⟩

/-- No more balls are counted in play and as returning, in a game that goes on with its turn. -/
theorem of_fewer (hb : u.inPlay + u.returning ≤ t.inPlay + t.returning) (hs : u.slots = t.slots)
    (hp : u.profile = t.profile) (hph : t.phase = .play → u.phase = .play) (hc : u.currentPlayer = t.currentPlayer) :
    KeepsBalls t u :=
  of_counted hp (.inl (countedTotal_of_rests hb fun _ => hs ▸ .refl _)) fun _ _ _ hn => ⟨hs ▸ hn, hph, hc⟩

end KeepsBalls

theorem rests_darken (r : SlotRecord) : Rests r (darken r) := by cases r <;> exact ⟨rfl, by simp [darken]⟩

theorem rests_light (b : Bool) (r : SlotRecord) : Rests r (light b r) := by
  cases r <;> cases b <;> exact ⟨rfl, by simp [light]⟩

theorem rests_multiballSlot (r : SlotRecord) : Rests r (multiballSlot r) := by
  cases r <;> exact ⟨rfl, by simp [multiballSlot]⟩

theorem rests_ballEndSlot (r : SlotRecord) : Rests r (ballEndSlot r) := by
  cases r <;> exact ⟨rfl, by simp [ballEndSlot]⟩

theorem rests_strand (r : SlotRecord) : Rests r (strand r) := by cases r <;> exact ⟨rfl, by simp [strand]⟩

theorem rests_strandOf (lost : Station → Bool) (r : SlotRecord) : Rests r (strandOf lost r) := by
  cases h : r.owner with
  | none => rw [strandOf_unowned h]; exact .refl r
  | some k =>
    rw [strandOf_owned h]
    split
    · exact rests_strand r
    · exact .refl r

theorem ballEndSlot_not_held (r : SlotRecord) (o : Station) (p : PlayerIx) : ballEndSlot r ≠ .held o p := by
  cases r <;> simp [ballEndSlot]

/-! #### One slot -/

theorem withSlot_withSlot_self (t : GameTable) (n : Slot) (r : SlotRecord) :
    withSlot (withSlot t n r) n t.slots[n] = t := by
  refine congrArg (fun v => { t with slots := v })
    (vector_ext_fin (u := (withSlot (withSlot t n r) n t.slots[n]).slots) (v := t.slots) fun k => ?_)
  rw [withSlot_slot, withSlot_slot]
  split
  · next h => rw [h]
  · rfl

/-- R50: a ball leaves its slot. -/
theorem countedTotal_emptied (h : t.slots[n].occupied = true) (hr : r.occupied = false) :
    (withSlot t n r).countedTotal + 1 = t.countedTotal := by
  have hn : (withSlot t n r).slots[n].occupied = false := by rwa [withSlot_slot, if_pos rfl]
  rw [← countedTotal_withSlot hn h, withSlot_withSlot_self]

/-- R50: a record that takes the place of another of the same sort. -/
theorem countedTotal_replaced (h : r.occupied = t.slots[n].occupied) :
    (withSlot t n r).countedTotal = t.countedTotal := by
  refine congrArg (t.inPlay + t.returning + ·) (occupiedSlots_congr fun k => ?_)
  rw [withSlot_slot]
  split
  · next hk => rw [hk, h]
  · rfl

/-- R50: a record counts one ball at most. -/
theorem countedTotal_withSlot_le (t : GameTable) (n : Slot) (r : SlotRecord) :
    (withSlot t n r).countedTotal ≤ t.countedTotal + 1 := by
  by_cases h : r.occupied = t.slots[n].occupied
  · exact (countedTotal_replaced h).le.trans (Nat.le_succ _)
  · cases hr : r.occupied with
    | true => exact (countedTotal_withSlot (by simpa [hr] using h) hr).le
    | false =>
      have := countedTotal_emptied (t := t) (n := n) (by simpa [hr] using h) hr
      omega

/-- A slot that is given a record other than HELD leaves the other HELD slots as they are. -/
theorem withSlot_held (hr : r.isHeld = false) {k : Slot} {o : Station} {p : PlayerIx}
    (h : (withSlot t n r).slots[k] = .held o p) : t.slots[k] = .held o p := by
  rw [withSlot_slot] at h
  split at h
  · rw [h] at hr
    cases hr
  · exact h

/-! #### The ball end, game over, the silence check and the recomputation -/

/-- R47: a game that is over has no ball. -/
theorem over_balls (h : u.profile = t.profile) : KeepsBalls t u.over :=
  .of_counted h (.inr (Nat.zero_le _)) fun n _ _ hn => nomatch (over_slots u n).symm.trans hn

/-- R43: no slot is HELD behind the entry to BALL_END. -/
theorem inBallEnd_balls (t : GameTable) : KeepsBalls t t.inBallEnd := by
  have hslot : ∀ n : Slot, t.inBallEnd.slots[n] = ballEndSlot t.slots[n] := vmap_get_fin _ _
  refine .of_counted rfl (.inl (countedTotal_of_rests le_rfl fun n => ?_)) fun n o p hn => ?_
  · rw [hslot]
    exact rests_ballEndSlot _
  · exact absurd ((hslot n).symm.trans hn) (ballEndSlot_not_held _ o p)

/-- R46: the turn passes on where no slot is HELD, the phase being BALL_END. -/
theorem nextBegun_balls (hp : t.phase = .ballEnd) : KeepsBalls t t.turned.nextBegun :=
  ⟨id, fun h n o p hn => nomatch hp.symm.trans (h n o p hn).1⟩

theorem ended_balls (hp : t.phase = .ballEnd) : KeepsBalls t t.ended :=
  KeepsBalls.ite (over_balls rfl) (nextBegun_balls hp)

theorem entryChecked_balls (t : GameTable) : KeepsBalls t (entryChecked t) := by
  by_cases h : t.phase = .play ∧ t.ballOver = true
  · rw [entryChecked_of_over h.1 h.2]
    exact inBallEnd_balls t
  · rw [entryChecked_of_not_over h]
    exact .refl t

theorem completionChecked_balls (t : GameTable) : KeepsBalls t (completionChecked t) := by
  rcases completionChecked_cases t with h | ⟨hp, h⟩ <;> rw [h]
  · exact .refl t
  · exact ended_balls hp

theorem silenced_balls (t : GameTable) : KeepsBalls t t.silenced :=
  .of_mapped (rests_strandOf t.findsSilent) rfl

theorem silenceStage_balls (w : Work) : KeepsBalls w.table w.silenceStage.table :=
  silenceStage_of_kept (.refl _) (fun u h => h.trans (silenced_balls u)) fun _ h => h.trans (over_balls rfl)

/-- R17: the recomputation moves no ball. -/
theorem recomputed_balls (h : RecomputedFrom t u) : KeepsBalls t u := by
  rw [recomputedFrom_iff] at h
  rw [h]
  exact .of_mapped (rests_light _) rfl

end BallsKept

/-! #### The kinds of frame -/

section BallsOfKinds

variable {f : Frame} {w : Work} {t u : GameTable} {n : Slot}

theorem refuse_balls (r : Reason) : KeepsBalls w.table (w.refuse f r).1.table := .other rfl

/-- R40, R41. -/
theorem tiltTaken_balls (t : GameTable) : KeepsBalls t t.tiltTaken := .of_mapped rests_darken rfl

theorem tiltStage_balls : KeepsBalls w.table (tiltStage f w).1.table := by
  unfold tiltStage
  split
  · exact refuse_balls _
  · split
    · exact .refl _
    · rw [applied_table, tiltEffects_eq]
      exact tiltTaken_balls _

theorem nudgeStage_balls : KeepsBalls w.table (nudgeStage f w).1.table := by
  unfold nudgeStage
  split
  · exact refuse_balls _
  · split
    · exact .refl _
    · split
      · have hcount : KeepsBalls w.table w.countNudge.table := .other rfl
        rw [applied_table, tiltEffects_eq]
        exact hcount.trans (tiltTaken_balls _)
      · exact .other rfl

/-- R57: the locked ball goes from play into its slot, in PLAY and for the current player. -/
theorem lockTaken_balls {k : Station} (hp : t.phase = .play) (hs : t.slots[n] = .opened k) (hi : 0 < t.inPlay) :
    KeepsBalls t (t.lockTaken n k) := by
  have hslot : ∀ j : Slot, (t.lockTaken n k).slots[j] = if j = n then .held k t.currentPlayer else t.slots[j] :=
    withSlot_slot t n _
  have hcount : (withSlot t n (.held k t.currentPlayer)).countedTotal = t.countedTotal + 1 :=
    countedTotal_withSlot (by rw [hs]; rfl) rfl
  have hplay : (t.lockTaken n k).countedTotal + 1 = (withSlot t n (.held k t.currentPlayer)).countedTotal := by
    show t.inPlay - 1 + t.returning + (withSlot t n _).occupiedSlots + 1 =
      t.inPlay + t.returning + (withSlot t n _).occupiedSlots
    omega
  constructor
  · intro h
    have : (t.lockTaken n k).countedTotal = t.countedTotal := by omega
    exact this.trans_le h
  · intro h j o p hj
    rw [hslot] at hj
    split at hj
    · cases hj
      exact ⟨hp, rfl⟩
    · exact h j o p hj

theorem multiballBegun_balls (t : GameTable) : KeepsBalls t t.multiballBegun := .of_mapped rests_multiballSlot rfl

theorem locked_balls {k : Station} (hp : t.phase = .play) (hs : t.slots[n] = .opened k) (hi : 0 < t.inPlay) :
    KeepsBalls t (t.locked n k) := by
  have h := lockTaken_balls hp hs hi
  exact KeepsBalls.ite (h.trans (multiballBegun_balls _)) (KeepsBalls.ite (h.trans (.other rfl)) h)

theorem lockStage_balls : KeepsBalls w.table (lockStage f n w).1.table := by
  by_cases hp : w.table.phase = .play
  · cases ht : w.table.tilted with
    | true => rw [lockStage_tilted hp ht]; exact .other rfl
    | false =>
      rw [lockStage_playing hp ht]
      split
      · exact refuse_balls _
      · split
        · exact refuse_balls _
        · next hs =>
          split
          · exact refuse_balls _
          · next hi =>
            rw [applied_table, lockEffects_eq _ (Nat.pos_of_ne_zero hi)]
            exact locked_balls hp (not_not.1 hs) (Nat.pos_of_ne_zero hi)
  · rw [lockStage_not_playing hp]
    exact .other rfl

theorem occupied_of_isHeld {r : SlotRecord} (h : r.isHeld = true) : r.occupied = true := by cases r <;> trivial

theorem occupied_of_isLeaving {r : SlotRecord} (h : r.isLeaving = true) : r.occupied = true := by cases r <;> trivial

/-- R59, R60: the ball of a slot that becomes DARK is counted in play or as returning. -/
theorem emptied_balls {k : Station} (h : t.slots[n].occupied = true) (hs : u.slots = (withSlot t n (.dark k)).slots)
    (hb : u.inPlay + u.returning = t.inPlay + t.returning + 1) (hp : u.profile = t.profile) (hph : u.phase = t.phase)
    (hc : u.currentPlayer = t.currentPlayer) : KeepsBalls t u := by
  have hcount : (withSlot t n (.dark k)).countedTotal + 1 = t.countedTotal := countedTotal_emptied h rfl
  have hu : u.countedTotal = (withSlot t n (.dark k)).countedTotal + 1 := by
    unfold GameTable.countedTotal GameTable.occupiedSlots
    rw [hs, hb]
    exact Nat.add_right_comm _ _ _
  refine .of_counted hp (.inl (hu.trans hcount).le) fun j o p hj => ⟨?_, fun e => hph.trans e, hc⟩
  rw [hs] at hj
  exact withSlot_held rfl hj

theorem lostStage_balls : KeepsBalls w.table (lostStage f n w).1.table := by
  unfold lostStage
  split
  · next h =>
    exact emptied_balls (k := f.sender) (occupied_of_isHeld h.1) rfl (Nat.add_right_comm _ _ _) rfl rfl rfl
  · exact refuse_balls _

theorem releasedStage_balls : KeepsBalls w.table (releasedStage f n w).1.table := by
  unfold releasedStage
  split
  · next h =>
    rw [applied_table, upd_table]
    unfold GameTable.countRelease
    split
    · exact emptied_balls (k := f.sender) (occupied_of_isLeaving h.1) rfl (Nat.add_right_comm _ _ _) rfl rfl rfl
    · exact emptied_balls (k := f.sender) (occupied_of_isLeaving h.1) rfl rfl rfl rfl rfl
  · exact refuse_balls _

theorem jammedStage_balls : KeepsBalls w.table (jammedStage f n w).1.table := by
  unfold jammedStage
  split
  · next o c hr =>
    split
    · have hslot : KeepsBalls w.table (withSlot w.table n (.jammed o c)) :=
        .of_counted rfl (.inl (countedTotal_replaced (by rw [hr]; rfl)).le) fun _ _ _ hk =>
          ⟨withSlot_held rfl hk, id, rfl⟩
      rw [applied_table, ballEndEntryCheck_table]
      refine KeepsBalls.trans ?_ (entryChecked_balls _)
      split
      · exact hslot.trans (.other rfl)
      · exact hslot
    · exact refuse_balls _
  · exact refuse_balls _

/-- R62: a ball less is counted. -/
theorem drainStage_balls : KeepsBalls w.table (drainStage f w).1.table := by
  unfold drainStage
  split
  · exact refuse_balls _
  · split
    · exact .of_fewer (Nat.add_le_add_left (Nat.sub_le _ _) _) rfl rfl id rfl
    · split
      · have h : KeepsBalls w.table { w.table with inPlay := w.table.inPlay - 1 } :=
          .of_fewer (Nat.add_le_add_right (Nat.sub_le _ _) _) rfl rfl id rfl
        dsimp only
        split
        · exact h.trans (.other rfl)
        · rw [applied_table, ballEndEntryCheck_table]
          exact h.trans (entryChecked_balls _)
      · exact refuse_balls _

/-- R63, R64: a ball is launched only where one is left to count. -/
theorem launchedStage_balls : KeepsBalls w.table (launchedStage f w).1.table := by
  unfold launchedStage
  split
  · exact refuse_balls _
  · split
    · exact refuse_balls _
    · next h =>
      have launched : ∀ {u : GameTable}, u.countedTotal = w.table.countedTotal + 1 → u.profile = w.table.profile →
          u.phase = w.table.phase → u.currentPlayer = w.table.currentPlayer → u.slots = w.table.slots →
          KeepsBalls w.table u := fun hu hp hph hc hs =>
        .of_counted hp (.inr (hu.trans_le (Nat.not_le.1 h))) fun n o p hn => ⟨hs ▸ hn, fun e => hph.trans e, hc⟩
      have hcount : ∀ i r o : Nat, i + 1 + r + o = i + r + o + 1 ∧ i + (r + 1) + o = i + r + o + 1 := by omega
      split
      · exact launched (hcount _ _ _).1 rfl rfl rfl rfl
      · exact launched (hcount _ _ _).2 rfl rfl rfl rfl

theorem newGame_balls (t : GameTable) : KeepsBalls t t.newGame :=
  .of_counted rfl (.inr (Nat.zero_le _)) fun n _ _ hn => nomatch (newGame_slots t n).symm.trans hn

theorem startStage_balls (sync : Bool) : KeepsBalls w.table (startStage sync f w).1.table := by
  unfold startStage
  split
  · rw [newGame_applied_table]
    exact newGame_balls _
  · unfold addPlayerStage
    repeat' split
    all_goals exact .other rfl

theorem hitStage_balls (sw : Switch) (base : BitVec 24) (tag flags : Byte) :
    KeepsBalls w.table (hitStage f sw base tag flags w).1.table := by
  unfold hitStage
  repeat' split
  · exact refuse_balls _
  · exact refuse_balls _
  · obtain ⟨u, ⟨ps, ms, j, ns, rfl, -⟩, he⟩ := hitEffects_struck w f.sender sw base tag flags
    rw [applied_table, he]
    split <;> exact .other rfl

theorem modeStage_balls (m : ModeId) : KeepsBalls w.table (modeStage f m w).1.table := by
  unfold modeStage
  repeat' split
  · exact refuse_balls _
  · exact refuse_balls _
  · exact refuse_balls _
  · rw [applied_table]
    unfold Work.modeEffects
    dsimp only
    split <;> exact .other rfl

theorem holdSetStage_balls : KeepsBalls w.table (holdSetStage f w).1.table := by
  unfold holdSetStage
  split <;> exact .other rfl

theorem holdClearStage_balls : KeepsBalls w.table (holdClearStage f w).1.table := by
  unfold holdClearStage
  split <;> exact .other rfl

/-- R34, R35: the roll call ends in PLAY or in ATTRACT, and no slot is HELD before its end. -/
theorem endRollcall_balls (k : Station) : KeepsBalls w.table (w.endRollcall k).table := by
  cases h : w.table.rollcallFailure with
  | none =>
    rw [endRollcall_enters h]
    exact .of_fewer le_rfl rfl rfl (fun _ => rfl) rfl
  | some sub =>
    rw [endRollcall_fails h]
    exact over_balls rfl

theorem countdown_balls (k : Station) : KeepsBalls w.table (w.countdown k).table := by
  cases hp : w.table.phase with
  | attract =>
    unfold Work.countdown
    rw [hp]
    exact .refl _
  | rollcall =>
    by_cases hr : 1 < w.table.rollcallRemaining
    · rw [countdown_rollcall hp hr]
      exact .other rfl
    · have hzero : KeepsBalls w.table (w.upd fun t => { t with rollcallRemaining := 0 }).table := .other rfl
      rw [countdown_rollcall_ends hp (Nat.not_lt.1 hr)]
      exact hzero.trans (endRollcall_balls k)
  | play =>
    rw [countdown_play hp]
    exact .other rfl
  | ballEnd =>
    by_cases hr : 1 < w.table.ballEndRemaining
    · rw [countdown_ballEnd hp hr]
      exact .other rfl
    · rw [countdown_ballEnd_ends hp (Nat.not_lt.1 hr)]
      refine KeepsBalls.trans ?_ (ended_balls hp)
      exact .of_fewer (Nat.add_le_add_left (Nat.zero_le _) _) rfl rfl id rfl

theorem tickStage_balls (number : Word16) : KeepsBalls w.table (tickStage f number w).1.table := by
  unfold tickStage
  split
  · rw [applied_table, show (w.tickEffects f.sender).table = _ from ballEndEntryCheck_table _]
    have hbegun : KeepsBalls w.table w.advanceTick.expireHolds.table := .other rfl
    exact ((hbegun.trans (countdown_balls _)).trans (silenceStage_balls _)).trans (entryChecked_balls _)
  · exact .refl _

theorem presenceStage_balls (own : Station) (summary : Byte) :
    KeepsBalls w.table (presenceStage own f summary w).1.table := by
  unfold presenceStage
  split <;> exact .other rfl

/-- R33: an occupied slot is counted only where a ball is left to count. -/
theorem clearOccupied_balls (k : Station) (w : Work) (n : Slot) : KeepsBalls w.table (w.clearOccupied k n).table := by
  unfold Work.clearOccupied
  split
  · next h =>
    exact .of_counted rfl (.inr ((countedTotal_withSlot_le _ _ _).trans h)) fun _ _ _ hn =>
      ⟨withSlot_held rfl hn, id, rfl⟩
  · exact .other rfl

theorem foldl_clearOccupied_balls (k : Station) (l : List Slot) (w : Work) :
    KeepsBalls w.table (l.foldl (Work.clearOccupied k) w).table := by
  induction l generalizing w with
  | nil => exact .refl _
  | cons n l ih => exact (clearOccupied_balls k w n).trans (ih _)

/-- R32: an admitted sender's slots are free before they are DARK. -/
theorem declaresSlots_balls {k : Station} {declared : Byte} (h : SlotsFree t declared) :
    KeepsBalls t (t.declaresSlots k declared) := by
  refine .of_counted rfl (.inl (declaresSlots_countedTotal h).le) fun n o p hn => ⟨?_, id, rfl⟩
  rw [declaresSlots_slot] at hn
  split at hn
  · cases hn
  · exact hn

theorem admission_balls (k : Station) {declared : Byte} (occupied : Byte) (h : SlotsFree w.table declared) :
    KeepsBalls w.table (w.admission k declared occupied).table := by
  have hmember : KeepsBalls w.table (w.memberBecomes k .member).table := .other rfl
  have hslots : KeepsBalls w.table
      ((w.memberBecomes k .member).mapSlots fun n r => if declared.getLsbD n.val then .dark k else r).table :=
    hmember.trans (declaresSlots_balls h)
  exact hslots.trans (foldl_clearOccupied_balls k _ _)

theorem judgeJoin_balls (k : Station) (digest : Word16) (declared occupied roles : Byte) :
    KeepsBalls w.table (w.judgeJoin k digest declared occupied roles).table := by
  by_cases h : Matches w.table digest ∧ SlotsFree w.table declared
  · rw [judgeJoin_admitted h.1 h.2]
    have hdeclares : KeepsBalls w.table (w.declares k digest declared roles).table := .other rfl
    exact hdeclares.trans (admission_balls k occupied h.2)
  · rw [judgeJoin_mismatched h]
    exact .other rfl

theorem joinStage_balls (digest : Word16) (declared occupied roles : Byte) :
    KeepsBalls w.table (joinStage f digest declared occupied roles w).1.table := by
  unfold joinStage
  repeat' split
  · exact refuse_balls _
  · exact judgeJoin_balls _ _ _ _ _
  all_goals exact .other rfl

/-- R50, R53, through the checks and effects of each kind (R15, stage 3). -/
theorem kindChecks_balls (own : Station) (sync : Bool) (f : Frame) (w : Work) :
    KeepsBalls w.table (kindChecks own sync f w).1.table := by
  unfold kindChecks
  split
  · exact tiltStage_balls
  · exact nudgeStage_balls
  · exact lockStage_balls
  · exact lostStage_balls
  · exact releasedStage_balls
  · exact jammedStage_balls
  · exact drainStage_balls
  · exact launchedStage_balls
  · exact startStage_balls sync
  · exact hitStage_balls _ _ _ _
  · exact modeStage_balls _
  · split
    · exact holdClearStage_balls
    · exact holdSetStage_balls
  · exact tickStage_balls _
  · exact presenceStage_balls own _
  · exact joinStage_balls _ _ _ _

/-- R50, R53, through a whole application: the gate, the kind, the completion check and the recomputation. -/
theorem applyFrame_balls (own : Station) (sync : Bool) (f : Frame) (t : GameTable) :
    KeepsBalls t (applyFrame own sync f t).1.table := by
  have hbegun : KeepsBalls t (Work.begin t f).table := .other rfl
  have hgated : KeepsBalls (Work.begin t f).table (gatedStage own sync f (Work.begin t f)).1.table := by
    unfold gatedStage
    split
    · exact refuse_balls _
    · exact kindChecks_balls own sync f _
  have hkind : KeepsBalls t (kindStage own sync f (Work.begin t f)).1.table := by
    rw [kindStage_table]
    exact (hbegun.trans hgated).trans (completionChecked_balls _)
  exact hkind.trans (recomputed_balls (applyFrame_recomputed own sync f t))

/-- R52: the four lighting conditions. -/
theorem lit_iff (t : GameTable) :
    t.lit = true ↔ t.phase = .play ∧ t.tilted = false ∧ t.multiball = false ∧ 0 < t.current.locksLit := by
  simp [GameTable.lit, and_assoc]

theorem lit_of_light_opened {b : Bool} {r : SlotRecord} {o : Station} (h : light b r = .opened o) : b = true := by
  cases b with
  | true => rfl
  | false => cases r <;> cases h

/-- R52: the recomputation leaves no slot OPEN where its conditions do not hold. -/
theorem recomputed_openOnlyWhileLit (h : RecomputedFrom t u) : OpenOnlyWhileLit u := by
  rw [recomputedFrom_iff] at h
  rw [h]
  intro n o hn
  dsimp only at hn
  rw [vmap_get_fin] at hn
  obtain ⟨hp, ht, hm, hl⟩ := (lit_iff _).1 (lit_of_light_opened hn)
  exact ⟨hp, ht, hm, hl⟩

end BallsOfKinds

end Sys2Proof.Machine

namespace Sys2Proof.Machine

/-! ### What a step can do to the game table and its validity -/

/-- The game table is as it was, and the replica has not become VALID. -/
structure KeepsGame (s t : State) : Prop where
  table : t.table = s.table
  valid : t.isValid = true → s.isValid = true

namespace KeepsGame

variable {s t u : State}

theorem refl (s : State) : KeepsGame s s := ⟨rfl, id⟩

theorem trans (h : KeepsGame s t) (g : KeepsGame t u) : KeepsGame s u :=
  ⟨g.table.trans h.table, fun hu => h.valid (g.valid hu)⟩

theorem ite {p : Prop} [Decidable p] (h : KeepsGame s t) (g : KeepsGame s u) : KeepsGame s (if p then t else u) := by
  split <;> assumption

theorem foldl {α : Type} {f : State → α → State} (hf : ∀ s a, KeepsGame s (f s a)) (l : List α) (s : State) :
    KeepsGame s (l.foldl f s) := by
  induction l generalizing s with
  | nil => exact refl s
  | cons a l ih => exact (hf s a).trans (ih (f s a))

/-- A move that leaves the replica as it is, or makes it UNKNOWN (R3). -/
theorem of_game (h : SameGame s t) (hr : t.eng.replica = s.eng.replica ∨ t.eng.replica = .unknown) : KeepsGame s t := by
  refine ⟨h.table, fun hv => ?_⟩
  rw [isValid_iff] at hv ⊢
  rcases hr with hr | hr
  · rwa [← hr]
  · exact nomatch hr.symm.trans hv

end KeepsGame

theorem Kept.keepsGame {s t : State} (h : Kept s t) : KeepsGame s t := .of_game h.game (.inl (by rw [h.eng]))

section GameOfBlocks

variable (s : State)

theorem keepsGame_updBus (f : Bus → Bus) : KeepsGame s (s.updBus f) := ⟨rfl, id⟩
theorem keepsGame_updSw (f : SwitchUnit → SwitchUnit) : KeepsGame s (s.updSw f) := ⟨rfl, id⟩
theorem keepsGame_updSen (f : SensorUnit → SensorUnit) : KeepsGame s (s.updSen f) := ⟨rfl, id⟩
theorem keepsGame_advanceTo (due : Nat) : KeepsGame s (s.advanceTo due) := ⟨rfl, id⟩

/-! #### Moves, losses of validity and the frame's end -/

theorem moved_replica (e : Engine) (old st : StationState) (fresh : SyncTimer) :
    (e.moved old st fresh).replica = e.replica := by
  unfold Engine.moved
  repeat' split
  all_goals rfl

theorem keepsGame_moveStation (st : StationState) : KeepsGame s (s.moveStation st) :=
  .of_game (game_moveStation s st) (.inl (by rw [moveStation_eng, moved_replica]))

theorem keepsGame_changeStation (st : StationState) : KeepsGame s (s.changeStation st) :=
  .of_game (game_changeStation s st) (.inl (by rw [changeStation_eng, moved_replica]))

theorem keepsGame_performLoss : KeepsGame s s.performLoss :=
  .of_game (game_performLoss s) (.inr (by rw [performLoss_eng]))

theorem keepsGame_causeLoss (c : LossCause) : KeepsGame s (s.causeLoss c) :=
  KeepsGame.ite ⟨rfl, id⟩ (keepsGame_performLoss s)

theorem keepsGame_restartSync : KeepsGame s s.restartSync := KeepsGame.ite (.refl s) ⟨rfl, id⟩

theorem keepsGame_mute : KeepsGame s s.mute := by
  have h := (keepsGame_updBus s fun b => { b with muted := true }).trans
    ((kept_setFault _ .duplicate).trans (kept_discardWaiting _)).keepsGame
  exact (KeepsGame.ite (h.trans (keepsGame_changeStation _ _)) (h.trans (kept_judgeTickTimer _).keepsGame)).trans
    (kept_refreshLamps _).keepsGame

theorem keepsGame_appendFrame (f : Frame) : KeepsGame s (s.appendFrame f) := by
  have h := keepsGame_updBus s fun b => { b with inbound := b.inbound ++ [f] }
  exact KeepsGame.ite (h.trans (keepsGame_restartSync _)) h

theorem keepsGame_deliver (f : Option Frame) (sound overrun : Bool) : KeepsGame s (s.deliver f sound overrun) := by
  unfold State.deliver
  have hloss := keepsGame_causeLoss s .overrun
  split
  · exact KeepsGame.ite hloss (.refl s)
  · have happ := keepsGame_appendFrame s
    exact KeepsGame.ite (happ _) (KeepsGame.ite (KeepsGame.ite (happ _) (KeepsGame.ite hloss (.refl s))) (.refl s))

theorem keepsGame_enterQuiet : KeepsGame s s.enterQuiet := by
  have h := (((kept_setFault s .quiet).keepsGame.trans (keepsGame_moveStation _ .quiet)).trans
    (kept_flushClaims _).keepsGame).trans (keepsGame_updBus _ fun b => { b with cleanRun := 0 })
  exact (h.trans (keepsGame_causeLoss _ .quiet)).trans (kept_derived _ (.refl _)).keepsGame

theorem keepsGame_quietCheck (scored : Bool) : KeepsGame s (s.quietCheck scored) :=
  KeepsGame.ite (keepsGame_enterQuiet s) (.refl s)

theorem keepsGame_endFrame (bits : List Bool) (accepted scored clean missing transmitting reported : Bool) :
    KeepsGame s ((s.endFrame bits accepted scored clean missing).reportEnd transmitting reported) :=
  (keepsGame_updBus s _).trans (kept_reportEnd _ transmitting reported).keepsGame

theorem keepsGame_frameEnd (bits : List Bool) (v : Bool) : KeepsGame s (s.frameEnd bits v) := by
  have h := keepsGame_endFrame s bits (!s.slotDominant bits v) (s.checksFrames && !s.sound bits) (s.sound bits) false
    s.transmitting (!s.slotDominant bits v)
  exact (KeepsGame.ite (h.trans (keepsGame_deliver _ _ _ _)) h).trans (keepsGame_quietCheck _ _)

/-! #### The Switch Unit and the Sensor Unit -/

theorem keepsGame_appendEvent (n : Switch) (l : Level) : KeepsGame s (s.appendEvent n l) :=
  KeepsGame.ite (keepsGame_updSw s _) (kept_notify s _).keepsGame

theorem keepsGame_samplePin (pins : Byte) (n : Fin 8) : KeepsGame s (s.samplePin pins n) :=
  KeepsGame.ite (keepsGame_updSw s _) (KeepsGame.ite
    (((keepsGame_updSw s _).trans (keepsGame_updSw _ _)).trans (keepsGame_appendEvent _ _ _)) (keepsGame_updSw s _))

theorem keepsGame_endPass (attn : Bool) : KeepsGame s (s.endPass attn) :=
  (keepsGame_updSw s _).trans (keepsGame_updSw _ _)

theorem keepsGame_setScan (x : Scan) : KeepsGame s (s.setScan x) := keepsGame_updSw s _

theorem keepsGame_beginPass (attn : Bool) : KeepsGame s (s.beginPass attn) := by
  have h := (keepsGame_updSw s fun u => { u with refresh := false, attention := false }).trans
    (keepsGame_setScan _ (.pass (s.passCovers s.sw.refresh)))
  exact KeepsGame.ite (h.trans (keepsGame_endPass _ attn)) h

theorem keepsGame_updExpander (e : Expander) (f : ExpanderRecord → ExpanderRecord) : KeepsGame s (s.updExpander e f) :=
  keepsGame_updSw s _

theorem keepsGame_setChange (e : Expander) (i : Fin 8) (due : Option Nat) : KeepsGame s (s.setChange e i due) :=
  keepsGame_updExpander s e _

theorem keepsGame_setLevel (n : Switch) (l : Level) : KeepsGame s (s.setLevel n l) := keepsGame_updSw s _

theorem keepsGame_judgeInput (e : Expander) (v : Byte) (i : Fin 8) : KeepsGame s (s.judgeInput e v i) := by
  unfold State.judgeInput
  refine KeepsGame.ite (keepsGame_setChange s e i none) ?_
  split
  · exact keepsGame_setChange s e i _
  · exact KeepsGame.ite (((keepsGame_setLevel s _ _).trans (keepsGame_setChange _ e i none)).trans
      (keepsGame_appendEvent _ _ _)) (.refl s)

theorem keepsGame_judgeRead (e : Expander) (v : Byte) : KeepsGame s (s.judgeRead e v) := by
  have hprime : KeepsGame s (s.prime e v) :=
    (KeepsGame.foldl (fun t i => keepsGame_setLevel t (expanderSwitch e i) (levelOf (v.getLsbD i.val))) _ s).trans
      (keepsGame_updExpander _ e _)
  exact (KeepsGame.ite (KeepsGame.foldl (fun t i => keepsGame_judgeInput t e v i) (indices 8) s) hprime).trans
    (keepsGame_updExpander _ e _)

theorem keepsGame_readSucceeds (e : Expander) (v : Byte) : KeepsGame s (s.readSucceeds e v) := by
  have h := (keepsGame_updSw s _).trans (keepsGame_judgeRead (s.updExpander e fun x => { x with status := .ok }) e v)
  exact KeepsGame.ite (h.trans ((kept_clearFault _ _).trans (kept_refreshLamps _)).keepsGame) h

theorem keepsGame_readEnds (e : Expander) (first retry : Option Byte) : KeepsGame s (s.readEnds e first retry) := by
  unfold State.readEnds
  split
  · exact keepsGame_readSucceeds s e _
  · exact keepsGame_readSucceeds s e _
  · exact (keepsGame_updSw s _).trans ((kept_setFault _ _).trans (kept_refreshLamps _)).keepsGame

theorem keepsGame_measure (ch : Channel) (edges : Nat) : KeepsGame s (s.measure ch edges) := by
  have h := keepsGame_updSen s fun u =>
    { u with
      channels := vmap (fun k r => if k = ch then s.sen.channels[ch].measured s.cfg.channels[ch] edges else r) u.channels }
  exact KeepsGame.ite h
    (h.trans (((kept_sensorReport _ _ _).trans (kept_deliverDecision _ _ _)).trans (kept_refreshLamps _)).keepsGame)

theorem keepsGame_takeInFlight : KeepsGame s s.takeInFlight := by
  unfold State.takeInFlight
  split
  · exact KeepsGame.ite ⟨rfl, id⟩ (.refl s)
  · exact .refl s

theorem keepsGame_idle : KeepsGame s s.idle :=
  KeepsGame.trans (t := s.passTo (s.now + 1)) ⟨rfl, id⟩ (keepsGame_takeInFlight _)

end GameOfBlocks

section GameOfCommands

variable (s : State)

/-! #### The commands -/

theorem busFree_game : Answers (KeepsGame s) (exec .busFree s) :=
  Answers.ite (fun _ => .next ⟨rfl, id⟩) fun _ => .next (.refl s)

theorem yieldTimeout_game : Answers (KeepsGame s) (exec .yieldTimeout s) :=
  Answers.ite (fun _ => .next ⟨rfl, id⟩) fun _ => .next (.refl s)

theorem contention_game : Answers (KeepsGame s) (exec .contention s) :=
  Answers.ite (fun _ => .next ((kept_launchHead s).keepsGame.trans (keepsGame_updBus _ _))) fun _ => .next (.refl s)

theorem startMark_game : Answers (KeepsGame s) (exec .startMark s) :=
  Answers.ite (fun _ => .next (keepsGame_updBus s _)) fun _ => .next (.refl s)

theorem arbitrationLost_game : Answers (KeepsGame s) (exec .arbitrationLost s) :=
  Answers.ite (fun _ => .next ((kept_reportReturned s).keepsGame.trans (keepsGame_updBus _ _))) fun _ => .next (.refl s)

theorem lateLoss_game : Answers (KeepsGame s) (exec .lateLoss s) :=
  Answers.ite
    (fun _ => .next (((kept_reportReturned s).keepsGame.trans (keepsGame_updBus _ _)).trans (keepsGame_mute _)))
    fun _ => .next (.refl s)

theorem strayMark_game : Answers (KeepsGame s) (exec .strayMark s) :=
  Answers.ite (fun _ => .next (keepsGame_updBus s _)) fun _ => .next (.refl s)

theorem endMark_game (bits : List Bool) (v : Bool) : Answers (KeepsGame s) (exec (.endMark bits v) s) :=
  Answers.ite (fun _ => .next (keepsGame_frameEnd s bits v)) fun _ =>
    Answers.ite (fun _ => .next (keepsGame_updBus s _)) fun _ => .next (.refl s)

theorem missingEndMark_game (bits : List Bool) : Answers (KeepsGame s) (exec (.missingEndMark bits) s) :=
  Answers.ite (fun _ => .next ((keepsGame_endFrame s bits _ _ _ _ _ _).trans (keepsGame_quietCheck _ _)))
    fun _ => .next (.refl s)

theorem cut_game : Answers (KeepsGame s) (exec .cut s) :=
  Answers.ite
    (fun _ => .next ((KeepsGame.ite (kept_reportReturned s).keepsGame (.refl s)).trans (keepsGame_updBus _ _))) fun _ =>
    Answers.ite (fun _ => .next (keepsGame_updBus s _)) fun _ => .next (.refl s)

theorem quietExit_game : Answers (KeepsGame s) (exec .quietExit s) :=
  Answers.ite
    (fun _ => .next (((keepsGame_updBus s _).trans (kept_clearFault _ _).keepsGame).trans (keepsGame_changeStation _ _)))
    fun _ => .next (.refl s)

theorem stuck_game : Answers (KeepsGame s) (exec .stuck s) :=
  Answers.ite (fun _ => .next (KeepsGame.trans
      (t := (s.updBus fun b => { b with stuck := true, busFree := false }).updEng fun e =>
        { e with sync := e.sync.hold s.now })
      ⟨rfl, id⟩ ((kept_setFault _ _).trans (kept_refreshLamps _)).keepsGame))
    fun _ => .next (.refl s)

theorem stuckClear_game : Answers (KeepsGame s) (exec .stuckClear s) :=
  Answers.ite (fun _ => .next (((keepsGame_updBus s _).trans (keepsGame_restartSync _)).trans
      ((kept_clearFault _ _).trans (kept_refreshLamps _)).keepsGame))
    fun _ => .next (.refl s)

theorem tickTimerExpiry_game : Answers (KeepsGame s) (exec .tickTimerExpiry s) := by
  show Answers _ (execTickTimerExpiry s)
  unfold execTickTimerExpiry
  split
  · exact .next ((keepsGame_advanceTo s _).trans (kept_setTickTimer _ _).keepsGame)
  all_goals exact .next (.refl s)

theorem switchEventTake_game : Answers (KeepsGame s) (exec .switchEventTake s) := by
  show Answers _ (execSwitchEventTake s)
  unfold execSwitchEventTake
  split
  · next e rest _ =>
    exact Answers.ite
      (fun _ => .next (KeepsGame.trans (t := s.setSw { s.sw with events := rest }) ⟨rfl, id⟩
        (kept_dealEvent _ e).keepsGame))
      fun _ => .next (.refl s)
  · exact .next (.refl s)

theorem switchSample_game (pins : Byte) : Answers (KeepsGame s) (exec (.switchSample pins) s) := by
  have h := (keepsGame_advanceTo s s.sw.sampleDue).trans
    (keepsGame_updSw _ fun u => { u with sampleDue := u.sampleDue + Config.samplePeriod })
  exact Answers.ite (fun _ => Answers.ite
      (fun _ => .next (h.trans (KeepsGame.foldl (fun t n => keepsGame_samplePin t pins n) _ _)))
      fun _ => .next (h.trans (keepsGame_updSw _ _)))
    fun _ => .next (.refl s)

theorem attnTake_game : Answers (KeepsGame s) (exec .attnTake s) :=
  Answers.ite (fun _ => .next (keepsGame_updSw s _)) fun _ => .next (.refl s)

theorem attnRelease_game : Answers (KeepsGame s) (exec .attnRelease s) :=
  Answers.ite (fun _ => .next (keepsGame_updSw s _)) fun _ => .next (.refl s)

theorem refreshTimer_game : Answers (KeepsGame s) (exec .refreshTimer s) :=
  Answers.ite (fun _ => .next ((keepsGame_advanceTo s _).trans (keepsGame_updSw _ _))) fun _ => .next (.refl s)

theorem pendingChangeDue_game (e : Expander) (i : Fin 8) : Answers (KeepsGame s) (exec (.pendingChangeDue e i) s) := by
  show Answers _ (execPendingChangeDue e i s)
  unfold execPendingChangeDue
  split
  · exact .next ((keepsGame_advanceTo s _).trans (keepsGame_updExpander _ e _))
  · exact .next (.refl s)

theorem scannerWork_game (attn : Bool) : Answers (KeepsGame s) (exec (.scannerWork attn) s) := by
  refine Answers.ite (fun _ => ?_) fun _ => .next (.refl s)
  split
  · exact .next (keepsGame_updSw s _)
  · exact Answers.ite (fun _ => .next (keepsGame_beginPass s attn)) fun _ => .next (.refl s)

theorem expanderRead_game (first retry : Option Byte) (attn : Bool) :
    Answers (KeepsGame s) (exec (.expanderRead first retry attn) s) := by
  show Answers _ (execExpanderRead first retry attn s)
  unfold execExpanderRead
  split
  · exact .next (.refl s)
  · exact .next ((keepsGame_readEnds s _ first retry).trans (keepsGame_updSw _ _))
  · exact .next (keepsGame_endPass s attn)
  · next e rest _ =>
    have h := keepsGame_readEnds s e first retry
    exact Answers.ite (fun _ => .next (h.trans (keepsGame_endPass _ attn))) fun _ => .next (h.trans (keepsGame_updSw _ _))

theorem sweepDue_game : Answers (KeepsGame s) (exec .sweepDue s) :=
  Answers.ite (fun _ => Answers.ite (fun _ => .next ⟨rfl, id⟩) fun _ => .next ⟨rfl, id⟩) fun _ => .next (.refl s)

theorem measurementEnd_game (edges : Nat) : Answers (KeepsGame s) (exec (.measurementEnd edges) s) := by
  show Answers _ (execMeasurementEnd edges s)
  unfold execMeasurementEnd
  split
  · exact .next (.refl s)
  · exact .next (((keepsGame_advanceTo s _).trans (keepsGame_updSen _ _)).trans (keepsGame_measure _ _ edges))

/-- A Driver Unit timer's end: local time moves to it, the unit deals with it, and a derivation follows. -/
theorem keepsGame_timerEnd {t : State} (due : Nat) (h : Kept (s.advanceTo due) t) :
    KeepsGame s (t.deriveDuties).refreshLamps :=
  (keepsGame_advanceTo s due).trans (kept_derived _ h).keepsGame

theorem pulseEnd_game (o : Output) : Answers (KeepsGame s) (exec (.pulseEnd o) s) :=
  Answers.ite (fun _ => .next (keepsGame_timerEnd s _ (kept_pulseEnds _ o))) fun _ => .next (.refl s)

theorem verifyTimeout_game (o : Output) : Answers (KeepsGame s) (exec (.verifyTimeout o) s) := by
  refine Answers.ite (fun _ => .next (keepsGame_timerEnd s s.drv.outputs[o].due (Kept.trans ?_ (kept_enterRecycle _ o))))
    fun _ => .next (.refl s)
  split
  · exact kept_verifyResult _ _
  · exact Kept.refl _

theorem recycleEnd_game (o : Output) : Answers (KeepsGame s) (exec (.recycleEnd o) s) :=
  Answers.ite (fun _ => .next (keepsGame_timerEnd s _ (kept_leaveRecycle _ o))) fun _ => .next (.refl s)

theorem ejectRetryTimer_game (n : Slot) : Answers (KeepsGame s) (exec (.ejectRetryTimer n) s) := by
  show Answers _ (execEjectRetryTimer n s)
  unfold execEjectRetryTimer
  split
  · split
    · next due _ =>
      refine .next (keepsGame_timerEnd s due ?_)
      split
      · exact kept_timedFailure _ n
      · exact kept_retryEnds _ n _
    · exact .next (.refl s)
  · exact .next (.refl s)

theorem serveRetryTimer_game : Answers (KeepsGame s) (exec .serveRetryTimer s) := by
  show Answers _ (execServeRetryTimer s)
  unfold execServeRetryTimer
  split
  · exact .next (keepsGame_timerEnd s _ (kept_updDrv _ _))
  · exact .next (.refl s)

theorem scoopDwellEnd_game (n : Switch) : Answers (KeepsGame s) (exec (.scoopDwellEnd n) s) := by
  show Answers _ (execScoopDwellEnd n s)
  unfold execScoopDwellEnd
  split
  · split
    · exact .next (keepsGame_timerEnd s _ (kept_updDrv _ _))
    · exact .next (.refl s)
  · exact .next (.refl s)

theorem attractHalfCycle_game : Answers (KeepsGame s) (exec .attractHalfCycle s) :=
  Answers.ite
    (fun _ => .next ((keepsGame_advanceTo s _).trans ((kept_setLamp _ _).trans (kept_refreshLamps _)).keepsGame))
    fun _ => .next (.refl s)

theorem noticeSend_game : Answers (KeepsGame s) (exec .noticeSend s) := by
  show Answers _ (execNoticeSend s)
  unfold execNoticeSend
  split
  · exact .next ((keepsGame_advanceTo s _).trans (kept_setRpt _ _).keepsGame)
  · exact .next (.refl s)

/-! #### The commands that set the game table -/

/-- All that a command can do to the game table and its validity. -/
inductive GameMove (s t : State) : Prop
  /-- Nothing, but that the replica may become UNKNOWN. -/
  | keeps (h : KeepsGame s t)
  /-- R4, R15: a frame is applied, under a VALID replica or as a sync start. -/
  | applies (own : Station) (sync : Bool) (f : Frame) (h : t.table = (applyFrame own sync f s.table).1.table)
      (hv : s.isValid = true ∨ sync = true ∧ f.payload = .start)
  /-- R2, R175: the ATTRACT defaults over some profile. -/
  | defaults (p : Profile) (h : t.table = GameTable.attractDefaults p)
  /-- R176: a profile is loaded, in LOADING. -/
  | loads (p : Profile) (h : t.table = { s.table with profile := p }) (hl : s.ctl.state = .loading)
      (hv : t.isValid = true → s.isValid = true)

theorem syncStart_start {f : Frame} (h : s.syncStart f = true) : f.payload = .start := by
  unfold State.syncStart at h
  simp only [Bool.and_eq_true, beq_iff_eq] at h
  exact h.1.1.2

/-- R4, R14: a frame that has been taken is applied or discarded. -/
theorem taken_application_move (f : Frame) : GameMove s (s.taken.application f) := by
  cases ha : s.taken.admits f with
  | true =>
    refine .applies s.ctl.station (s.syncStart f) f ?_ ?_
    · rw [application_table _ f ha, taken_appliedTable]
      rfl
    · unfold State.admits at ha
      rw [taken_isValid, taken_syncStart, Bool.or_eq_true] at ha
      exact ha.imp_right fun h => ⟨h, syncStart_start s h⟩
  | false =>
    rw [application_discarded _ f ha]
    exact .keeps ⟨taken_table s, fun h => taken_isValid s ▸ h⟩

theorem applyNext_move (sort : Frame → Bool) : GameMove s (s.applyNext sort) := by
  unfold State.applyNext
  split
  · split
    · exact taken_application_move s _
    · exact .keeps (.refl s)
  · exact .keeps (.refl s)

theorem lossOfValidity_move : Answers (GameMove s) (exec .lossOfValidity s) := by
  show Answers _ (execLossOfValidity s)
  unfold execLossOfValidity
  split
  · exact .next (taken_application_move s _)
  · exact .next (.keeps (keepsGame_performLoss s))
  · exact .next (.keeps (.refl s))

theorem syncSilenceExpiry_move : Answers (GameMove s) (exec .syncSilenceExpiry s) := by
  show Answers _ (execSyncSilenceExpiry s)
  unfold execSyncSilenceExpiry
  split
  · exact .next (.defaults _ (game_adoptAttract _).table)
  all_goals exact .next (.keeps (.refl s))

theorem configurationRead_move (image : List Byte) : Answers (GameMove s) (exec (.configurationRead image) s) := by
  refine Answers.ite (fun hl => ?_) fun _ => .next (.keeps (.refl s))
  refine Answers.ite (fun _ => .next ?_) fun _ => .next (.keeps ?_)
  · have hload := (validity_readMemory s).trans
      ((validity_loadImage _ (fullImage image)).trans (validity_startUnits _))
    have hk : KeepsGame (s.readMemory.loadImage (fullImage image)).startUnits
        (s.readMemory.configured (fullImage image)) :=
      (keepsGame_changeStation _ .syncing).trans
        ((Kept.ite (kept_setFault _ _) (.refl _)).trans (kept_refreshLamps _)).keepsGame
    refine .loads (readProfile (fullImage image)).1 hk.table hl fun hv => ?_
    have := hk.valid hv
    rwa [isValid_iff, hload.eng, ← isValid_iff] at this
  · exact KeepsGame.trans (t := s.readMemory.setCtl { s.readMemory.ctl with state := .unconfigured, mask := 0xFF#8 })
      ⟨rfl, id⟩ ((kept_setFault _ .config).trans (kept_refreshLamps _)).keepsGame

/-- R2, R4, R175, R176: no command sets the game table in another way. -/
theorem exec_gameMove (c : Instr) (s : State) : Answers (GameMove s) (exec c s) := by
  have plain : ∀ {c}, Answers (KeepsGame s) (exec c s) → Answers (GameMove s) (exec c s) := fun h =>
    h.mono fun _ => .keeps
  have app : ∀ sort : Frame → Bool, Answers (GameMove s) (.next (s.applyNext sort)) := fun sort =>
    .next (applyNext_move s sort)
  cases c with
  | deviceReset straps low => exact .next (.defaults _ rfl)
  | configurationRead image => exact configurationRead_move s image
  | busFree => exact plain (busFree_game s)
  | yieldTimeout => exact plain (yieldTimeout_game s)
  | contention => exact plain (contention_game s)
  | startMark => exact plain (startMark_game s)
  | arbitrationLost => exact plain (arbitrationLost_game s)
  | lateLoss => exact plain (lateLoss_game s)
  | strayMark => exact plain (strayMark_game s)
  | endMark bits v => exact plain (endMark_game s bits v)
  | missingEndMark bits => exact plain (missingEndMark_game s bits)
  | cut => exact plain (cut_game s)
  | quietExit => exact plain (quietExit_game s)
  | stuck => exact plain (stuck_game s)
  | stuckClear => exact plain (stuckClear_game s)
  | syncSilenceExpiry => exact syncSilenceExpiry_move s
  | lossOfValidity => exact lossOfValidity_move s
  | tickTimerExpiry => exact plain (tickTimerExpiry_game s)
  | tickClaimBuild => exact plain (.next (kept_buildTick s).keepsGame)
  | presenceClaimBuild => exact plain (.next (kept_buildPresence s).keepsGame)
  | switchEventTake => exact plain (switchEventTake_game s)
  | switchSample pins => exact plain (switchSample_game s pins)
  | attnTake => exact plain (attnTake_game s)
  | refreshTimer => exact plain (refreshTimer_game s)
  | pendingChangeDue e i => exact plain (pendingChangeDue_game s e i)
  | scannerWork attn => exact plain (scannerWork_game s attn)
  | expanderRead first retry attn => exact plain (expanderRead_game s first retry attn)
  | sweepDue => exact plain (sweepDue_game s)
  | measurementEnd edges => exact plain (measurementEnd_game s edges)
  | pulseEnd o => exact plain (pulseEnd_game s o)
  | verifyTimeout o => exact plain (verifyTimeout_game s o)
  | recycleEnd o => exact plain (recycleEnd_game s o)
  | ejectRetryTimer n => exact plain (ejectRetryTimer_game s n)
  | serveRetryTimer => exact plain (serveRetryTimer_game s)
  | scoopDwellEnd n => exact plain (scoopDwellEnd_game s n)
  | attractHalfCycle => exact plain (attractHalfCycle_game s)
  | noticeSend => exact plain (noticeSend_game s)
  | attnRelease => exact plain (attnRelease_game s)
  | tilt | nudge | lock | lost | released | jammed | drain | launched | start | hit | mode | holdSet | holdClear | tick
  | holdExpiry | rollcallEnd | saveWindowClose | modeExpiry | ballEndLimit | silence | presence | join => exact app _

/-- The waiting commands have no part in a game move, and idling is none. -/
theorem step_gameMove {s t : State} (h : step s = .next t) : GameMove s t := by
  unfold step at h
  split at h
  · next c rest _ =>
    cases (exec_gameMove c (s.setPending rest)).of_eq h with
    | keeps hk => exact .keeps ⟨hk.table, hk.valid⟩
    | applies own sync f ht hv => exact .applies own sync f ht hv
    | defaults p ht => exact .defaults p ht
    | loads p ht hl hv => exact .loads p ht hl hv
  · cases h
    exact .keeps (keepsGame_idle s)

end GameOfCommands

/-! ### The ball law and the lock table are kept (R50, R52, R53) -/

section BallLaws

variable {s t : State}

theorem attractDefaults_slots (p : Profile) (n : Slot) : (GameTable.attractDefaults p).slots[n] = .absent :=
  Vector.getElem_replicate _

theorem attractDefaults_within (p : Profile) : (GameTable.attractDefaults p).BallsWithin := Nat.zero_le _

/-- R50: a VALID replica stays within the balls installed; a profile is loaded under an UNKNOWN one alone (R1). -/
theorem GameMove.ballLaw (h : GameMove s t) (hf : ReplicaFollowsState s) (hs : BallLaw s) : BallLaw t := by
  rw [ballLaw_iff] at hs ⊢
  intro ht
  cases h with
  | keeps hk => exact hk.table ▸ hs (hk.valid ht)
  | applies own sync f htab hv =>
    rw [htab]
    rcases hv with hv | ⟨rfl, hp⟩
    · exact (applyFrame_balls own sync f s.table).within (hs hv)
    · rw [applyFrame_begun own hp (.inl rfl)]
      exact Nat.zero_le _
  | defaults p htab => exact htab ▸ attractDefaults_within p
  | loads p htab hl hv => exact nomatch (hf.unstarted (.inl hl)).symm.trans (hv ht)

/-- R53: a table with no slot HELD obeys it, and an application keeps it. -/
theorem GameMove.heldByCurrent (h : GameMove s t) (hs : HeldByCurrent s) : HeldByCurrent t := by
  rw [heldByCurrent_iff] at hs ⊢
  cases h with
  | keeps hk => exact hk.table ▸ hs
  | applies own sync f htab hv => exact htab ▸ (applyFrame_balls own sync f s.table).held hs
  | defaults p htab => exact htab ▸ fun n _ _ hn => nomatch (attractDefaults_slots p n).symm.trans hn
  | loads p htab hl hv => exact htab ▸ hs

/-- R52: an application lights its slots anew, whatever it found. -/
theorem GameMove.openOnlyWhileLit (h : GameMove s t) (hs : OpenOnlyWhileLit s.table) : OpenOnlyWhileLit t.table := by
  cases h with
  | keeps hk => exact hk.table ▸ hs
  | applies own sync f htab hv => exact htab ▸ recomputed_openOnlyWhileLit (applyFrame_recomputed own sync f s.table)
  | defaults p htab => exact htab ▸ fun n _ hn => nomatch (attractDefaults_slots p n).symm.trans hn
  | loads p htab hl hv => exact htab ▸ hs

end BallLaws

/-- Settles O56, by what a step can do to the game table (`step_gameMove`) and what an application does with the balls
(`applyFrame_balls`). -/
theorem ballLawKept : Obligations.BallLawKept := by
  unfold Obligations.BallLawKept
  exact fun s t hf hs h => (step_gameMove h).ballLaw hf hs

/-- Settles O60, by what a step can do to the game table (`step_gameMove`): an application keeps the HELD slots' law
(`applyFrame_balls`), and its recomputation lights the others (`recomputed_openOnlyWhileLit`). -/
theorem lockTableKept : Obligations.LockTableKept := by
  unfold Obligations.LockTableKept
  exact fun s t hh ho h => ⟨(step_gameMove h).heldByCurrent hh, (step_gameMove h).openOnlyWhileLit ho⟩

end Sys2Proof.Machine

namespace Sys2Proof.Machine

/-! ### HOLD on the table (R78, R79) -/

section Hold

variable {f : Frame} {w : Work}

theorem holdSetStage_holds (h : w.table.phase = .play ∧ w.table.tilted = false) :
    (holdSetStage f w).1.table = withHold w.table f.sender (some (w.table.tick + 50#16)) := by
  unfold holdSetStage
  rw [if_pos h]
  rfl

theorem holdSetStage_elsewhere (h : ¬(w.table.phase = .play ∧ w.table.tilted = false)) :
    (holdSetStage f w).1.table = w.table := by
  unfold holdSetStage
  rw [if_neg h]

theorem holdClearStage_clears (h : w.table.holds[f.sender].isSome = true) :
    (holdClearStage f w).1.table = withHold w.table f.sender none := by
  unfold holdClearStage
  rw [if_pos h]
  rfl

theorem holdClearStage_not_held (h : w.table.holds[f.sender] = none) :
    (holdClearStage f w).1.table = refusedWith w.table f .notHeld := by
  unfold holdClearStage
  rw [if_neg (by rw [h]; decide), refuse_table]

/-- Settles O30, by the branches of the two stages. -/
theorem hold : Obligations.Hold := by
  unfold Obligations.Hold
  intro s f v hn hg hp b
  have sets : ∀ {k : GameTable}, v ≠ 0#8 → (holdSetStage f (Work.begin s.table f)).1.table = k → Leaves .holdSet s k :=
    fun hv h => leaves_of_stage hn hg (by unfold commandOf; rw [hp]; exact if_neg hv)
      (by unfold kindChecks; rw [hp]; exact if_neg hv) h
  have clears : ∀ {k : GameTable}, v = 0#8 → (holdClearStage f (Work.begin s.table f)).1.table = k → Leaves .holdClear s k :=
    fun hv h => leaves_of_stage hn hg (by unfold commandOf; rw [hp]; exact if_pos hv)
      (by unfold kindChecks; rw [hp]; exact if_pos hv) h
  exact ⟨fun hv h => sets hv (holdSetStage_holds h), fun hv h => sets hv (holdSetStage_elsewhere h),
    fun hv h => clears hv (holdClearStage_clears h), fun hv h => clears hv (holdClearStage_not_held h)⟩

end Hold

end Sys2Proof.Machine

namespace Sys2Proof.Machine

/-! ### MODE on the table (R75, R76) -/

section ModeStart

variable {f : Frame} {w : Work} {t : GameTable} {m : ModeId}

/-- R75: the first check that a MODE fails. -/
def GameTable.refusesMode (t : GameTable) (m : ModeId) : Option Reason :=
  if t.phase ≠ .play then some .notPlaying
  else if t.tilted = true then some .tilted
  else t.modeRefusal m

theorem phase_of_refusesMode (h : t.refusesMode m = none) : t.phase = .play := by
  by_contra hp
  unfold GameTable.refusesMode at h
  rw [if_pos hp] at h
  cases h

/-- R75, R76: a MODE is refused for the first check that it fails, and takes effect where it fails none. -/
theorem modeStage_eq :
    (modeStage f m w).1.table = (w.table.refusesMode m).elim (w.modeEffects m).table (refusedWith w.table f) := by
  unfold modeStage GameTable.refusesMode
  by_cases hp : w.table.phase = .play
  · by_cases ht : w.table.tilted = true
    · rw [if_neg (not_not.2 hp), if_neg (not_not.2 hp), if_pos ht, if_pos ht]
      rfl
    · rw [if_neg (not_not.2 hp), if_neg (not_not.2 hp), if_neg ht, if_neg ht]
      cases w.table.modeRefusal m <;> rfl
  · rw [if_pos hp, if_pos hp]
    rfl

theorem modeStage_refuses {r : Reason} (h : w.table.refusesMode m = some r) :
    (modeStage f m w).1.table = refusedWith w.table f r := by
  rw [modeStage_eq, h]
  rfl

theorem modeStage_starts (h : w.table.refusesMode m = none) :
    (modeStage f m w).1.table = (w.modeEffects m).table := by
  rw [modeStage_eq, h]
  rfl

/-- R77: in PLAY the pause condition is that a hold stands or no ball is in play. -/
theorem pauseCondition_in_play (hp : t.phase = .play) :
    t.pauseCondition = (t.holds.toList.any Option.isSome || t.inPlay == 0) := by
  unfold GameTable.pauseCondition GameTable.holdsEmpty
  rw [hp, List.not_all_eq_any_not]
  simp only [Option.not_isNone, beq_self_eq_true, Bool.true_and]

/-- R76: the table with the new entry. -/
theorem modeEffects_eq (w : Work) (m : ModeId) :
    (w.modeEffects m).table =
      { (if (w.table.modeDef m).sweepFinal then withCurrent w.table { w.table.current with sweepQualified := false }
          else w.table) with
        modes := w.table.modes ++ [w.table.newMode m] } := by
  unfold Work.modeEffects
  cases hf : (w.table.modeDef m).sweepFinal with
  | true => exact updPlayer_eq_withCurrent (w := w.upd fun t => { t with modes := t.modes ++ [w.table.newMode m] }) _
  | false => rfl

/-- R76, step 1: the new entry, of a table in PLAY. -/
theorem newMode_in_play (hp : t.phase = .play) :
    t.newMode m =
      { mode := m, player := t.currentPlayer
        state :=
          if t.profile.modes[m].noPause = false ∧ (t.holds.toList.any Option.isSome || t.inPlay == 0) = true then .paused
          else .running
        remaining := t.profile.modes[m].duration, progress := 0 } := by
  unfold GameTable.newMode GameTable.modeDef
  rw [pauseCondition_in_play hp]
  congr 1
  refine if_congr ?_ rfl rfl
  rw [Bool.and_eq_true, Bool.not_eq_true']

/-- Settles O29: the checks in the order of R75 (`modeStage_eq`), and the table with the new entry
(`modeEffects_eq`). -/
theorem modeStart : Obligations.ModeStart := by
  unfold Obligations.ModeStart
  intro s f m hn hg hp b d active pause refusal
  have leaves : ∀ {k : GameTable}, (modeStage f m (Work.begin s.table f)).1.table = k → Leaves .mode s k := fun h =>
    leaves_of_stage hn hg (by unfold commandOf; rw [hp]) (by unfold kindChecks; rw [hp]) h
  have hr : refusal = b.refusesMode m := by
    refine if_congr Iff.rfl rfl (if_congr Iff.rfl rfl ?_)
    unfold GameTable.modeRefusal
    refine if_congr ?_ rfl (if_congr ?_ rfl (if_congr ?_ rfl (if_congr ?_ rfl (if_congr ?_ rfl (if_congr ?_ rfl rfl)))))
    · rw [Bool.not_eq_true']; rfl
    · simp only [List.any_eq_true, Bool.and_eq_true, beq_iff_eq]
    · rw [Bool.and_eq_true, Bool.not_eq_true']; rfl
    · rw [Bool.and_eq_true, Bool.not_eq_true']; rfl
    · rw [List.countP_eq_length_filter]; rfl
    · simp only [List.any_eq_true, Bool.and_eq_true, beq_iff_eq]
      rfl
  rw [hr]
  refine ⟨fun r h => leaves (modeStage_refuses h), fun h => leaves ?_⟩
  rw [modeStage_starts h, modeEffects_eq, begin_table, newMode_in_play (phase_of_refusesMode h)]
  rfl

end ModeStart

end Sys2Proof.Machine

namespace Sys2Proof.Machine

/-! ### A completion in its player's record (R83 to R85) -/

section Sweep

/-- The number that a mask is made of, bit by bit. -/
theorem sum_bits_eq_ofBits {n : Nat} (p : Fin n → Bool) :
    ((indices n).map fun i => if p i then 2 ^ i.val else 0).sum = Nat.ofBits p := by
  induction n with
  | zero => rfl
  | succ n ih =>
    have hs : ((indices n).map fun i => if p i.succ then 2 ^ (i.val + 1) else 0).sum = 2 * Nat.ofBits (p ∘ Fin.succ) := by
      rw [← ih, ← List.sum_map_mul_left]
      refine congrArg List.sum (List.map_congr_left fun i _ => ?_)
      rw [Nat.pow_succ', ← mul_ite_zero]
      rfl
    rw [Nat.ofBits_succ, ← hs]
    simp [List.finRange_succ, List.map_map, Function.comp_def, Nat.add_comm, Bool.toNat, Bool.cond_eq_ite]

/-- The bits of a mask. -/
theorem maskOf_getLsbD {n w : Nat} (p : Fin n → Bool) (i : Fin n) (h : n ≤ w) : (maskOf w p).getLsbD i.val = p i := by
  unfold maskOf
  rw [BitVec.getLsbD_ofNat, sum_bits_eq_ofBits, Nat.testBit_ofBits_lt p i.val i.isLt, decide_eq_true (i.isLt.trans_le h),
    Bool.true_and]

variable (profile : Profile) (m : ModeId) (p : Player)

/-- R74: the SWEEP_COUNTS modes. -/
theorem sweepCounts_getLsbD (k : ModeId) :
    profile.sweepCounts.getLsbD k.val = true ↔
      profile.modes[k].defined = true ∧ profile.modes[k].sweepCounts = true ∧ profile.modes[k].sweepFinal = false := by
  unfold Profile.sweepCounts
  rw [maskOf_getLsbD _ k (le_refl 8), Bool.and_eq_true, Bool.and_eq_true, Bool.not_eq_true', and_assoc]

/-- A mask that gains one bit. -/
theorem getLsbD_or_bit (x : Byte) (k : ModeId) :
    (x ||| BitVec.ofNat 8 (2 ^ m.val)).getLsbD k.val = true ↔ k = m ∨ x.getLsbD k.val = true := by
  rw [BitVec.getLsbD_or, Bool.or_eq_true, or_comm, BitVec.getLsbD_ofNat, decide_eq_true k.isLt, Bool.true_and,
    Nat.testBit_two_pow, decide_eq_true_iff, Fin.ext_iff, eq_comm]

/-- A mask covers another when every bit of the other is in it. -/
theorem and_eq_right_iff (x y : Byte) :
    x &&& y = y ↔ ∀ k : ModeId, y.getLsbD k.val = true → x.getLsbD k.val = true := by
  constructor
  · intro h k hk
    rw [← h, BitVec.getLsbD_and, Bool.and_eq_true] at hk
    exact hk.1
  · intro h
    refine BitVec.eq_of_getLsbD_eq fun i hi => ?_
    rw [BitVec.getLsbD_and]
    cases hy : y.getLsbD i with
    | false => rw [Bool.and_false]
    | true => rw [h ⟨i, hi⟩ hy, Bool.true_and]

/-- R83, R85: the completed-mode set behind a completion. -/
theorem complete_completed (k : ModeId) :
    (p.complete profile m).completed.getLsbD k.val = true ↔
      (k = m ∨ p.completed.getLsbD k.val = true)
        ∧ ¬(profile.modes[m].sweepFinal = true ∧ profile.sweepCounts.getLsbD k.val = true) := by
  unfold Player.complete
  dsimp only
  rw [← getLsbD_or_bit]
  cases profile.modes[m].sweepFinal with
  | true =>
    rw [if_pos rfl, BitVec.getLsbD_and, Bool.and_eq_true, BitVec.getLsbD_not, decide_eq_true k.isLt, Bool.true_and,
      Bool.not_eq_true', ← Bool.not_eq_true]
    simp only [true_and]
  | false =>
    rw [if_neg Bool.false_ne_true]
    simp only [Bool.false_eq_true, false_and, not_false_eq_true, and_true]

/-- R84: a completion qualifies where it is the one that completes the SWEEP_COUNTS modes. -/
theorem complete_sweepQualified :
    (p.complete profile m).sweepQualified = true ↔ p.sweepQualified = true
      ∨ profile.sweepCounts.getLsbD m.val = true
        ∧ (∃ k : ModeId, profile.sweepCounts.getLsbD k.val = true ∧ p.completed.getLsbD k.val = false)
        ∧ ∀ k : ModeId, profile.sweepCounts.getLsbD k.val = true → k = m ∨ p.completed.getLsbD k.val = true := by
  unfold Player.complete
  rw [Bool.or_eq_true, Bool.and_eq_true, Bool.and_eq_true, bne_iff_ne, beq_iff_eq, ne_eq, and_eq_right_iff,
    and_eq_right_iff, and_assoc]
  simp only [getLsbD_or_bit, not_forall, Bool.not_eq_true, exists_prop]

/-- Settles O28, by the bits of the masks. -/
theorem sweepBookkeeping : Obligations.SweepBookkeeping := by
  unfold Obligations.SweepBookkeeping
  intro profile m p counts q
  have hc : ∀ k : ModeId, counts k ↔ profile.sweepCounts.getLsbD k.val = true := fun k =>
    (sweepCounts_getLsbD profile k).symm
  simp only [hc]
  exact ⟨complete_completed profile m p, complete_sweepQualified profile m p, rfl, rfl⟩

end Sweep

end Sys2Proof.Machine

namespace Sys2Proof.Machine

/-! ### HIT on the table (R94 to R102) -/

section CurrentPlayer

/-! #### The current player's record -/

variable {w : Work} {t : GameTable} {p : Player}

theorem withCurrent_current (t : GameTable) (p : Player) : (withCurrent t p).current = p := by
  unfold withCurrent GameTable.current
  rw [vmap_get_fin, if_pos rfl]

theorem withCurrent_withCurrent (t : GameTable) (p q : Player) : withCurrent (withCurrent t p) q = withCurrent t q := by
  refine congrArg (fun ps => { t with players := ps }) (Vector.ext fun i hi => ?_)
  unfold withCurrent
  rw [vmap_get, vmap_get, vmap_get]
  split <;> rfl

theorem updPlayer_of_withCurrent (h : w.table = withCurrent t p) (g : Player → Player) :
    (w.updPlayer g).table = withCurrent t (g p) := by
  rw [updPlayer_eq_withCurrent, h, withCurrent_current, withCurrent_withCurrent]

/-- R102: two awards saturate as their sum does. -/
theorem award_award (a b : Nat) (p : Player) : Player.award b (Player.award a p) = Player.award (a + b) p := by
  unfold Player.award
  congr 1
  dsimp only
  omega

theorem award_of_withCurrent {a : Nat} (h : w.table = withCurrent t (p.award a)) (units : Nat) :
    (w.award units).table = withCurrent t (p.award (a + units)) := by
  rw [← award_award]
  exact updPlayer_of_withCurrent h _

end CurrentPlayer

section GoalWords

/-! #### The words of R97 and R98 over a mode table -/

variable (t : GameTable) (m : Nat) (tag : Byte)

/-- R91: an entry that raises the multiplier. -/
def GameTable.multiplies (e : ModeEntry) : Bool :=
  (e.player == t.currentPlayer && e.state != .suspended) && t.profile.modes[e.mode].multiply

/-- R97: an entry that takes the goal hit. -/
def GameTable.takesHit (e : ModeEntry) : Bool :=
  (e.player == t.currentPlayer && e.state != .suspended) && t.profile.modes[e.mode].goalTag == tag.toNat
    && decide (1 ≤ tag.toNat ∧ tag.toNat ≤ 15)

/-- R97: an entry that the goal hit completes. -/
def GameTable.completesBy (e : ModeEntry) : Bool :=
  t.takesHit tag e && e.progress + 1 == t.profile.modes[e.mode].goalCount

/-- R97, R83: what the goal hit leaves of an entry. -/
def GameTable.afterHit (e : ModeEntry) : Option ModeEntry :=
  if t.completesBy tag e then none
  else if t.takesHit tag e then some { e with progress := e.progress + 1 }
  else some e

/-- R97: the per-hit values, multiplied. -/
def GameTable.perHits (es : List ModeEntry) : Nat :=
  ((es.filter (t.takesHit tag)).map fun e => t.profile.modes[e.mode].perHit * m).sum

/-- R98: the multiplier of the entries that are left when the goal hit comes to place `i`. -/
def GameTable.multiplierAt (es : List ModeEntry) (i : Nat) : Nat :=
  min 5 (1 + (((es.take i).filter fun e => t.multiplies e && !t.completesBy tag e).length
    + ((es.drop i).filter t.multiplies).length))

/-- R98: the completion award at place `i`. -/
def GameTable.completionAt (es : List ModeEntry) (i : Nat) : Nat :=
  match es[i]? with
  | some e => if t.completesBy tag e then t.profile.modes[e.mode].completion * t.multiplierAt tag es i else 0
  | none => 0

/-- R83: a player's record behind the completions among some entries. -/
def GameTable.completing (es : List ModeEntry) (p : Player) : Player :=
  (es.filter (t.completesBy tag)).foldl (fun p e => p.complete t.profile e.mode) p

theorem visits_eq (e : ModeEntry) : t.visits tag e = t.takesHit tag e := by
  unfold GameTable.visits GameTable.takesHit
  rw [Bool.decide_and, ← Bool.and_assoc]
  rfl

theorem multiplierOf_eq (es : List ModeEntry) : t.multiplierOf es = min 5 (1 + (es.filter t.multiplies).length) := by
  unfold GameTable.multiplierOf
  rw [List.countP_eq_length_filter]
  rfl

/-- The entries that are left multiply as they did. -/
theorem countP_multiplies_afterHit (es : List ModeEntry) :
    (es.filterMap (t.afterHit tag)).countP t.multiplies = es.countP fun e => t.multiplies e && !t.completesBy tag e := by
  rw [List.countP_filterMap]
  refine List.countP_congr fun e _ => ?_
  unfold GameTable.afterHit
  cases t.completesBy tag e with
  | true => simp
  | false => cases t.takesHit tag e <;> simp [GameTable.multiplies]

/-- R98: the multiplier of a completion counts the entry itself, and no entry that the same HIT has completed. -/
theorem multiplierOf_passed (pre rest : List ModeEntry) (e : ModeEntry) :
    t.multiplierOf (pre.filterMap (t.afterHit tag) ++ { e with progress := e.progress + 1 } :: rest) =
      t.multiplierAt tag (pre ++ e :: rest) pre.length := by
  have hbump : t.multiplies { e with progress := e.progress + 1 } = t.multiplies e := rfl
  unfold GameTable.multiplierAt
  rw [multiplierOf_eq, List.take_left, List.drop_left]
  simp only [← List.countP_eq_length_filter, List.countP_append, countP_multiplies_afterHit, List.countP_cons, hbump]

theorem completionAt_passed (pre rest : List ModeEntry) (e : ModeEntry) :
    t.completionAt tag (pre ++ e :: rest) pre.length =
      if t.completesBy tag e then
        t.profile.modes[e.mode].completion * t.multiplierAt tag (pre ++ e :: rest) pre.length
      else 0 := by
  unfold GameTable.completionAt
  rw [List.getElem?_append_right (le_refl _), Nat.sub_self]
  rfl

theorem completesBy_iff (e : ModeEntry) :
    t.completesBy tag e = true ↔ t.takesHit tag e = true ∧ e.progress + 1 = t.profile.modes[e.mode].goalCount := by
  unfold GameTable.completesBy
  rw [Bool.and_eq_true, beq_iff_eq]

/-- A completion leaves the score and the locks lit. -/
theorem completing_keeps (es : List ModeEntry) (p : Player) :
    (t.completing tag es p).score = p.score ∧ (t.completing tag es p).locksLit = p.locksLit := by
  unfold GameTable.completing
  induction es.filter (t.completesBy tag) generalizing p with
  | nil => exact ⟨rfl, rfl⟩
  | cons e es ih => exact ih (p.complete t.profile e.mode)

end GoalWords

section Goals

/-! #### Stage 3, entry by entry (R97, R98, R83) -/

variable {w : Work} (t : GameTable) (m : Nat) (tag : Byte)

theorem perHits_cons (e : ModeEntry) (es : List ModeEntry) :
    t.perHits m tag (e :: es) =
      (if t.takesHit tag e then t.profile.modes[e.mode].perHit * m else 0) + t.perHits m tag es := by
  unfold GameTable.perHits
  cases h : t.takesHit tag e <;> simp [h]

theorem completing_cons (e : ModeEntry) (es : List ModeEntry) (p : Player) :
    t.completing tag (e :: es) p =
      t.completing tag es (if t.completesBy tag e then p.complete t.profile e.mode else p) := by
  unfold GameTable.completing
  cases h : t.completesBy tag e <;> simp [h]

theorem goalHits_not_visited {e : ModeEntry} (h : w.table.visits tag e = false) (kept rest : List ModeEntry) :
    goalHits m tag kept (e :: rest) w = goalHits m tag (kept ++ [e]) rest w := by
  rw [goalHits, h]
  exact if_neg Bool.false_ne_true

theorem goalHits_advanced {e : ModeEntry} (h : w.table.visits tag e = true)
    (hg : e.progress + 1 ≠ (w.table.modeDef e.mode).goalCount) (kept rest : List ModeEntry) :
    ∃ n, goalHits m tag kept (e :: rest) w =
      goalHits m tag (kept ++ [{ e with progress := e.progress + 1 }]) rest
        ((w.award ((w.table.modeDef e.mode).perHit * m)).note n) := by
  rw [goalHits, if_pos h]
  exact ⟨_, if_neg hg⟩

theorem goalHits_completed {e : ModeEntry} (h : w.table.visits tag e = true)
    (hg : e.progress + 1 = (w.table.modeDef e.mode).goalCount) (kept rest : List ModeEntry) :
    ∃ n, goalHits m tag kept (e :: rest) w =
      goalHits m tag kept rest
        ((((w.award ((w.table.modeDef e.mode).perHit * m)).award
            ((w.table.modeDef e.mode).completion
              * w.table.multiplierOf (kept ++ { e with progress := e.progress + 1 } :: rest))).updPlayer
          (Player.complete w.table.profile e.mode)).note n) := by
  rw [goalHits, if_pos h]
  exact ⟨_, if_pos hg⟩

/-- R97, R98, R83: what one entry adds to the current player's record and leaves of itself. -/
theorem goalHits_cons {a : Nat} {p : Player} (h : w.table = withCurrent t (p.award a)) (pre rest : List ModeEntry)
    (e : ModeEntry) :
    ∃ w' : Work,
      w'.table = withCurrent t ((if t.completesBy tag e then p.complete t.profile e.mode else p).award
        (a + (if t.takesHit tag e then t.profile.modes[e.mode].perHit * m else 0)
          + t.completionAt tag (pre ++ e :: rest) pre.length))
      ∧ goalHits m tag (pre.filterMap (t.afterHit tag)) (e :: rest) w =
          goalHits m tag (pre.filterMap (t.afterHit tag) ++ (t.afterHit tag e).toList) rest w' := by
  have hvisits : w.table.visits tag e = t.takesHit tag e := by rw [h, ← visits_eq]; rfl
  have hdef : w.table.modeDef e.mode = t.profile.modes[e.mode] := by rw [h]; rfl
  have hw1 := award_of_withCurrent h (t.profile.modes[e.mode].perHit * m)
  rw [completionAt_passed]
  by_cases hc : t.completesBy tag e = true
  · obtain ⟨ht, hgoal⟩ := (completesBy_iff t tag e).1 hc
    obtain ⟨n, hn⟩ := goalHits_completed m tag (hvisits.trans ht) (hdef ▸ hgoal) (pre.filterMap (t.afterHit tag)) rest
    have hmult : w.table.multiplierOf (pre.filterMap (t.afterHit tag) ++ { e with progress := e.progress + 1 } :: rest) =
        t.multiplierAt tag (pre ++ e :: rest) pre.length := by
      rw [h, ← multiplierOf_passed]
      rfl
    have hleft : t.afterHit tag e = none := if_pos hc
    rw [if_pos hc, if_pos hc, if_pos ht, hleft, Option.toList_none, List.append_nil]
    rw [hdef, hmult] at hn
    exact ⟨_, updPlayer_of_withCurrent (award_of_withCurrent hw1 _) _, h ▸ hn⟩
  · rw [if_neg hc, if_neg hc]
    by_cases ht : t.takesHit tag e = true
    · obtain ⟨n, hn⟩ := goalHits_advanced m tag (hvisits.trans ht)
        (fun hg => hc ((completesBy_iff t tag e).2 ⟨ht, hdef ▸ hg⟩)) (pre.filterMap (t.afterHit tag)) rest
      have hleft : t.afterHit tag e = some { e with progress := e.progress + 1 } := (if_neg hc).trans (if_pos ht)
      rw [if_pos ht, hleft]
      rw [hdef] at hn
      exact ⟨(w.award _).note n, hw1, hn⟩
    · have hleft : t.afterHit tag e = some e := (if_neg hc).trans (if_neg ht)
      rw [if_neg ht, hleft]
      exact ⟨w, h, goalHits_not_visited m tag (hvisits.trans (Bool.not_eq_true _ ▸ ht)) _ _⟩

/-- R97, R98, R83: the table behind stage 3, by the entries `pre` passed already and those `l` still to visit. -/
theorem goalHits_table (l : List ModeEntry) : ∀ (pre : List ModeEntry) (a : Nat) (p : Player) (w : Work),
    w.table = withCurrent t (p.award a) →
    (goalHits m tag (pre.filterMap (t.afterHit tag)) l w).table =
      withCurrent { t with modes := (pre ++ l).filterMap (t.afterHit tag) }
        ((t.completing tag l p).award
          (a + t.perHits m tag l + ((List.range' pre.length l.length).map (t.completionAt tag (pre ++ l))).sum)) := by
  induction l with
  | nil =>
    intro pre a p w h
    rw [goalHits, upd_table, h, List.append_nil]
    rfl
  | cons e l ih =>
    intro pre a p w h
    obtain ⟨w', hw', he⟩ := goalHits_cons t m tag h pre l e
    have hl := ih (pre ++ [e]) _ _ _ hw'
    rw [List.append_assoc, List.singleton_append, List.length_append, List.length_singleton] at hl
    have hpre : (pre ++ [e]).filterMap (t.afterHit tag) =
        pre.filterMap (t.afterHit tag) ++ (t.afterHit tag e).toList := by
      rw [List.filterMap_append]
      cases ha : t.afterHit tag e <;> simp [ha]
    rw [he, ← hpre, hl, completing_cons, perHits_cons, List.length_cons, List.range'_succ, List.map_cons, List.sum_cons]
    refine congrArg (fun units => withCurrent _ (Player.award units _)) ?_
    omega

end Goals

section Hit

variable {w : Work} {f : Frame} {sw : Switch} {base : BitVec 24} {tag flags : Byte}

/-! #### The five stages (R95) -/

/-- R99: stage 4. -/
theorem lightLock_of_withCurrent {t : GameTable} {p : Player} {a : Nat} (h : w.table = withCurrent t (p.award a))
    (flags : Byte) :
    (w.lightLock flags).table =
      withCurrent t
        (Player.award a { p with locksLit := if flags.getLsbD 0 then min 4 (p.locksLit + 1) else p.locksLit }) := by
  unfold Work.lightLock
  cases flags.getLsbD 0 with
  | true => exact updPlayer_of_withCurrent h _
  | false => exact h

/-- R100: stage 5. -/
theorem jackpotStage_of_withCurrent {t : GameTable} {p : Player} {a : Nat} (h : w.table = withCurrent t (p.award a))
    (m : Nat) (flags : Byte) :
    (w.jackpotStage m flags).table =
      withCurrent
        { t with
          jackpot :=
            if flags.getLsbD 1 = true ∧ t.multiball = true then min 16777215 (t.jackpot + t.profile.jackpotStep)
            else t.jackpot }
        (p.award (a + if flags.getLsbD 1 = true ∧ t.multiball = true then t.jackpot * m else 0)) := by
  have hcollects : w.table.collectsJackpot flags = true ↔ flags.getLsbD 1 = true ∧ t.multiball = true := by
    rw [h, ← Bool.and_eq_true]
    rfl
  have hjackpot : w.table.jackpot = t.jackpot := by rw [h]; rfl
  unfold Work.jackpotStage
  by_cases hc : flags.getLsbD 1 = true ∧ t.multiball = true
  · rw [if_pos (hcollects.2 hc), if_pos hc, if_pos hc, upd_table, hjackpot, award_of_withCurrent h]
    rfl
  · rw [if_neg (mt hcollects.1 hc), if_neg hc, if_neg hc, h]
    rfl

/-- R95, R103: the SCORE notice leaves the table to the five stages. -/
theorem hitEffects_table (w : Work) (sender : Station) (sw : Switch) (base : BitVec 24) (tag flags : Byte) :
    let m := w.table.multiplierOf w.table.modes
    (w.hitEffects sender sw base tag flags).table =
      (((goalHits m tag [] w.table.modes (w.award (base.toNat * m))).lightLock flags).jackpotStage m flags).table := by
  unfold Work.hitEffects
  dsimp only
  split <;> rfl

/-- R95 to R102: the table behind an applied HIT. -/
theorem hitEffects_eq (w : Work) (sender : Station) (sw : Switch) (base : BitVec 24) (tag flags : Byte) :
    let b := w.table
    let m := min 5 (1 + (b.modes.filter b.multiplies).length)
    let collects := flags.getLsbD 1 = true ∧ b.multiball = true
    (w.hitEffects sender sw base tag flags).table =
      { withCurrent b { b.completing tag b.modes b.current with
          score := min Config.scoreMax
            (b.current.score + base.toNat * m + b.perHits m tag b.modes
              + ((List.range b.modes.length).map (b.completionAt tag b.modes)).sum
              + if collects then b.jackpot * m else 0)
          locksLit := if flags.getLsbD 0 then min 4 (b.current.locksLit + 1) else b.current.locksLit } with
        modes := b.modes.filterMap (b.afterHit tag)
        jackpot := if collects then min 16777215 (b.jackpot + b.profile.jackpotStep) else b.jackpot } := by
  intro b m collects
  obtain ⟨hscore, hlocks⟩ := completing_keeps b tag b.modes b.current
  have h1 : (w.award (base.toNat * m)).table = withCurrent b (b.current.award (base.toNat * m)) :=
    updPlayer_eq_withCurrent _
  have h3 := goalHits_table b m tag b.modes [] _ _ _ h1
  rw [List.nil_append, List.length_nil, ← List.range_eq_range'] at h3
  rw [hitEffects_table, multiplierOf_eq]
  refine (jackpotStage_of_withCurrent (lightLock_of_withCurrent h3 flags) m flags).trans (congrArg (withCurrent _) ?_)
  unfold Player.award
  rw [hscore, hlocks, ← Nat.add_assoc, ← Nat.add_assoc, ← Nat.add_assoc]

theorem hitStage_not_playing (h : w.table.phase ≠ .play) :
    (hitStage f sw base tag flags w).1.table = refusedWith w.table f .notPlaying := by
  unfold hitStage
  rw [if_pos h, refuse_table]

theorem hitStage_tilted (hp : w.table.phase = .play) (ht : w.table.tilted = true) :
    (hitStage f sw base tag flags w).1.table = refusedWith w.table f .tilted := by
  unfold hitStage
  rw [if_neg (not_not.2 hp), if_pos ht, refuse_table]

theorem hitStage_hits (hp : w.table.phase = .play) (ht : w.table.tilted = false) :
    (hitStage f sw base tag flags w).1.table = (w.hitEffects f.sender sw base tag flags).table := by
  unfold hitStage
  rw [if_neg (not_not.2 hp), if_neg (Bool.eq_false_iff.1 ht), applied_table]

/-- Settles O27, by the branches of the stage and the table behind its effects (`hitEffects_eq`). -/
theorem hitGoal : Obligations.HitGoal := by
  unfold Obligations.HitGoal
  intro s f sw base tag flags hn hg hp b active multiplies hits completes m left perHits completions collects record
  have leaves : ∀ {k : GameTable}, (hitStage f sw base tag flags (Work.begin s.table f)).1.table = k → Leaves .hit s k :=
    fun h => leaves_of_stage hn hg (by unfold commandOf; rw [hp]) (by unfold kindChecks; rw [hp]) h
  exact ⟨fun h => leaves (hitStage_not_playing h), fun h ht => leaves (hitStage_tilted h ht),
    fun h ht => leaves ((hitStage_hits h ht).trans (hitEffects_eq _ f.sender sw base tag flags))⟩

end Hit

end Sys2Proof.Machine

namespace Sys2Proof.Machine

/-! ### What a HIT awards (R96, R100) -/

section HitAwards

variable {s : State} {f : Frame} {sw : Switch} {base : BitVec 24} {tag flags : Byte}

theorem withCurrent_player (t : GameTable) (p : Player) (k : PlayerIx) :
    (withCurrent t p).players[k] = if k = t.currentPlayer then p else t.players[k] := vmap_get_fin _ _ k

/-- R97, R98: what stage 3 awards, with the multiplier `m` of stage 1. -/
def GameTable.goalUnits (t : GameTable) (m : Nat) (tag : Byte) : Nat :=
  t.perHits m tag t.modes + ((List.range t.modes.length).map (t.completionAt tag t.modes)).sum

/-- R97: an entry that is not visited is not completed. -/
theorem completesBy_of_not_visited {t : GameTable} {e : ModeEntry} (h : t.visits tag e = false) :
    ¬t.completesBy tag e = true := fun hc =>
  Bool.eq_false_iff.1 h ((visits_eq t tag e).trans ((completesBy_iff t tag e).1 hc).1)

theorem perHits_of_not_visited {t : GameTable} {es : List ModeEntry} (h : ∀ e ∈ es, t.visits tag e = false) (m : Nat) :
    t.perHits m tag es = 0 := by
  unfold GameTable.perHits
  rw [List.filter_eq_nil_iff.2 fun e he => visits_eq t tag e ▸ Bool.eq_false_iff.1 (h e he)]
  rfl

theorem completionAt_of_not_visited {t : GameTable} {es : List ModeEntry} (h : ∀ e ∈ es, t.visits tag e = false)
    (i : Nat) : t.completionAt tag es i = 0 := by
  unfold GameTable.completionAt
  cases he : es[i]? with
  | none => rfl
  | some e => exact if_neg (completesBy_of_not_visited (h e (List.mem_of_getElem? he)))

/-- R97, R98: a tag that visits no instance awards nothing in stage 3. -/
theorem goalUnits_of_not_visited {t : GameTable} (h : ∀ e ∈ t.modes, t.visits tag e = false) (m : Nat) :
    t.goalUnits m tag = 0 := by
  have hsum : ((List.range t.modes.length).map (t.completionAt tag t.modes)).sum = 0 :=
    List.sum_eq_zero <| List.forall_mem_map.2 fun i _ => completionAt_of_not_visited h i
  unfold GameTable.goalUnits
  rw [perHits_of_not_visited h, hsum]

/-- R96: the base award is within 16,777,215 × 5. -/
theorem base_mul_le {m : Nat} (hm : m ≤ 5) (base : BitVec 24) : base.toNat * m ≤ 83886075 :=
  Nat.mul_le_mul (Nat.le_of_lt_succ base.isLt) hm

/-- R100: stage 5 needs both JACKPOT and multiball. -/
theorem not_collects {multiball : Bool} (h : flags.getLsbD 1 = false ∨ multiball = false) :
    ¬(flags.getLsbD 1 = true ∧ multiball = true) := fun ⟨hflag, hmultiball⟩ =>
  h.elim (Bool.eq_false_iff.1 · hflag) (Bool.eq_false_iff.1 · hmultiball)

/-- R95 to R102: the records and the jackpot behind an applied HIT, by the awards of its stages 2, 3 and 5. -/
theorem exec_hit_applied (hn : TakesNext s f) (hg : PassesGate s f) (hp : f.payload = .hit sw base tag flags)
    (hplay : s.table.phase = .play) (htilt : s.table.tilted = false) :
    let b := s.table
    let m := min 5 (1 + (b.modes.filter b.multiplies).length)
    let collects := flags.getLsbD 1 = true ∧ b.multiball = true
    ∃ t, exec .hit s = .next t
      ∧ t.table.players[b.currentPlayer].score =
          min Config.scoreMax
            (b.players[b.currentPlayer].score + base.toNat * m + b.goalUnits m tag + if collects then b.jackpot * m else 0)
      ∧ (∀ q, q ≠ b.currentPlayer → t.table.players[q] = b.players[q])
      ∧ t.table.jackpot = if collects then min 16777215 (b.jackpot + b.profile.jackpotStep) else b.jackpot := by
  intro b m collects
  have hstage := (hitStage_hits (w := Work.begin s.table f) (f := f) hplay htilt).trans
    (hitEffects_eq (Work.begin s.table f) f.sender sw base tag flags)
  obtain ⟨t, hexec, hrec, -⟩ := leaves_of_stage (c := .hit) hn hg (by unfold commandOf; rw [hp])
    (by unfold kindChecks; rw [hp]) hstage
  have hphase : s.table.phase ≠ .ballEnd := fun hend => nomatch hplay.symm.trans hend
  rw [completionChecked_of_ne _ (by exact hphase)] at hrec
  unfold RecomputedFrom at hrec
  refine ⟨t, hexec, ?_, fun q hq => ?_, ?_⟩
  · rw [hrec]
    exact (congrArg Player.score ((withCurrent_player _ _ _).trans (if_pos rfl))).trans
      (congrArg (fun units => min _ (units + _)) (Nat.add_assoc _ _ _))
  · rw [hrec]
    exact (withCurrent_player _ _ q).trans (if_neg hq)
  · rw [hrec]
    rfl

/-- Settles O25, by the awards of the stages (`exec_hit_applied`). -/
theorem hitBaseAward : Obligations.HitBaseAward := by
  unfold Obligations.HitBaseAward
  intro s f sw base tag flags hn hg hp hplay htilt m p
  have hle : m ≤ 5 := min_le_left 5 _
  obtain ⟨t, hexec, hscore, hothers, -⟩ := exec_hit_applied hn hg hp hplay htilt
  refine ⟨le_min (by decide) (Nat.le_add_right 1 _), hle, base_mul_le hle base, t, hexec, ?_,
    fun hvisits hno => ?_, hothers⟩
  · exact (min_le_min_left _ ((Nat.le_add_right _ _).trans (Nat.le_add_right _ _))).trans_eq hscore.symm
  · rw [hscore, goalUnits_of_not_visited hvisits, if_neg (not_collects hno)]
    rfl

/-- Settles O26, by the awards of the stages (`exec_hit_applied`). -/
theorem hitJackpot : Obligations.HitJackpot := by
  unfold Obligations.HitJackpot
  intro s f sw base tag flags hn hg hp hplay htilt m p
  obtain ⟨t, hexec, hscore, -, hjackpot⟩ := exec_hit_applied hn hg hp hplay htilt
  refine ⟨fun hflag hmultiball => ?_, fun hno => ?_⟩
  · rw [if_pos ⟨hflag, hmultiball⟩] at hscore hjackpot
    refine ⟨t, hexec, hjackpot, ?_, fun hvisits => ?_⟩
    · exact (min_le_min_left _ (Nat.add_le_add_right (Nat.le_add_right _ _) _)).trans_eq hscore.symm
    · rw [hscore, goalUnits_of_not_visited hvisits]
      rfl
  · exact ⟨t, hexec, hjackpot.trans (if_neg (not_collects hno))⟩

end HitAwards

end Sys2Proof.Machine

namespace Sys2Proof.Machine

/-! ### The order of the claim queue, and the claim IN_FLIGHT (ClaimQueueKept) -/

section QueueOrder

/-- R128: the queue is in its order, and its claims were created in their turn. -/
structure ClaimUnit.InOrder (u : ClaimUnit) : Prop where
  ordered  : u.queue.Pairwise Claim.before
  numbered : u.Numbered

/-- R127: the number of claims IN_FLIGHT. -/
def ClaimUnit.flights (u : ClaimUnit) : Nat := u.queue.countP Claim.isInFlight

/-- R109: the station has not been configured. -/
abbrev Unstarted (s : State) : Prop := s.ctl.state = .loading ∨ s.ctl.state = .unconfigured

/-- From `s` to `t` the claim queue stays in its order, no claim goes IN_FLIGHT, and no frame that the station transmits
begins or ends. -/
structure KeepsQueue (s t : State) : Prop where
  order     : s.claim.InOrder → t.claim.InOrder
  flights   : t.claim.flights ≤ s.claim.flights
  unstarted : Unstarted t → Unstarted s
  transmits : t.transmitting = s.transmitting
  disabled  : s.bus.link = .disabled → t.bus.link = .disabled

namespace KeepsQueue

theorem refl (s : State) : KeepsQueue s s := ⟨id, le_refl _, id, rfl, id⟩

theorem trans {s t u : State} (h : KeepsQueue s t) (g : KeepsQueue t u) : KeepsQueue s u :=
  ⟨fun hs => g.order (h.order hs), g.flights.trans h.flights, fun hu => h.unstarted (g.unstarted hu),
    g.transmits.trans h.transmits, fun hs => g.disabled (h.disabled hs)⟩

theorem ite {s t u : State} {p : Prop} [Decidable p] (h : KeepsQueue s t) (g : KeepsQueue s u) :
    KeepsQueue s (if p then t else u) := by
  split <;> assumption

theorem foldl {α : Type} {f : State → α → State} (hf : ∀ s a, KeepsQueue s (f s a)) (l : List α) (s : State) :
    KeepsQueue s (l.foldl f s) := by
  induction l generalizing s with
  | nil => exact refl s
  | cons a l ih => exact (hf s a).trans (ih (f s a))

/-- What leaves the link, the station state and the claims as they are leaves the queue in its order. -/
theorem of_same {s t : State} (hc : t.claim = s.claim) (hst : t.ctl.state = s.ctl.state) (hl : t.bus.link = s.bus.link) :
    KeepsQueue s t := by
  refine ⟨fun hs => hc ▸ hs, by rw [hc], fun h => ?_, ?_, fun h => hl.trans h⟩
  · unfold Unstarted at h ⊢
    rwa [hst] at h
  · unfold State.transmitting
    rw [hl]

/-- What leaves the link and the station state as they are is a matter of the claims. -/
theorem of_claims {s t : State} (hst : t.ctl.state = s.ctl.state) (hl : t.bus.link = s.bus.link)
    (ho : s.claim.InOrder → t.claim.InOrder) (hf : t.claim.flights ≤ s.claim.flights) : KeepsQueue s t :=
  have h := of_same (s := s.setClaim t.claim) (t := t) rfl hst hl
  ⟨ho, hf, h.unstarted, h.transmits, h.disabled⟩

end KeepsQueue

theorem Kept.keepsQueue {s t : State} (h : Kept s t) (hc : ClaimsKept s t) : KeepsQueue s t :=
  .of_same hc.claim h.state (by rw [h.bus])

/-! #### The queue itself -/

section Queues

variable {q : List Claim} {c : Claim} {u v : ClaimUnit}

/-- R128: a claim created last takes its place in the order. -/
theorem pairwise_insertClaim (hq : q.Pairwise Claim.before) (hc : ∀ d ∈ q, d.created < c.created) :
    (insertClaim c q).Pairwise Claim.before := by
  induction q with
  | nil => exact List.pairwise_singleton _ _
  | cons d q ih =>
    obtain ⟨hd, hq'⟩ := List.pairwise_cons.1 hq
    unfold insertClaim
    split
    · next hle =>
      refine List.pairwise_cons.2 ⟨fun e he => ?_, ih hq' fun e he => hc e (List.mem_cons_of_mem d he)⟩
      rcases (mem_insertClaim c e q).1 he with rfl | he
      · exact (Nat.lt_or_eq_of_le hle).imp_right fun h => ⟨h, hc d List.mem_cons_self⟩
      · exact hd e he
    · next hlt =>
      refine List.pairwise_cons.2 ⟨fun e he => .inl ?_, hq⟩
      rcases List.mem_cons.1 he with rfl | he
      · exact Nat.lt_of_not_le hlt
      · rcases hd e he with h | ⟨h, -⟩ <;> omega

theorem countP_insertClaim (p : Claim → Bool) (c : Claim) (q : List Claim) :
    (insertClaim c q).countP p = (c :: q).countP p := by
  induction q with
  | nil => rfl
  | cons d q ih =>
    unfold insertClaim
    split
    · rw [List.countP_cons, ih, List.countP_cons, List.countP_cons, List.countP_cons]
      omega
    · rfl

theorem ClaimUnit.InOrder.sublist (h : u.InOrder) (hq : v.queue.Sublist u.queue) (hs : v.serial = u.serial) : v.InOrder :=
  ⟨h.ordered.sublist hq, h.numbered.sublist hq hs⟩

/-- A change of states and attempts moves no claim. -/
theorem ClaimUnit.InOrder.map (h : u.InOrder) {g : Claim → Claim} (hp : ∀ c, (g c).payload = c.payload)
    (hc : ∀ c, (g c).created = c.created) (hq : v.queue = u.queue.map g) (hs : v.serial = u.serial) : v.InOrder := by
  have hmap : (u.queue.map g).map Claim.created = u.queue.map Claim.created := by
    rw [List.map_map]
    exact List.map_congr_left fun c _ => hc c
  refine ⟨?_, ⟨by rw [hq, hmap]; exact h.numbered.distinct, fun c hm => ?_⟩⟩
  · rw [hq, List.pairwise_map]
    refine h.ordered.imp fun hab => ?_
    unfold Claim.before Claim.cls at hab ⊢
    rwa [hp, hp, hc, hc]
  · rw [hq] at hm
    obtain ⟨d, hd, rfl⟩ := List.mem_map.1 hm
    rw [hs, hc]
    exact h.numbered.created d hd

/-- R127: with at most one claim IN_FLIGHT, every claim IN_FLIGHT is the one that is found. -/
theorem eq_of_isInFlight {d : Claim} (h : q.countP Claim.isInFlight ≤ 1) (hc : q.find? Claim.isInFlight = some c)
    (hd : d ∈ q) (hf : d.isInFlight = true) : d = c := by
  obtain ⟨hcf, l, r, rfl, hl⟩ := List.find?_eq_some_iff_append.1 hc
  rw [List.countP_append, List.countP_cons_of_pos hcf] at h
  rcases List.mem_append.1 hd with hd | hd
  · exact absurd hf (by simpa using hl d hd)
  · rcases List.mem_cons.1 hd with rfl | hd
    · rfl
    · have := List.countP_pos_iff.2 ⟨d, hd, hf⟩
      omega

end Queues

/-! #### The Claim Unit -/

variable (s : State)

theorem queue_setQueue_sublist {q : List Claim} (hq : q.Sublist s.claim.queue) : KeepsQueue s (s.setQueue q) :=
  .of_claims rfl rfl (fun h => h.sublist (v := { s.claim with queue := q }) hq rfl) hq.countP_le

theorem queue_filter (p : Claim → Bool) : KeepsQueue s (s.setQueue (s.claim.queue.filter p)) :=
  queue_setQueue_sublist s List.filter_sublist

/-- Claims change their states and attempts, and none goes IN_FLIGHT. -/
theorem queue_map {g : Claim → Claim} (hp : ∀ c, (g c).payload = c.payload) (hc : ∀ c, (g c).created = c.created)
    (hf : ∀ c, (g c).isInFlight = true → c.isInFlight = true) : KeepsQueue s (s.setQueue (s.claim.queue.map g)) := by
  refine .of_claims rfl rfl (fun h => h.map (v := { s.claim with queue := s.claim.queue.map g }) hp hc rfl rfl) ?_
  show (s.claim.queue.map g).countP Claim.isInFlight ≤ s.claim.queue.countP Claim.isInFlight
  rw [List.countP_map]
  exact List.countP_mono_left fun c _ h => hf c h

theorem queue_setClaimState (c : Claim) {st : ClaimState} (h : ∀ m, st ≠ .inFlight m) :
    KeepsQueue s (s.setQueue (setClaimState c st s.claim.queue)) := by
  refine queue_map s (fun d => ?_) (fun d => ?_) fun d => ?_
  all_goals split
  case refine_3.isTrue =>
    intro hd
    cases st with
    | inFlight m => exact absurd rfl (h m)
    | _ => cases hd
  case refine_3.isFalse => exact id
  all_goals rfl

theorem queue_notify (b : NoticeBody) : KeepsQueue s (s.notify b) := .of_same rfl rfl rfl
theorem queue_notifyAll (l : List NoticeBody) : KeepsQueue s (s.notifyAll l) := KeepsQueue.foldl queue_notify l s
theorem queue_claimLost (p : Payload) (o : Origin) (c : LostCause) : KeepsQueue s (s.claimLost p o c) := .of_same rfl rfl rfl

theorem queue_addClaim (p : Payload) (o : Origin) : KeepsQueue s (s.addClaim p o) := by
  refine .of_claims rfl rfl (fun h => ⟨?_, numbered_addClaim h.numbered p o⟩) ?_
  · exact pairwise_insertClaim h.ordered h.numbered.created
  · show (insertClaim _ s.claim.queue).countP Claim.isInFlight ≤ s.claim.queue.countP Claim.isInFlight
    rw [countP_insertClaim, List.countP_cons_of_neg Bool.false_ne_true]

theorem queue_enterClaim (p : Payload) (o : Origin) : KeepsQueue s (s.enterClaim p o) := by
  unfold State.enterClaim
  refine KeepsQueue.ite (queue_addClaim s p o) ?_
  split
  · exact ((queue_filter s _).trans (queue_claimLost _ _ _ _)).trans (queue_addClaim _ p o)
  · exact queue_claimLost s p o _

theorem queue_build (p : Payload) (o : Origin) : KeepsQueue s (s.build p o) :=
  KeepsQueue.ite (queue_enterClaim s p o) (.refl s)

theorem queue_discardWaiting : KeepsQueue s s.discardWaiting := queue_filter s _

theorem queue_flushClaims : KeepsQueue s s.flushClaims := by
  have h := queue_filter s fun c => !c.isWaiting
  refine h.trans (KeepsQueue.trans (queue_map _ (g := fun c => if c.isInFlight then { c with state := .inFlight true } else c)
    (fun c => ?_) (fun c => ?_) fun c => ?_) (.of_same rfl rfl rfl))
  all_goals split
  case refine_3.isTrue h => exact fun _ => h
  case refine_3.isFalse => exact id
  all_goals rfl

theorem queue_removeAccepted : KeepsQueue s s.removeAccepted := queue_filter s _
theorem queue_setTickTimer (t : TickTimer) : KeepsQueue s (s.setTickTimer t) :=
  .of_claims rfl rfl (fun h => h.sublist (.refl _) rfl) (le_refl _)
theorem queue_setPresence (n : Nat) : KeepsQueue s (s.setPresence n) :=
  .of_claims rfl rfl (fun h => h.sublist (.refl _) rfl) (le_refl _)
theorem queue_setLatch (n : Slot) (b : Bool) : KeepsQueue s (s.setLatch n b) :=
  .of_claims rfl rfl (fun h => h.sublist (.refl _) rfl) (le_refl _)

theorem queue_judgeTickTimer : KeepsQueue s s.judgeTickTimer :=
  KeepsQueue.ite (KeepsQueue.ite (queue_setTickTimer s _) (.refl s)) (queue_setTickTimer s _)

theorem queue_restartTickTimer : KeepsQueue s s.restartTickTimer :=
  KeepsQueue.ite (queue_setTickTimer s _) (queue_setTickTimer s _)

theorem queue_buildTick : KeepsQueue s s.buildTick := KeepsQueue.ite (queue_build s _ _) (.refl s)

theorem queue_buildPresence : KeepsQueue s s.buildPresence := by
  unfold State.buildPresence
  split
  · exact KeepsQueue.ite (queue_build s _ _) (.refl s)
  · exact .refl s

theorem queue_reconcilePresent (n : Slot) : KeepsQueue s (s.reconcilePresent n) :=
  KeepsQueue.ite (KeepsQueue.ite (.of_same rfl rfl rfl) (KeepsQueue.ite (.refl s) (queue_build s _ _))) (.refl s)

theorem queue_reconcileAbsent (n : Slot) : KeepsQueue s (s.reconcileAbsent n) :=
  (KeepsQueue.ite (queue_filter s _) (KeepsQueue.ite (queue_build s _ _)
    (KeepsQueue.ite (queue_build s _ _) (.refl s)))).trans (queue_setLatch _ n false)

theorem queue_reconcile (n : Slot) : KeepsQueue s (s.reconcile n) := by
  refine KeepsQueue.ite ?_ (.refl s)
  split
  · exact queue_reconcilePresent s n
  · exact queue_reconcileAbsent s n
  all_goals exact .refl s

theorem queue_claimDelivery (n : Slot) (st : ChannelState) : KeepsQueue s (s.claimDelivery n st) :=
  (KeepsQueue.ite (queue_setLatch s n false) (.refl s)).trans (queue_reconcile _ n)

theorem queue_requestJammed (n : Slot) : KeepsQueue s (s.requestJammed n) :=
  KeepsQueue.ite (.refl s) (queue_build s _ _)

theorem queue_latchRefused (p : Payload) (o : AppOutcome) : KeepsQueue s (s.latchRefused p o) := by
  unfold State.latchRefused
  split
  · exact queue_setLatch s _ _
  · exact .refl s

theorem queue_takeOwnClaim (f : Frame) (o : AppOutcome) : KeepsQueue s (s.takeOwnClaim f o) := by
  refine KeepsQueue.ite ?_ (.refl s)
  split
  · exact (queue_filter s _).trans (queue_latchRefused _ _ _)
  · exact .refl s

theorem queue_ticksAfter (f : Frame) (o : AppOutcome) : KeepsQueue s (s.ticksAfter f o) := by
  unfold State.ticksAfter
  split
  · exact (queue_filter s _).trans (queue_restartTickTimer _)
  · exact queue_judgeTickTimer s

theorem queue_presenceAfter (f : Frame) (o : AppOutcome) : KeepsQueue s (s.presenceAfter f o) :=
  KeepsQueue.ite (KeepsQueue.ite (queue_setPresence s _) (KeepsQueue.ite (queue_setPresence s _) (.refl s))) (.refl s)

theorem queue_claimHandOff (f : Frame) (o : AppOutcome) (began : Bool) : KeepsQueue s (s.claimHandOff f o began) := by
  have h6 := (((queue_takeOwnClaim s f o).trans (queue_ticksAfter _ f o)).trans (queue_presenceAfter _ f o)).trans
    (KeepsQueue.foldl queue_reconcile (indices 8) _)
  exact ((h6.trans (KeepsQueue.ite (queue_build _ _ _) (.refl _))).trans (queue_buildTick _)).trans (queue_buildPresence _)

/-! #### The Driver Unit, the fault set, the lamps -/

theorem queue_updDrv (f : DriverUnit → DriverUnit) : KeepsQueue s (s.updDrv f) := .of_same rfl rfl rfl
theorem queue_setFault (f : StationFault) : KeepsQueue s (s.setFault f) := (kept_setFault s f).keepsQueue (claims_setFault s f)
theorem queue_clearFault (f : StationFault) : KeepsQueue s (s.clearFault f) :=
  (kept_clearFault s f).keepsQueue (claims_clearFault s f)
theorem queue_refreshLamps : KeepsQueue s s.refreshLamps := .of_same rfl rfl rfl
theorem queue_deriveDuties : KeepsQueue s s.deriveDuties := (kept_deriveDuties s).keepsQueue (claims_deriveDuties s)
theorem queue_endDuty (id : DutyId) : KeepsQueue s (s.endDuty id) := (kept_endDuty s id).keepsQueue (claims_endDuty s id)
theorem queue_enterRecycle (o : Output) : KeepsQueue s (s.enterRecycle o) :=
  (kept_enterRecycle s o).keepsQueue (claims_enterRecycle s o)
theorem queue_closeAttempt (o : Output) : KeepsQueue s (s.closeAttempt o) :=
  (kept_closeAttempt s o).keepsQueue (claims_closeAttempt s o)

variable {s} in
theorem queue_derived {t : State} (h : KeepsQueue s t) : KeepsQueue s t.deriveDuties.refreshLamps :=
  (h.trans (queue_deriveDuties t)).trans (queue_refreshLamps _)

theorem queue_jammedAfter (n : Slot) : KeepsQueue s (s.jammedAfter n) := by
  unfold State.jammedAfter
  split
  · exact KeepsQueue.ite (queue_requestJammed s n) (.refl s)
  · exact .refl s

theorem queue_failEject (n : Slot) : KeepsQueue s (s.failEject n) := (queue_updDrv s _).trans (queue_jammedAfter _ n)

theorem queue_failServe : KeepsQueue s s.failServe :=
  KeepsQueue.ite (queue_updDrv s _) ((queue_updDrv s _).trans (queue_setFault _ _))

theorem queue_confirmServe : KeepsQueue s s.confirmServe :=
  KeepsQueue.foldl (fun t o => KeepsQueue.ite (queue_closeAttempt t o) (.refl t)) _ s

theorem queue_launchHandOn (entered : Bool) : KeepsQueue s (s.launchHandOn entered) := by
  unfold State.launchHandOn
  have h := (queue_updDrv s fun d => d.updServe fun v =>
    { v with
      launches := if entered then min 8 (v.launches + 1) else v.launches
      failed := 0, retryDue := none, retryReady := false }).trans (queue_confirmServe _)
  exact (KeepsQueue.ite h (h.trans (queue_clearFault _ _))).trans (queue_deriveDuties _)

theorem queue_ejectDelivery (n : Slot) (st : ChannelState) : KeepsQueue s (s.ejectDelivery n st) := by
  refine KeepsQueue.foldl (fun t o => KeepsQueue.ite ?_ (.refl t)) _ s
  split
  · exact (queue_updDrv t _).trans (queue_closeAttempt _ o)
  · exact (queue_failEject t n).trans (queue_closeAttempt _ o)
  all_goals exact .refl t

theorem queue_pulseEnds (o : Output) : KeepsQueue s (s.pulseEnds o) := by
  unfold State.pulseEnds
  dsimp only
  split
  · exact KeepsQueue.ite (queue_updDrv s _) ((queue_updDrv s _).trans (queue_enterRecycle _ o))
  · exact queue_enterRecycle s o

theorem queue_verifyResult (id : DutyId) : KeepsQueue s (s.verifyResult id) := by
  unfold State.verifyResult
  split
  · exact KeepsQueue.ite (queue_updDrv s _) (queue_failEject s _)
  · exact queue_failServe s
  · exact .refl s

theorem queue_timedFailure (n : Slot) : KeepsQueue s (s.timedFailure n) := (queue_updDrv s _).trans (queue_jammedAfter _ n)

theorem queue_retryEnds (n : Slot) (disabled : Bool) : KeepsQueue s (s.retryEnds n disabled) := by
  have h := queue_updDrv s fun d => d.updEject n fun x => { x with retryDue := some (s.now + Config.retryTime) }
  refine KeepsQueue.ite (h.trans (queue_jammedAfter _ n)) ?_
  split
  · exact queue_updDrv s _
  · exact h
  all_goals exact h.trans (queue_jammedAfter _ n)

theorem queue_handOn (r : SwitchRule) (n : Switch) (l : Level) (entered : Bool) : KeepsQueue s (s.handOn r n l entered) := by
  unfold State.handOn
  split
  · exact KeepsQueue.ite (((queue_endDuty s _).trans (queue_updDrv _ _)).trans (queue_deriveDuties _))
      (((queue_endDuty s _).trans (queue_updDrv _ _)).trans (queue_deriveDuties _))
  · exact KeepsQueue.ite (queue_launchHandOn s entered) (.refl s)
  all_goals exact .refl s

theorem queue_dealEvent (e : SwitchEvent) : KeepsQueue s (s.dealEvent e) :=
  ((KeepsQueue.foldl (fun t p => queue_build t p _) _ s).trans (queue_handOn _ _ _ _ _)).trans (queue_refreshLamps _)

/-! #### The Switch Unit and the Sensor Unit -/

theorem queue_updSw (f : SwitchUnit → SwitchUnit) : KeepsQueue s (s.updSw f) := .of_same rfl rfl rfl
theorem queue_updSen (f : SensorUnit → SensorUnit) : KeepsQueue s (s.updSen f) := .of_same rfl rfl rfl

theorem queue_appendEvent (n : Switch) (l : Level) : KeepsQueue s (s.appendEvent n l) :=
  KeepsQueue.ite (queue_updSw s _) (queue_notify s _)

theorem queue_samplePin (pins : Byte) (n : Fin 8) : KeepsQueue s (s.samplePin pins n) :=
  KeepsQueue.ite (queue_updSw s _) (KeepsQueue.ite
    (((queue_updSw s _).trans (queue_updSw _ _)).trans (queue_appendEvent _ _ _)) (queue_updSw s _))

theorem queue_setScan (x : Scan) : KeepsQueue s (s.setScan x) := queue_updSw s _
theorem queue_endPass (attn : Bool) : KeepsQueue s (s.endPass attn) := (queue_setScan s .idle).trans (queue_updSw _ _)

theorem queue_beginPass (attn : Bool) : KeepsQueue s (s.beginPass attn) := by
  have h := (queue_updSw s fun u => { u with refresh := false, attention := false }).trans
    (queue_setScan _ (.pass (s.passCovers s.sw.refresh)))
  exact KeepsQueue.ite (h.trans (queue_endPass _ attn)) h

theorem queue_updExpander (e : Expander) (f : ExpanderRecord → ExpanderRecord) : KeepsQueue s (s.updExpander e f) :=
  queue_updSw s _

theorem queue_setChange (e : Expander) (i : Fin 8) (due : Option Nat) : KeepsQueue s (s.setChange e i due) :=
  queue_updExpander s e _

theorem queue_setLevel (n : Switch) (l : Level) : KeepsQueue s (s.setLevel n l) := queue_updSw s _

theorem queue_judgeInput (e : Expander) (v : Byte) (i : Fin 8) : KeepsQueue s (s.judgeInput e v i) := by
  refine KeepsQueue.ite (queue_setChange s e i none) ?_
  split
  · exact queue_setChange s e i _
  · exact KeepsQueue.ite (((queue_setLevel s _ _).trans (queue_setChange _ e i none)).trans (queue_appendEvent _ _ _))
      (.refl s)

theorem queue_prime (e : Expander) (v : Byte) : KeepsQueue s (s.prime e v) :=
  (KeepsQueue.foldl (fun t i => queue_setLevel t (expanderSwitch e i) (levelOf (v.getLsbD i.val))) _ s).trans
    (queue_updExpander _ e _)

theorem queue_judgeRead (e : Expander) (v : Byte) : KeepsQueue s (s.judgeRead e v) :=
  (KeepsQueue.ite (KeepsQueue.foldl (fun t i => queue_judgeInput t e v i) (indices 8) s) (queue_prime s e v)).trans
    (queue_updExpander _ e _)

theorem queue_readSucceeds (e : Expander) (v : Byte) : KeepsQueue s (s.readSucceeds e v) := by
  have h := (queue_updExpander s e _).trans (queue_judgeRead (s.updExpander e fun x => { x with status := .ok }) e v)
  exact KeepsQueue.ite ((h.trans (queue_clearFault _ _)).trans (queue_refreshLamps _)) h

theorem queue_readEnds (e : Expander) (first retry : Option Byte) : KeepsQueue s (s.readEnds e first retry) := by
  unfold State.readEnds
  split
  · exact queue_readSucceeds s e _
  · exact queue_readSucceeds s e _
  · exact ((queue_updExpander s e _).trans (queue_setFault _ _)).trans (queue_refreshLamps _)

theorem queue_sensorReport (old new : ChannelState) : KeepsQueue s (s.sensorReport old new) :=
  KeepsQueue.ite (queue_setFault s _) (KeepsQueue.ite (queue_clearFault s _) (.refl s))

theorem queue_deliverDecision (ch : Channel) (st : ChannelState) : KeepsQueue s (s.deliverDecision ch st) := by
  unfold State.deliverDecision
  split
  · exact (queue_claimDelivery s _ st).trans ((queue_ejectDelivery _ _ st).trans (queue_deriveDuties _))
  · exact queue_deriveDuties s

theorem queue_measure (ch : Channel) (edges : Nat) : KeepsQueue s (s.measure ch edges) :=
  KeepsQueue.ite (queue_updSen s _) ((((queue_updSen s _).trans (queue_sensorReport _ _ _)).trans
    (queue_deliverDecision _ _ _)).trans (queue_refreshLamps _))

/-! #### Local time, moves of the station, losses of validity and applications -/

theorem transmitting_passedAt (b : Bus) (t : Nat) :
    ((b.passedAt t).link == .contending || (b.passedAt t).link == .sending) = (b.link == .contending || b.link == .sending) := by
  rcases State.passedAt_spec b t with h | ⟨hl, -, h⟩
  · rw [h]
  · rw [h, hl]
    rfl

/-- R109: a contender that becomes SENDING goes on transmitting. -/
theorem queue_passTo (t : Nat) : KeepsQueue s (s.passTo t) := by
  refine ⟨id, le_refl _, id, transmitting_passedAt s.bus t, fun h => ?_⟩
  show (s.bus.passedAt t).link = _
  unfold Bus.passedAt
  rw [h]
  rfl

theorem queue_advanceTo (due : Nat) : KeepsQueue s (s.advanceTo due) := queue_passTo s _

theorem queue_updEng (f : Engine → Engine) : KeepsQueue s (s.updEng f) := .of_same rfl rfl rfl

theorem queue_updBus {f : Bus → Bus} (h : (f s.bus).link = s.bus.link) : KeepsQueue s (s.updBus f) := .of_same rfl rfl h

/-- The station moves to a state behind its configuration. -/
theorem queue_setStarted {st : StationState} (h : st ≠ .loading ∧ st ≠ .unconfigured) :
    KeepsQueue s (s.setCtl { s.ctl with state := st }) :=
  ⟨id, le_refl _, fun hu => absurd hu (not_or.2 h), rfl, id⟩

theorem queue_moveStation {st : StationState} (h : st ≠ .loading ∧ st ≠ .unconfigured) :
    KeepsQueue s (s.moveStation st) := by
  unfold State.moveStation
  refine KeepsQueue.ite (.refl s) ?_
  have h1 : KeepsQueue s (if s.ctl.state = .member then s.flushClaims.setPresence 0 else s) :=
    KeepsQueue.ite ((queue_flushClaims s).trans (queue_setPresence _ 0)) (.refl s)
  have h2 := KeepsQueue.ite (p := st = .member) (h1.trans (queue_setPresence _ 0)) h1
  have h3 := h2.trans (queue_setStarted _ h)
  exact (KeepsQueue.ite (h3.trans (queue_updEng _ _)) (KeepsQueue.ite (h3.trans (queue_updEng _ _)) h3)).trans
    (queue_judgeTickTimer _)

theorem queue_changeStation {st : StationState} (h : st ≠ .loading ∧ st ≠ .unconfigured) :
    KeepsQueue s (s.changeStation st) :=
  KeepsQueue.ite (.refl s) (queue_derived (queue_moveStation s h))

theorem queue_validated : KeepsQueue s s.validated := by
  have h := (queue_updEng s fun e => { e with replica := .valid }).trans (queue_clearFault _ .diverged)
  exact KeepsQueue.ite (h.trans (queue_moveStation _ (by decide))) h

theorem queue_invalidate : KeepsQueue s s.invalidate := by
  have h1 := queue_updEng s fun e => { e with replica := .unknown, history := [], tally := 0, loss := none }
  have h2 := h1.trans (queue_updBus _ (f := fun b => { b with inbound := [] }) rfl)
  exact ((h2.trans (queue_flushClaims _)).trans (queue_removeAccepted _)).trans (queue_judgeTickTimer _)

theorem queue_performLoss : KeepsQueue s s.performLoss := by
  have h := queue_invalidate s
  exact queue_derived (KeepsQueue.ite h (h.trans (queue_moveStation _ (by decide))))

theorem queue_causeLoss (c : LossCause) : KeepsQueue s (s.causeLoss c) :=
  KeepsQueue.ite (queue_updEng s _) (queue_performLoss s)

theorem queue_takeLoss (d : Bool) : KeepsQueue s (s.takeLoss d) :=
  KeepsQueue.ite ((queue_setFault s _).trans (queue_performLoss _)) (KeepsQueue.ite (queue_performLoss s) (.refl s))

/-- R179: a hand-off moves the station among the states behind its configuration. -/
theorem queue_moveAfter : KeepsQueue s (s.moveStation s.stateAfter) := by
  rcases stateAfter_cases s with he | ⟨-, hn⟩
  · rw [he, moveStation_same]
    exact .refl s
  · exact queue_moveStation s (by rcases hn with h | h | h <;> rw [h] <;> decide)

theorem queue_handOff (f : Frame) (o : AppOutcome) (began : Bool) (before : GameTable) :
    KeepsQueue s (s.handOff f o began before) := by
  have h := (queue_moveAfter s).trans (queue_claimHandOff _ f o began)
  exact queue_derived (KeepsQueue.ite (h.trans ((kept_cancelScoops _).keepsQueue (claims_cancelScoops _))) h)

theorem queue_completed (f : Frame) : KeepsQueue s (s.completed f) := by
  have h0 : KeepsQueue s (s.afterStages f) := .of_same rfl rfl rfl
  have h1 := h0.trans (queue_notifyAll _ (applyFrame s.ctl.station (s.syncStart f) f s.table).1.notices)
  exact (KeepsQueue.ite (h1.trans (queue_validated _)) h1).trans (queue_handOff _ _ _ _ _)

theorem queue_application (f : Frame) : KeepsQueue s (s.application f) :=
  KeepsQueue.ite ((queue_completed s f).trans (queue_takeLoss _ _)) (.refl s)

theorem queue_taken : KeepsQueue s s.taken := by
  unfold State.taken
  split <;> exact .of_same rfl rfl rfl

theorem queue_applyNext (sort : Frame → Bool) : KeepsQueue s (s.applyNext sort) := by
  unfold State.applyNext
  split
  · exact KeepsQueue.ite ((queue_taken s).trans (queue_application _ _)) (.refl s)
  · exact .refl s

theorem queue_restartSync : KeepsQueue s s.restartSync := KeepsQueue.ite (.refl s) (queue_updEng s _)

theorem queue_deliver (f : Option Frame) (sound overrun : Bool) : KeepsQueue s (s.deliver f sound overrun) := by
  have happ : ∀ g, KeepsQueue s (s.appendFrame g) := fun g =>
    have h := queue_updBus s (f := fun b => { b with inbound := b.inbound ++ [g] }) rfl
    KeepsQueue.ite (h.trans (queue_restartSync _)) h
  have hloss := queue_causeLoss s .overrun
  unfold State.deliver
  split
  · exact KeepsQueue.ite hloss (.refl s)
  · exact KeepsQueue.ite (happ _) (KeepsQueue.ite (KeepsQueue.ite (happ _) (KeepsQueue.ite hloss (.refl s))) (.refl s))

theorem queue_quieted : KeepsQueue s s.quieted :=
  (((queue_setFault s .quiet).trans (queue_moveStation _ (by decide))).trans (queue_flushClaims _)).trans
    (queue_updBus _ (f := fun b => { b with cleanRun := 0 }) rfl)

theorem queue_quietCheck (scored : Bool) : KeepsQueue s (s.quietCheck scored) :=
  KeepsQueue.ite (queue_derived ((queue_quieted s).trans (queue_causeLoss _ .quiet))) (.refl s)

theorem queue_changeOrJudge :
    KeepsQueue s (if s.ctl.state = .member then s.changeStation .bystander else s.judgeTickTimer) :=
  KeepsQueue.ite (queue_changeStation s (by decide)) (queue_judgeTickTimer s)

theorem queue_mute : KeepsQueue s s.mute :=
  ((((queue_updBus s (f := fun b => { b with muted := true }) rfl).trans (queue_setFault _ .duplicate)).trans
    (queue_discardWaiting _)).trans (queue_changeOrJudge _)).trans (queue_refreshLamps _)

theorem queue_takeInFlight : KeepsQueue s s.takeInFlight := by
  unfold State.takeInFlight
  split
  · exact KeepsQueue.ite (.of_same rfl rfl rfl) (.refl _)
  · exact .refl _

theorem queue_idle : KeepsQueue s s.idle := (queue_passTo s _).trans (queue_takeInFlight _)

/-! #### The reports, behind which no claim is IN_FLIGHT -/

/-- A number is used up. -/
theorem queue_raiseSerial : KeepsQueue s (s.setClaim { s.claim with serial := s.claim.serial + 1 }) :=
  .of_claims rfl rfl (fun h => ⟨h.ordered, h.numbered.distinct, fun d hd => Nat.lt_succ_of_lt (h.numbered.created d hd)⟩)
    (le_refl _)

variable {s} in
/-- R127: a report takes the one claim IN_FLIGHT out of its state, or out of the queue. -/
theorem flights_reported {f : Claim → State} (h : s.claim.flights ≤ 1)
    (hf : ∀ c, s.inFlightClaim = some c →
      ∀ d ∈ (f c).claim.queue, d.isInFlight = true → d ∈ s.claim.queue ∧ d.created ≠ c.created) :
    (s.reported f).claim.flights = 0 := by
  have none : ∀ c, s.inFlightClaim = some c → ∀ q : List Claim,
      (∀ d ∈ q, d.isInFlight = true → d ∈ s.claim.queue ∧ d.created ≠ c.created) → q.countP Claim.isInFlight = 0 := by
    intro c hc q hq
    refine List.countP_eq_zero.2 fun d hd hfl => ?_
    obtain ⟨hm, hne⟩ := hq d hd hfl
    exact hne (congrArg _ (eq_of_isInFlight h hc hm hfl))
  unfold State.reported
  split
  · next hn => exact List.countP_eq_zero.2 fun d hd => by simpa using List.find?_eq_none.1 hn d hd
  · next c hc =>
    split
    · exact none c hc _ fun d hd _ => mem_removeClaim.1 hd
    · exact none c hc _ (hf c hc)

/-- A claim in flight behind a change of the claims that share the number of `c` is another one. -/
theorem inFlight_of_map {q : List Claim} {c d : Claim} {g : Claim → Claim} (hg : ∀ e, (g e).isInFlight = false)
    (hd : d ∈ q.map fun e => if e.created = c.created then g e else e) (hf : d.isInFlight = true) :
    d ∈ q ∧ d.created ≠ c.created := by
  obtain ⟨e, he, hde⟩ := List.mem_map.1 hd
  split at hde
  · rw [← hde, hg] at hf
    cases hf
  · next hne =>
    subst hde
    exact ⟨he, hne⟩

/-- R127, R141: a report leaves the queue in its order. -/
theorem queue_reported {f : Claim → State} (hf : ∀ c, KeepsQueue s (f c)) : KeepsQueue s (s.reported f) := by
  unfold State.reported
  split
  · exact .refl s
  · exact KeepsQueue.ite (queue_filter s _) (hf _)

/-- The queue behind a report: in its order, with no claim IN_FLIGHT. -/
structure Grounded (s t : State) : Prop where
  keeps : KeepsQueue s t
  none  : s.claim.flights ≤ 1 → t.claim.flights = 0

theorem grounded_reportReturned : Grounded s s.reportReturned :=
  ⟨queue_reported s fun c => queue_setClaimState s c nofun,
    fun h => flights_reported h fun _ _ _ => inFlight_of_map (g := fun e => { e with state := .waiting }) fun _ => rfl⟩

theorem grounded_reportAccepted : Grounded s s.reportAccepted := by
  refine ⟨queue_reported s fun c =>
      (queue_setClaimState s c (st := .accepted s.claim.serial) nofun).trans (queue_raiseSerial _),
    fun h => flights_reported h fun _ _ _ =>
      inFlight_of_map (g := fun e => { e with state := .accepted s.claim.serial }) fun _ => rfl⟩

theorem grounded_reportVetoed : Grounded s s.reportVetoed := by
  refine ⟨queue_reported s fun c => KeepsQueue.ite (queue_map s (fun d => ?_) (fun d => ?_) fun d => ?_)
      ((queue_filter s _).trans (queue_claimLost _ _ _ _)),
    fun h => flights_reported h fun c _ d => ?_⟩
  case refine_4 =>
    split
    · exact inFlight_of_map (g := fun e => { e with state := .waiting, attempts := e.attempts + 1 }) fun _ => rfl
    · exact fun hd _ => mem_removeClaim.1 hd
  all_goals split
  case refine_3.isTrue => nofun
  case refine_3.isFalse => exact id
  all_goals rfl

/-! #### The commands -/

variable {s}

theorem claimQueueOrdered_iff :
    ClaimQueueOrdered s ↔ s.claim.InOrder ∧ s.claim.flights ≤ 1 ∧ (s.transmitting = false → s.claim.flights = 0)
      ∧ (Unstarted s → s.bus.link = .disabled) :=
  ⟨fun h => ⟨⟨h.ordered, h.distinct, h.created⟩, h.single, h.onWire, h.disabled⟩,
    fun ⟨ho, hs, hw, hd⟩ => ⟨ho.ordered, ho.numbered.distinct, ho.numbered.created, hs, hw, hd⟩⟩

theorem KeepsQueue.queueOrdered {t : State} (h : KeepsQueue s t) (hs : ClaimQueueOrdered s) : ClaimQueueOrdered t := by
  rw [claimQueueOrdered_iff] at hs ⊢
  obtain ⟨ho, hone, hw, hd⟩ := hs
  refine ⟨h.order ho, h.flights.trans hone, fun ht => Nat.le_zero.1 (h.flights.trans_eq (hw ?_)),
    fun ht => h.disabled (hd (h.unstarted ht))⟩
  rwa [← h.transmits]

/-- A frame begins or ends at a station that has been configured: in `u` the claims are as the law has them, with none IN_FLIGHT
unless the station transmits. -/
theorem ClaimQueueOrdered.of_link (hs : ClaimQueueOrdered s) (hl : s.bus.link ≠ .disabled) {t u : State}
    (h : KeepsQueue s t) (hc : u.claim = t.claim) (hst : u.ctl.state = t.ctl.state)
    (hf : u.transmitting = true ∨ t.claim.flights = 0) : ClaimQueueOrdered u := by
  rw [claimQueueOrdered_iff] at hs ⊢
  obtain ⟨ho, hone, hw, hd⟩ := hs
  rw [hc]
  refine ⟨h.order ho, h.flights.trans hone, fun hu => hf.resolve_left (by rw [hu]; decide), fun hu => ?_⟩
  unfold Unstarted at hu
  rw [hst] at hu
  exact absurd (hd (h.unstarted hu)) hl

theorem ClaimQueueOrdered.flights_le (hs : ClaimQueueOrdered s) : s.claim.flights ≤ 1 := hs.single

/-- R109: while a frame is in progress the link is not DISABLED. -/
theorem link_of_inFrame (h : s.inFrame = true) : s.bus.link ≠ .disabled := by
  intro hl
  unfold State.inFrame State.transmitting at h
  rw [hl] at h
  cases h

theorem inFrame_of_transmitting (h : s.transmitting = true) : s.inFrame = true := by
  unfold State.inFrame
  rw [h]
  rfl

/-- R127: behind the report that a frame's end brings, no claim is IN_FLIGHT. -/
theorem grounded_if {t : State} (hs : ClaimQueueOrdered s) (h : Grounded s t) :
    KeepsQueue s (if s.transmitting then t else s) ∧ (if s.transmitting then t else s).claim.flights = 0 := by
  split
  · exact ⟨h.keeps, h.none hs.flights_le⟩
  · next ht => exact ⟨.refl s, hs.onWire (by simpa using ht)⟩

theorem grounded_reportEnd (accepted : Bool) :
    Grounded s (if accepted then s.reportAccepted else s.reportVetoed) := by
  split
  · exact grounded_reportAccepted s
  · exact grounded_reportVetoed s

/-- R116, R118: the end of a frame, with the report to a transmitter. -/
theorem queueOrdered_endFrame (hs : ClaimQueueOrdered s) (hin : s.inFrame = true) (bits : List Bool)
    (accepted scored clean missing reported : Bool) :
    ClaimQueueOrdered ((s.endFrame bits accepted scored clean missing).reportEnd s.transmitting reported) := by
  have hg := grounded_reportEnd (s := s.endFrame bits accepted scored clean missing) reported
  have hk := kept_reportEnd (s.endFrame bits accepted scored clean missing) s.transmitting reported
  rw [claimQueueOrdered_iff] at hs ⊢
  obtain ⟨ho, hone, hw, hd⟩ := hs
  have hzero : ((s.endFrame bits accepted scored clean missing).reportEnd s.transmitting reported).claim.flights = 0 := by
    unfold State.reportEnd
    split
    · exact hg.none hone
    · next ht => exact hw (by simpa using ht)
  refine ⟨?_, hzero.trans_le (Nat.zero_le 1), fun _ => hzero, fun hu => ?_⟩
  · unfold State.reportEnd
    split
    · exact hg.keeps.order ho
    · exact ho
  · unfold Unstarted at hu
    rw [hk.state] at hu
    exact absurd (hd hu) (link_of_inFrame hin)

theorem frameEnd_queueOrdered (bits : List Bool) (v : Bool) (hs : ClaimQueueOrdered s) (hin : s.inFrame = true) :
    ClaimQueueOrdered (s.frameEnd bits v) := by
  have h := queueOrdered_endFrame hs hin bits (!s.slotDominant bits v) (s.checksFrames && !s.sound bits) (s.sound bits) false
    (!s.slotDominant bits v)
  exact ((KeepsQueue.ite (queue_deliver _ (s.readFrame bits) (s.sound bits) s.overrun) (.refl _)).trans
    (queue_quietCheck _ _)).queueOrdered h

/-- R112: the head, and it alone, goes IN_FLIGHT on a free bus. -/
theorem flights_launched {c : Claim} (hs : ClaimQueueOrdered s) (ht : s.transmitting = false) :
    (setClaimState c (.inFlight false) s.claim.queue).countP Claim.isInFlight ≤ 1 := by
  have hnone : ∀ d ∈ s.claim.queue, ¬d.isInFlight = true := List.countP_eq_zero.1 (hs.onWire ht)
  unfold setClaimState
  rw [List.countP_map]
  have hle : s.claim.queue.countP (Claim.isInFlight ∘ fun d => if d.created = c.created then { d with state := .inFlight false } else d)
      ≤ s.claim.queue.countP fun d => d.created == c.created :=
    List.countP_mono_left fun d hd hf => by
      by_contra hne
      have hne' : ¬d.created = c.created := by simpa using hne
      exact hnone d hd (by simpa [hne'] using hf)
  refine hle.trans ?_
  rw [show (fun d : Claim => d.created == c.created) = (fun n => n == c.created) ∘ Claim.created from rfl, ← List.countP_map]
  exact List.nodup_iff_count_le_one.1 hs.distinct c.created

theorem contention_queueOrdered (hs : ClaimQueueOrdered s) : Answers ClaimQueueOrdered (exec .contention s) := by
  refine Answers.ite (fun h => ?_) fun _ => .next hs
  have hidle : s.bus.link = .idle := by
    unfold State.canContend at h
    simp only [Bool.and_eq_true, beq_iff_eq] at h
    exact h.1.1.1.1.1.1.1
  have htx : s.transmitting = false := by
    unfold State.transmitting
    rw [hidle]
    rfl
  have hone := fun c => flights_launched (c := c) hs htx
  have hl := claimQueueOrdered_iff.1 hs
  obtain ⟨ho, -, hw, hd⟩ := hl
  refine .next (claimQueueOrdered_iff.2 ?_)
  show s.launchHead.claim.InOrder ∧ s.launchHead.claim.flights ≤ 1 ∧ _ ∧ (Unstarted s.launchHead → _)
  have hnotUnstarted : ¬Unstarted s := fun hu => by
    rw [hd hu] at hidle
    cases hidle
  have hstate : s.launchHead.ctl.state = s.ctl.state := (kept_launchHead s).state
  refine ⟨?_, ?_, fun ht => (by cases ht), fun hu => absurd (by unfold Unstarted at hu ⊢; rwa [hstate] at hu) hnotUnstarted⟩
  all_goals unfold State.launchHead; split
  · exact ho.map (g := fun d => if d.created = _ then { d with state := .inFlight false } else d)
      (fun d => by split <;> rfl) (fun d => by split <;> rfl) rfl rfl
  · exact ho
  · exact hone _
  · exact hs.single

theorem startMark_queueOrdered (hs : ClaimQueueOrdered s) : Answers ClaimQueueOrdered (exec .startMark s) := by
  refine Answers.ite (fun h => .next ?_) fun _ => .next hs
  have htx : s.transmitting = false := by
    unfold State.transmitting
    rw [h.1]
    rfl
  exact hs.of_link (by rw [h.1]; decide) (.refl s) rfl rfl (.inr (hs.onWire htx))

theorem arbitrationLost_queueOrdered (hs : ClaimQueueOrdered s) : Answers ClaimQueueOrdered (exec .arbitrationLost s) :=
  Answers.ite
    (fun h => .next (hs.of_link (by rw [h]; decide) (grounded_reportReturned s).keeps rfl rfl
      (.inr ((grounded_reportReturned s).none hs.flights_le))))
    fun _ => .next hs

theorem lateLoss_queueOrdered (hs : ClaimQueueOrdered s) : Answers ClaimQueueOrdered (exec .lateLoss s) :=
  Answers.ite
    (fun h => .next ((queue_mute _).queueOrdered (hs.of_link (link_of_inFrame (inFrame_of_transmitting h))
      (grounded_reportReturned s).keeps rfl rfl (.inr ((grounded_reportReturned s).none hs.flights_le)))))
    fun _ => .next hs

theorem endMark_queueOrdered (bits : List Bool) (v : Bool) (hs : ClaimQueueOrdered s) :
    Answers ClaimQueueOrdered (exec (.endMark bits v) s) :=
  Answers.ite (fun h => .next (frameEnd_queueOrdered bits v hs h)) fun _ =>
    Answers.ite (fun _ => .next ((queue_updBus s rfl).queueOrdered hs)) fun _ => .next hs

theorem missingEndMark_queueOrdered (bits : List Bool) (hs : ClaimQueueOrdered s) :
    Answers ClaimQueueOrdered (exec (.missingEndMark bits) s) :=
  Answers.ite (fun h => .next ((queue_quietCheck _ _).queueOrdered (queueOrdered_endFrame hs h bits false true false true false)))
    fun _ => .next hs

theorem cut_queueOrdered (hs : ClaimQueueOrdered s) : Answers ClaimQueueOrdered (exec .cut s) := by
  refine Answers.ite (fun h => .next ?_) fun _ =>
    Answers.ite (fun _ => .next ((queue_updBus s rfl).queueOrdered hs)) fun _ => .next hs
  obtain ⟨hk, hzero⟩ := grounded_if hs (grounded_reportReturned s)
  exact hs.of_link (link_of_inFrame h) hk rfl rfl (.inr hzero)

/-- R176: behind the load of its image and the start of its units a station goes on with its claims. -/
theorem configured_claims (image : List Byte) (u : State) :
    (u.claim.InOrder → (u.configured image).claim.InOrder) ∧ (u.configured image).claim.flights ≤ u.claim.flights
      ∧ ¬Unstarted (u.configured image) := by
  have hload : (u.loadImage image).startUnits.claim = u.claim := rfl
  have hc : KeepsQueue (u.loadImage image).startUnits ((u.loadImage image).startUnits.changeStation .syncing) :=
    queue_changeStation _ (by decide)
  have hst : ((u.loadImage image).startUnits.changeStation .syncing).ctl.state = .syncing := changeStation_state _ _
  unfold State.configured
  generalize (u.loadImage image).startUnits.changeStation .syncing = v at hc hst
  have hf : Kept v (if imageCorrected image then v.setFault .config else v) := Kept.ite (kept_setFault v _) (.refl v)
  have hq : KeepsQueue v (if imageCorrected image then v.setFault .config else v) :=
    KeepsQueue.ite (queue_setFault v _) (.refl v)
  have hk := (hc.trans hq).trans (queue_refreshLamps _)
  rw [← hload]
  refine ⟨hk.order, hk.flights, fun hu => ?_⟩
  have hfinal : (if imageCorrected image then v.setFault .config else v).refreshLamps.ctl.state = .syncing := by
    rw [(kept_refreshLamps _).state, hf.state, hst]
  unfold Unstarted at hu
  rw [hfinal] at hu
  exact absurd hu (by decide)

theorem configurationRead_queueOrdered (image : List Byte) (hs : ClaimQueueOrdered s) :
    Answers ClaimQueueOrdered (exec (.configurationRead image) s) := by
  refine Answers.ite (fun hl => ?_) fun _ => .next hs
  refine Answers.ite (fun _ => .next ?_) fun _ => .next ?_
  · obtain ⟨ho, hone, hw, hd⟩ := claimQueueOrdered_iff.1 hs
    have hzero : s.claim.flights = 0 := hw (by unfold State.transmitting; rw [hd (.inl hl)]; rfl)
    obtain ⟨horder, hflights, hst⟩ := configured_claims (fullImage image) s.readMemory
    generalize s.readMemory.configured (fullImage image) = t at horder hflights hst
    exact claimQueueOrdered_iff.2 ⟨horder ho, hflights.trans hone, fun _ => Nat.le_zero.1 (hflights.trans_eq hzero),
      fun hu => absurd hu hst⟩
  · have hset : KeepsQueue s (s.readMemory.setCtl { s.readMemory.ctl with state := .unconfigured, mask := 0xFF#8 }) :=
      ⟨id, le_refl _, fun _ => .inl hl, rfl, id⟩
    exact ((hset.trans (queue_setFault _ .config)).trans (queue_refreshLamps _)).queueOrdered hs

/-! #### The commands with which no frame begins or ends -/

variable (s)

theorem busFree_queue : Answers (KeepsQueue s) (exec .busFree s) :=
  Answers.ite (fun _ => .next ((queue_advanceTo s _).trans (queue_updBus _ rfl))) fun _ => .next (.refl s)

theorem yieldTimeout_queue : Answers (KeepsQueue s) (exec .yieldTimeout s) :=
  Answers.ite (fun _ => .next ((queue_advanceTo s _).trans (queue_updBus _ rfl))) fun _ => .next (.refl s)

theorem strayMark_queue : Answers (KeepsQueue s) (exec .strayMark s) :=
  Answers.ite (fun _ => .next (queue_updBus s rfl)) fun _ => .next (.refl s)

theorem quietExit_queue : Answers (KeepsQueue s) (exec .quietExit s) :=
  Answers.ite (fun _ => .next (((queue_updBus s rfl).trans (queue_clearFault _ _)).trans (queue_changeStation _ (by decide))))
    fun _ => .next (.refl s)

theorem stuck_queue : Answers (KeepsQueue s) (exec .stuck s) :=
  Answers.ite (fun _ => .next ((((queue_updBus s rfl).trans (queue_updEng _ _)).trans (queue_setFault _ _)).trans
    (queue_refreshLamps _))) fun _ => .next (.refl s)

theorem stuckClear_queue : Answers (KeepsQueue s) (exec .stuckClear s) :=
  Answers.ite (fun _ => .next ((((queue_updBus s rfl).trans (queue_restartSync _)).trans (queue_clearFault _ _)).trans
    (queue_refreshLamps _))) fun _ => .next (.refl s)

theorem queue_adoptAttract : KeepsQueue s s.adoptAttract := by
  have h : KeepsQueue s (s.setTable (GameTable.attractDefaults s.table.profile)) := .of_same rfl rfl rfl
  exact queue_derived ((h.trans (queue_updEng _ _)).trans (queue_validated _))

theorem syncSilenceExpiry_queue : Answers (KeepsQueue s) (exec .syncSilenceExpiry s) := by
  show Answers _ (execSyncSilenceExpiry s)
  unfold execSyncSilenceExpiry
  split
  · exact .next ((queue_advanceTo s _).trans (queue_adoptAttract _))
  all_goals exact .next (.refl s)

theorem lossOfValidity_queue : Answers (KeepsQueue s) (exec .lossOfValidity s) := by
  show Answers _ (execLossOfValidity s)
  unfold execLossOfValidity
  split
  · exact .next ((queue_taken s).trans (queue_application _ _))
  · exact .next (queue_performLoss s)
  · exact .next (.refl s)

theorem tickTimerExpiry_queue : Answers (KeepsQueue s) (exec .tickTimerExpiry s) := by
  show Answers _ (execTickTimerExpiry s)
  unfold execTickTimerExpiry
  split
  · exact .next ((queue_advanceTo s _).trans (queue_setTickTimer _ _))
  all_goals exact .next (.refl s)

theorem switchEventTake_queue : Answers (KeepsQueue s) (exec .switchEventTake s) := by
  show Answers _ (execSwitchEventTake s)
  unfold execSwitchEventTake
  split
  · next e rest _ =>
    have h : KeepsQueue s (s.setSw { s.sw with events := rest }) := .of_same rfl rfl rfl
    exact Answers.ite (fun _ => .next (h.trans (queue_dealEvent _ e))) fun _ => .next (.refl s)
  · exact .next (.refl s)

theorem switchSample_queue (pins : Byte) : Answers (KeepsQueue s) (exec (.switchSample pins) s) := by
  have h := (queue_advanceTo s s.sw.sampleDue).trans
    (queue_updSw _ fun u => { u with sampleDue := u.sampleDue + Config.samplePeriod })
  exact Answers.ite (fun _ => Answers.ite
      (fun _ => .next (h.trans (KeepsQueue.foldl (fun t n => queue_samplePin t pins n) _ _)))
      fun _ => .next (h.trans (queue_updSw _ _)))
    fun _ => .next (.refl s)

theorem attnTake_queue : Answers (KeepsQueue s) (exec .attnTake s) :=
  Answers.ite (fun _ => .next (queue_updSw s _)) fun _ => .next (.refl s)

theorem attnRelease_queue : Answers (KeepsQueue s) (exec .attnRelease s) :=
  Answers.ite (fun _ => .next (queue_updSw s _)) fun _ => .next (.refl s)

theorem refreshTimer_queue : Answers (KeepsQueue s) (exec .refreshTimer s) :=
  Answers.ite (fun _ => .next ((queue_advanceTo s _).trans (queue_updSw _ _))) fun _ => .next (.refl s)

theorem pendingChangeDue_queue (e : Expander) (i : Fin 8) : Answers (KeepsQueue s) (exec (.pendingChangeDue e i) s) := by
  show Answers _ (execPendingChangeDue e i s)
  unfold execPendingChangeDue
  split
  · exact .next ((queue_advanceTo s _).trans (queue_updExpander _ e _))
  · exact .next (.refl s)

theorem scannerWork_queue (attn : Bool) : Answers (KeepsQueue s) (exec (.scannerWork attn) s) := by
  refine Answers.ite (fun _ => ?_) fun _ => .next (.refl s)
  split
  · exact .next (queue_setScan s _)
  · exact Answers.ite (fun _ => .next (queue_beginPass s attn)) fun _ => .next (.refl s)

theorem expanderRead_queue (first retry : Option Byte) (attn : Bool) :
    Answers (KeepsQueue s) (exec (.expanderRead first retry attn) s) := by
  show Answers _ (execExpanderRead first retry attn s)
  unfold execExpanderRead
  split
  · exact .next (.refl s)
  · exact .next ((queue_readEnds s _ first retry).trans (queue_setScan _ _))
  · exact .next (queue_endPass s attn)
  · next e rest _ =>
    have h := queue_readEnds s e first retry
    exact Answers.ite (fun _ => .next (h.trans (queue_endPass _ attn))) fun _ => .next (h.trans (queue_setScan _ _))

theorem sweepDue_queue : Answers (KeepsQueue s) (exec .sweepDue s) :=
  Answers.ite (fun _ => Answers.ite
      (fun _ => .next (((queue_advanceTo s _).trans (queue_updSen _ _)).trans (queue_updSen _ _)))
      fun _ => .next ((queue_advanceTo s _).trans (queue_updSen _ _)))
    fun _ => .next (.refl s)

theorem measurementEnd_queue (edges : Nat) : Answers (KeepsQueue s) (exec (.measurementEnd edges) s) := by
  show Answers _ (execMeasurementEnd edges s)
  unfold execMeasurementEnd
  split
  · exact .next (.refl s)
  · exact .next (((queue_advanceTo s _).trans (queue_updSen _ _)).trans (queue_measure _ _ edges))

theorem pulseEnd_queue (o : Output) : Answers (KeepsQueue s) (exec (.pulseEnd o) s) :=
  Answers.ite (fun _ => .next (queue_derived ((queue_advanceTo s _).trans (queue_pulseEnds _ o)))) fun _ => .next (.refl s)

theorem verifyTimeout_queue (o : Output) : Answers (KeepsQueue s) (exec (.verifyTimeout o) s) := by
  refine Answers.ite (fun _ => .next (queue_derived (KeepsQueue.trans ?_ (queue_enterRecycle _ o)))) fun _ => .next (.refl s)
  refine (queue_advanceTo s s.drv.outputs[o].due).trans ?_
  split
  · exact queue_verifyResult _ _
  · exact .refl _

theorem recycleEnd_queue (o : Output) : Answers (KeepsQueue s) (exec (.recycleEnd o) s) :=
  Answers.ite (fun _ => .next (queue_derived ((queue_advanceTo s _).trans (queue_updDrv _ _)))) fun _ => .next (.refl s)

theorem ejectRetryTimer_queue (n : Slot) : Answers (KeepsQueue s) (exec (.ejectRetryTimer n) s) := by
  show Answers _ (execEjectRetryTimer n s)
  unfold execEjectRetryTimer
  split
  · split
    · next due _ =>
      refine .next (queue_derived ((queue_advanceTo s due).trans ?_))
      split
      · exact queue_timedFailure _ n
      · exact queue_retryEnds _ n _
    · exact .next (.refl s)
  · exact .next (.refl s)

theorem serveRetryTimer_queue : Answers (KeepsQueue s) (exec .serveRetryTimer s) := by
  show Answers _ (execServeRetryTimer s)
  unfold execServeRetryTimer
  split
  · exact .next (queue_derived ((queue_advanceTo s _).trans (queue_updDrv _ _)))
  · exact .next (.refl s)

theorem scoopDwellEnd_queue (n : Switch) : Answers (KeepsQueue s) (exec (.scoopDwellEnd n) s) := by
  show Answers _ (execScoopDwellEnd n s)
  unfold execScoopDwellEnd
  split
  · split
    · exact .next (queue_derived ((queue_advanceTo s _).trans (queue_updDrv _ _)))
    · exact .next (.refl s)
  · exact .next (.refl s)

theorem attractHalfCycle_queue : Answers (KeepsQueue s) (exec .attractHalfCycle s) := by
  refine Answers.ite (fun _ => .next ?_) fun _ => .next (.refl s)
  have h : KeepsQueue (s.advanceTo s.lamp.halfDue) ((s.advanceTo s.lamp.halfDue).setLamp
      { (s.advanceTo s.lamp.halfDue).lamp with
        secondHalf := !(s.advanceTo s.lamp.halfDue).lamp.secondHalf
        halfDue := (s.advanceTo s.lamp.halfDue).lamp.halfDue + Config.attractHalf }) := .of_same rfl rfl rfl
  exact ((queue_advanceTo s _).trans h).trans (queue_refreshLamps _)

theorem noticeSend_queue : Answers (KeepsQueue s) (exec .noticeSend s) := by
  show Answers _ (execNoticeSend s)
  unfold execNoticeSend
  split
  · exact .next ((queue_advanceTo s _).trans (.of_same rfl rfl rfl))
  · exact .next (.refl s)

/-- R127, R128: every command keeps the claim queue in its order, with at most one claim IN_FLIGHT. -/
theorem exec_queueOrdered (c : Instr) (s : State) (hs : ClaimQueueOrdered s) : Answers ClaimQueueOrdered (exec c s) := by
  have plain : ∀ {c}, Answers (KeepsQueue s) (exec c s) → Answers ClaimQueueOrdered (exec c s) :=
    fun h => h.mono fun _ h => h.queueOrdered hs
  have app : ∀ sort : Frame → Bool, Answers ClaimQueueOrdered (.next (s.applyNext sort)) :=
    fun sort => .next ((queue_applyNext s sort).queueOrdered hs)
  cases c with
  | deviceReset straps low =>
    exact .next ⟨List.Pairwise.nil, List.nodup_nil, nofun, Nat.zero_le 1, fun _ => rfl, fun _ => rfl⟩
  | configurationRead image => exact configurationRead_queueOrdered image hs
  | busFree => exact plain (busFree_queue s)
  | yieldTimeout => exact plain (yieldTimeout_queue s)
  | contention => exact contention_queueOrdered hs
  | startMark => exact startMark_queueOrdered hs
  | arbitrationLost => exact arbitrationLost_queueOrdered hs
  | lateLoss => exact lateLoss_queueOrdered hs
  | strayMark => exact plain (strayMark_queue s)
  | endMark bits v => exact endMark_queueOrdered bits v hs
  | missingEndMark bits => exact missingEndMark_queueOrdered bits hs
  | cut => exact cut_queueOrdered hs
  | quietExit => exact plain (quietExit_queue s)
  | stuck => exact plain (stuck_queue s)
  | stuckClear => exact plain (stuckClear_queue s)
  | syncSilenceExpiry => exact plain (syncSilenceExpiry_queue s)
  | lossOfValidity => exact plain (lossOfValidity_queue s)
  | tickTimerExpiry => exact plain (tickTimerExpiry_queue s)
  | tickClaimBuild => exact plain (.next (queue_buildTick s))
  | presenceClaimBuild => exact plain (.next (queue_buildPresence s))
  | switchEventTake => exact plain (switchEventTake_queue s)
  | switchSample pins => exact plain (switchSample_queue s pins)
  | attnTake => exact plain (attnTake_queue s)
  | refreshTimer => exact plain (refreshTimer_queue s)
  | pendingChangeDue e i => exact plain (pendingChangeDue_queue s e i)
  | scannerWork attn => exact plain (scannerWork_queue s attn)
  | expanderRead first retry attn => exact plain (expanderRead_queue s first retry attn)
  | sweepDue => exact plain (sweepDue_queue s)
  | measurementEnd edges => exact plain (measurementEnd_queue s edges)
  | pulseEnd o => exact plain (pulseEnd_queue s o)
  | verifyTimeout o => exact plain (verifyTimeout_queue s o)
  | recycleEnd o => exact plain (recycleEnd_queue s o)
  | ejectRetryTimer n => exact plain (ejectRetryTimer_queue s n)
  | serveRetryTimer => exact plain (serveRetryTimer_queue s)
  | scoopDwellEnd n => exact plain (scoopDwellEnd_queue s n)
  | attractHalfCycle => exact plain (attractHalfCycle_queue s)
  | noticeSend => exact plain (noticeSend_queue s)
  | attnRelease => exact plain (attnRelease_queue s)
  | tilt | nudge | lock | lost | released | jammed | drain | launched | start | hit | mode | holdSet | holdClear | tick
  | holdExpiry | rollcallEnd | saveWindowClose | modeExpiry | ballEndLimit | silence | presence | join => exact app _

end QueueOrder

/-- Settles O59, by one lemma for each command (`exec_queueOrdered`): a frame's end leaves no claim IN_FLIGHT
(`flights_reported`), and the other commands make none so but CONTENTION, its one. -/
theorem claimQueueKept : Obligations.ClaimQueueKept := by
  unfold Obligations.ClaimQueueKept
  intro s t hs ht
  exact kept_by_step (fun s _ h => KeepsQueue.queueOrdered (s := s) (.of_same rfl rfl rfl) h) exec_queueOrdered
    (fun s h => (queue_idle s).queueOrdered h) hs ht

end Sys2Proof.Machine

namespace Sys2Proof.Machine

/-! ### The frame on the wire, written and read back (R106 to R108) -/

section ReadBack

/-! #### Bits and bytes -/

theorem toBits_length (n v : Nat) : (toBits n v).length = n := by
  induction n with
  | zero => rfl
  | succ n ih => exact congrArg Nat.succ ih

theorem foldl_toBits (n v a : Nat) :
    (toBits n v).foldl (fun a b => 2 * a + b.toNat) a = a * 2 ^ n + v % 2 ^ n := by
  induction n generalizing a with
  | zero => simp [toBits, Nat.mod_one]
  | succ n ih =>
    show (toBits n v).foldl _ (2 * a + (v.testBit n).toNat) = _
    rw [ih, Nat.toNat_testBit, Nat.pow_succ, Nat.mod_mul]
    ring

/-- R106: the number that its bits spell is the number sent, as far as the field holds it. -/
theorem bitsValue_toBits (n v : Nat) : bitsValue (toBits n v) = v % 2 ^ n := by
  rw [show bitsValue (toBits n v) = 0 * 2 ^ n + v % 2 ^ n from foldl_toBits n v 0, Nat.zero_mul, Nat.zero_add]

theorem foldl_toBytes (n v a : Nat) :
    (toBytes n v).foldl (fun a b => 256 * a + b.toNat) a = a * 256 ^ n + v % 256 ^ n := by
  induction n generalizing a with
  | zero => simp [toBytes, Nat.mod_one]
  | succ n ih =>
    show (toBytes n v).foldl _ (256 * a + (BitVec.ofNat 8 (v >>> (8 * n))).toNat) = _
    have hmod : v % 256 ^ (n + 1) = v % 256 ^ n + 256 ^ n * (v / 256 ^ n % 256) := by rw [Nat.pow_succ, Nat.mod_mul]
    rw [ih, BitVec.toNat_ofNat, Nat.shiftRight_eq_div_pow, Nat.pow_mul, hmod]
    ring

/-- R106: the number that its bytes spell is the number sent, as far as they hold it. -/
theorem bytesValue_toBytes (n v : Nat) : bytesValue (toBytes n v) = v % 256 ^ n := by
  rw [show bytesValue (toBytes n v) = 0 * 256 ^ n + v % 256 ^ n from foldl_toBytes n v 0, Nat.zero_mul, Nat.zero_add]

/-- A field that has been sent is sampled whole, whatever stands before and behind it. -/
theorem bitField_toBits {pre post bits : List Bool} {off n v : Nat} (hb : bits = pre ++ (toBits n v ++ post))
    (h : pre.length = off) (hv : v < 2 ^ n) : bitField bits off n = v := by
  unfold bitField
  rw [hb, List.drop_left' h, List.append_assoc, List.take_left' (toBits_length n v), bitsValue_toBits,
    Nat.mod_eq_of_lt hv]

theorem bytesToBits_append (l r : List Byte) : bytesToBits (l ++ r) = bytesToBits l ++ bytesToBits r :=
  List.flatMap_append

theorem bytesToBits_length (l : List Byte) : (bytesToBits l).length = 8 * l.length := by
  induction l with
  | nil => rfl
  | cons b l ih =>
    rw [show bytesToBits (b :: l) = toBits 8 b.toNat ++ bytesToBits l from rfl, List.length_append, toBits_length, ih,
      List.length_cons]
    omega

/-- R106, R107: each byte of a run is sampled whole. -/
theorem bitField_byte {pre post bits : List Bool} {l : List Byte} {off i : Nat}
    (hb : bits = pre ++ (bytesToBits l ++ post)) (h : pre.length = off) (hi : i < l.length) :
    BitVec.ofNat 8 (bitField bits (off + 8 * i) 8) = l[i] := by
  have hl : bytesToBits l = bytesToBits (l.take i) ++ (toBits 8 l[i].toNat ++ bytesToBits (l.drop (i + 1))) := by
    conv_lhs => rw [← List.take_append_drop i l, List.drop_eq_getElem_cons hi, bytesToBits_append]
    rfl
  have hfield : bitField bits (off + 8 * i) 8 = l[i].toNat := by
    refine bitField_toBits (pre := pre ++ bytesToBits (l.take i)) (post := bytesToBits (l.drop (i + 1)) ++ post) ?_ ?_
      l[i].isLt
    · rw [hb, hl]
      simp only [List.append_assoc]
    · rw [List.length_append, bytesToBits_length, List.length_take, h, Nat.min_eq_left hi.le]
  rw [hfield, BitVec.ofNat_toNat, BitVec.setWidth_eq]

/-! #### The payload -/

theorem byteIndex_ofNat {n : Nat} (k : Fin n) (h : n ≤ 256) : byteIndex n (BitVec.ofNat 8 k.val) = some k := by
  have hk : (BitVec.ofNat 8 k.val).toNat = k.val := by
    rw [BitVec.toNat_ofNat]
    exact Nat.mod_eq_of_lt (k.isLt.trans_le h)
  unfold byteIndex
  rw [dif_pos (by rw [hk]; exact k.isLt)]
  exact congrArg some (Fin.ext hk)

theorem ofNat_bytesValue_two (v : Word16) :
    BitVec.ofNat 16 (bytesValue (toBytes 2 v.toNat)) = v := by
  rw [bytesValue_toBytes, Nat.mod_eq_of_lt (show v.toNat < 256 ^ 2 from v.isLt), BitVec.ofNat_toNat, BitVec.setWidth_eq]

theorem ofNat_bytesValue_three (v : BitVec 24) : BitVec.ofNat 24 (bytesValue (toBytes 3 v.toNat)) = v := by
  rw [bytesValue_toBytes, Nat.mod_eq_of_lt (show v.toNat < 256 ^ 3 from v.isLt), BitVec.ofNat_toNat, BitVec.setWidth_eq]

/-- R106, R107: a payload's bytes spell it, under its kind. -/
theorem readPayload_bytes (p : Payload) : readPayload p.kind.code p.bytes = some p := by
  cases p with
  | tilt | nudge | drain | launched | start | hold v => rfl
  | lock n | lost n | released n | jammed n | mode n => exact congrArg (Option.map _) (byteIndex_ofNat n (by decide))
  | hit sw base tag flags =>
    have h : readPayload 9 (Payload.hit sw base tag flags).bytes = (byteIndex 32 (BitVec.ofNat 8 sw.val)).map
        fun n => .hit n (BitVec.ofNat 24 (bytesValue (toBytes 3 base.toNat))) tag flags := rfl
    rw [ofNat_bytesValue_three, byteIndex_ofNat sw (by decide)] at h
    exact h
  | tick n => exact congrArg (fun v => some (Payload.tick v)) (ofNat_bytesValue_two n)
  | presence b d f =>
    exact congrArg₂ (fun v w => some (Payload.presence v w f)) (ofNat_bytesValue_two b) (ofNat_bytesValue_two d)
  | join d dec occ roles => exact congrArg (fun v => some (Payload.join v dec occ roles)) (ofNat_bytesValue_two d)

/-- R106: no payload is longer than a HIT's 6 bytes. -/
theorem bytes_length_le (p : Payload) : p.bytes.length ≤ 6 := by
  cases p <;> simp [Payload.bytes, toBytes]

theorem class_code_lt (c : FrameClass) : c.code < 4 := by cases c <;> decide
theorem kind_code_lt (k : FrameKind) : k.code < 16 := by cases k <;> decide

/-! #### The frame -/

variable (f : Frame)

theorem bodyBits_length : f.bodyBits.length = 14 + 8 * f.payload.bytes.length := by
  unfold Frame.bodyBits
  simp only [List.length_append, toBits_length, bytesToBits_length]

/-- R106: the fields of the header as a receiver samples them, and what they say. -/
theorem header_sampled :
    bitField f.wireBits 0 2 = f.payload.cls.code ∧ bitField f.wireBits 2 4 = f.sender.val
      ∧ bitField f.wireBits 6 4 = f.payload.kind.code ∧ bitField f.wireBits 10 4 = f.payload.bytes.length := by
  have hlen := bytes_length_le f.payload
  have hw : f.wireBits = toBits 2 f.payload.cls.code ++ (toBits 4 f.sender.val ++ (toBits 4 f.payload.kind.code
      ++ (toBits 4 f.payload.bytes.length ++ (bytesToBits f.payload.bytes ++ toBits 8 (crc8 f.bodyBits).toNat)))) := by
    rw [Frame.wireBits]
    conv_lhs => arg 1; rw [Frame.bodyBits]
    simp only [List.append_assoc]
  refine ⟨bitField_toBits (pre := []) hw rfl (class_code_lt _),
    bitField_toBits (pre := toBits 2 f.payload.cls.code) hw rfl f.sender.isLt,
    bitField_toBits (pre := toBits 2 f.payload.cls.code ++ toBits 4 f.sender.val)
      (hw.trans (List.append_assoc _ _ _).symm) rfl (kind_code_lt _),
    bitField_toBits (pre := toBits 2 f.payload.cls.code ++ toBits 4 f.sender.val ++ toBits 4 f.payload.kind.code)
      (hw.trans ((List.append_assoc _ _ _).symm.trans (List.append_assoc _ _ _).symm)) rfl (by omega)⟩

theorem countedBytes_wireBits : countedBytes f.wireBits = f.payload.bytes.length := by
  have hlen := bytes_length_le f.payload
  unfold countedBytes
  rw [(header_sampled f).2.2.2, if_pos (by omega)]

/-- R107: the payload bytes that a receiver counts off the wire are those sent. -/
theorem rxBytes_wireBits : rxBytes f.wireBits = f.payload.bytes := by
  unfold rxBytes
  rw [countedBytes_wireBits]
  refine List.ext_getElem (by rw [List.length_map, List.length_range]) fun i _ hi => ?_
  rw [List.getElem_map, List.getElem_range]
  exact bitField_byte (pre := toBits 2 f.payload.cls.code ++ toBits 4 f.sender.val ++ toBits 4 f.payload.kind.code
    ++ toBits 4 f.payload.bytes.length) (by unfold Frame.wireBits Frame.bodyBits; rw [List.append_assoc]) rfl hi

/-- R107: a receiver reads the frame sent. -/
theorem rxFrame_wireBits : rxFrame f.wireBits = some f := by
  obtain ⟨hcls, hsender, hkind, hlen⟩ := header_sampled f
  have hs : rxSender f.wireBits = f.sender := by
    unfold rxSender
    rw [hsender]
    exact Fin.ext (Nat.mod_eq_of_lt f.sender.isLt)
  unfold rxFrame
  rw [hkind, rxBytes_wireBits, readPayload_bytes]
  dsimp only
  rw [if_pos ⟨hcls, hlen⟩, hs]

/-- R108: the check agrees. -/
theorem rxCrcOk_wireBits : rxCrcOk f.wireBits = true := by
  have hbody := bodyBits_length f
  have hcheck : bitField f.wireBits (14 + 8 * f.payload.bytes.length) 8 = (crc8 f.bodyBits).toNat :=
    bitField_toBits (pre := f.bodyBits) (post := []) (by rw [List.append_nil]; rfl) hbody (crc8 f.bodyBits).isLt
  unfold rxCrcOk
  rw [countedBytes_wireBits, hcheck]
  unfold Frame.wireBits
  rw [List.append_assoc, List.take_left' hbody, beq_self_eq_true]

end ReadBack

/-- Settles O15: the length, the fields (`rxFrame_wireBits`) and the check (`rxCrcOk_wireBits`) of the bits sent. -/
theorem frameReadBack : Obligations.FrameReadBack := by
  unfold Obligations.FrameReadBack
  refine fun f => ⟨?_, rxFrame_wireBits f, rxCrcOk_wireBits f⟩
  unfold countedBits
  rw [countedBytes_wireBits, Frame.wireBits, List.length_append, bodyBits_length, toBits_length]

end Sys2Proof.Machine

namespace Sys2Proof.Machine

/-! ### Free bus, marks and contention; a frame given up, vetoed, or lost late (R109 to R119) -/

section BusEvents

variable {s t : State} {c : Claim}

/-! #### Local time -/

/-- R109: the one way in which local time moves, in the words of the statements. -/
theorem passTo_eq_atTime (s : State) (t : Nat) : s.passTo t = atTime s t := rfl

theorem advanceTo_eq_atTime (s : State) (due : Nat) : s.advanceTo due = atTime s (max s.now due) := rfl

/-! #### The claim queue under a report -/

/-- R170: no LAUNCHED leaves the queue where their number stays. -/
theorem setQueue_eq {q : List Claim} (h : launchedClaims q = launchedClaims s.claim.queue) :
    s.setQueue q = { s with claim := { s.claim with queue := q } } := by
  unfold State.setQueue
  rw [h, Nat.sub_self, Nat.sub_zero]
  rfl

theorem launchedClaims_map {g : Claim → Claim} (hg : ∀ d, (g d).payload = d.payload) (q : List Claim) :
    launchedClaims (q.map g) = launchedClaims q := by
  unfold launchedClaims
  rw [List.countP_map]
  exact List.countP_congr fun d _ => by rw [Function.comp_apply, hg]

theorem launchedClaims_setClaimState (c : Claim) (st : ClaimState) (q : List Claim) :
    launchedClaims (setClaimState c st q) = launchedClaims q :=
  launchedClaims_map (fun d => by split <;> rfl) q

/-- R127: the report to a claim that no flush has reached. -/
theorem reported_flying {f : Claim → State} (hc : s.inFlightClaim = some c) (hs : c.state = .inFlight false) :
    s.reported f = f c := by
  unfold State.reported
  rw [hc]
  dsimp only
  rw [hs, if_neg (by decide)]

/-- R141: a flushed claim is removed, whatever the report. -/
theorem reported_flushed {f : Claim → State} (hc : s.inFlightClaim = some c) (hs : c.state = .inFlight true) :
    s.reported f = s.setQueue (removeClaim c s.claim.queue) := by
  unfold State.reported
  rw [hc]
  dsimp only
  rw [hs, if_pos rfl]

/-- R127: the claim IN_FLIGHT is WAITING again, and nothing else has changed. -/
theorem reportReturned_flying (hc : s.inFlightClaim = some c) (hs : c.state = .inFlight false) :
    s.reportReturned = { s with claim := { s.claim with queue := setClaimState c .waiting s.claim.queue } } := by
  unfold State.reportReturned
  rw [reported_flying hc hs, setQueue_eq (launchedClaims_setClaimState c _ _)]

theorem reportReturned_flushed (hc : s.inFlightClaim = some c) (hs : c.state = .inFlight true) :
    s.reportReturned = s.setQueue (removeClaim c s.claim.queue) := reported_flushed hc hs

theorem setQueue_launchesFollow (s : State) (q : List Claim) : LaunchesFollow s (s.setQueue q) :=
  (claimsReported_setQueue s q).launches

/-! #### Free bus, marks and contention -/

theorem canContend_iff :
    s.canContend = true ↔ s.bus.link = .idle ∧ s.bus.busFree = true ∧ s.ctl.listener = false ∧ s.ctl.state ≠ .quiet
      ∧ s.bus.muted = false ∧ s.bus.stuck = false ∧ s.bus.yielding = false ∧ s.headClaim ≠ none := by
  simp [State.canContend, and_assoc, Option.isSome_iff_ne_none]

/-- R112: the head goes IN_FLIGHT, and nothing else changes. -/
theorem launchHead_eq (h : s.headClaim = some c) :
    s.launchHead = { s with claim := { s.claim with queue := setClaimState c (.inFlight false) s.claim.queue } } := by
  unfold State.launchHead
  rw [h]
  exact setQueue_eq (launchedClaims_setClaimState c _ _)

/-- R110: the bus is free from its due time on. -/
theorem exec_busFree (hl : s.bus.link = .idle) (hb : s.bus.busFree = false) (ha : s.bus.awaitEnd = false)
    (hs : s.bus.stuck = false) :
    exec .busFree s = .next
      { s with now := max s.now s.bus.freeDue, bus := { s.bus with busFree := true, freeAt := max s.now s.bus.freeDue } } := by
  refine (if_pos ⟨hl, hb, ha, hs⟩).trans ?_
  have hadv : s.advanceTo s.bus.freeDue = s.setNow (max s.now s.bus.freeDue) :=
    State.passTo_of_not_contending s _ (by rw [hl]; decide)
  dsimp only
  rw [hadv]
  rfl

/-- Settles O6, by each event's condition, and the link of a contender at the time to which a timer's end moves. -/
theorem frameBegins : Obligations.FrameBegins := by
  unfold Obligations.FrameBegins
  refine ⟨fun s => ⟨exec_busFree, fun h => if_neg ?_, fun hb hy => if_pos ⟨hb, hy⟩, fun h => if_neg ?_⟩,
    fun s => ⟨fun c hl hb hli hq hm hst hy hc => ?_, fun h => if_neg ?_, fun hl ha hs => if_pos ⟨hl, ha, hs⟩,
      fun h => if_neg ?_⟩,
    fun s due hl ht => ?_⟩
  · rintro ⟨hl, hb, ha, hs⟩
    simp [hl, hb, ha, hs] at h
  · rintro ⟨hb, hy⟩
    simp [hb, hy] at h
  · refine (if_pos (canContend_iff.2 ⟨hl, hb, hli, hq, hm, hst, hy, by rw [hc]; nofun⟩)).trans ?_
    rw [launchHead_eq hc, Nat.add_assoc s.now]
    rfl
  · rw [canContend_iff]
    rintro ⟨hl, hb, hli, hq, hm, hst, hy, hc⟩
    simp [hl, hb, hli, hq, hm, hst, hy, hc] at h
  · rintro ⟨hl, ha, hs⟩
    simp [hl, ha, hs] at h
  · have hex : exec .tickTimerExpiry s = .next ((s.advanceTo due).setTickTimer .expired) := by
      show execTickTimerExpiry s = _
      unfold execTickTimerExpiry
      rw [ht]
    refine ⟨_, hex, rfl, ?_⟩
    show (if s.bus.link = .contending ∧ s.bus.senderPassDue ≤ max s.now due then Link.sending else s.bus.link) = _
    rw [hl]
    simp only [true_and]
    rfl

/-! #### ARBITRATION_LOST and CUT -/

theorem transmitting_of_contending (h : s.bus.link = .contending) : s.transmitting = true := by
  simp [State.transmitting, h]

theorem transmitting_of_receiving (h : s.bus.link = .receiving) : s.transmitting = false := by
  simp [State.transmitting, h]

theorem inFrame_of_receiving (h : s.bus.link = .receiving) : s.inFrame = true := by
  simp [State.inFrame, h]

/-- R119: a cut of the station's own frame, behind the report. -/
theorem exec_cut_transmitting (h : s.transmitting = true) :
    exec .cut s = .next (s.reportReturned.updBus fun b =>
      { b with link := .idle, busFree := false, freeDue := s.now + Config.freeAfterFrame, stray := false }) := by
  refine (if_pos (inFrame_of_transmitting h)).trans ?_
  rw [if_pos h]

/-- R119: a cut of another station's frame. -/
theorem exec_cut_receiving (h : s.bus.link = .receiving) :
    exec .cut s = .next (s.updBus fun b =>
      { b with link := .idle, busFree := false, freeDue := s.now + Config.freeAfterFrame, stray := false }) := by
  refine (if_pos (inFrame_of_receiving h)).trans ?_
  rw [if_neg (by rw [transmitting_of_receiving h]; decide)]

/-- R118: an end mark or a cut between frames ends the wait for one, if there is one. -/
theorem between_frames (hin : s.inFrame = false) {r : Host.Outcome State Fault Refusal} :
    (if s.inFrame = true then r else if s.bus.awaitEnd = true then .next s.waitOver else .next s) =
      if s.bus.awaitEnd = true then .next s.waitOver else .next s :=
  if_neg (by rw [hin]; decide)

/-- Settles O7: the claim IN_FLIGHT as a flush has reached it or not, and the link. -/
theorem frameGivenUp : Obligations.FrameGivenUp := by
  unfold Obligations.FrameGivenUp
  refine fun s => ⟨fun c hc hst => ⟨fun hl => ?_, fun htx => ?_⟩, fun c hc hst => ⟨fun hl => ?_, fun htx => ?_⟩,
    exec_cut_receiving, fun hin ha => (between_frames hin).trans (if_pos ha), fun hl => if_neg hl,
    fun hin ha => (between_frames hin).trans (if_neg (by rw [ha]; decide))⟩
  · refine (if_pos hl).trans ?_
    rw [reportReturned_flying hc hst]
    rfl
  · rw [exec_cut_transmitting htx, reportReturned_flying hc hst]
    rfl
  · refine ⟨_, if_pos hl, ?_⟩
    rw [reportReturned_flushed hc hst]
    exact ⟨rfl, rfl, setQueue_launchesFollow s _⟩
  · refine ⟨_, exec_cut_transmitting htx, ?_⟩
    rw [reportReturned_flushed hc hst]
    exact ⟨rfl, rfl, setQueue_launchesFollow s _⟩

/-! #### LATE_LOSS -/

/-- R114, R130: the mute condition, its fault, and no WAITING claim, before the station moves. -/
def State.silenced (s : State) : State := ((s.updBus fun b => { b with muted := true }).setFault .duplicate).discardWaiting

theorem mute_eq (s : State) :
    s.mute = (if s.silenced.ctl.state = .member then s.silenced.changeStation .bystander
      else s.silenced.judgeTickTimer).refreshLamps := rfl

theorem silenced_kept (s : State) : Kept (s.updBus fun b => { b with muted := true }) s.silenced :=
  (kept_setFault _ _).trans (kept_discardWaiting _)

theorem silenced_faults (s : State) : s.silenced.ctl.faults = s.ctl.faults ||| StationFault.duplicate.bit :=
  setFault_faults (s.updBus fun b => { b with muted := true }) _

theorem silenced_reject (s : State) : s.silenced.claim.reject = s.claim.reject := by
  show ((s.updBus fun b => { b with muted := true }).setFault .duplicate).claim.reject = _
  rw [(claims_setFault _ _).claim]
  rfl

theorem mem_silenced {d : Claim} (h : d ∈ s.silenced.claim.queue) : d.state ≠ .waiting := by
  intro hw
  have := (List.mem_filter.1 h).2
  simp [Claim.isWaiting, hw] at this

/-- R179: a MEMBER that goes keeps no WAITING claim; its latches stay. -/
theorem changeStation_claims (s : State) (st : StationState) (h : ∀ d ∈ s.claim.queue, d.state ≠ .waiting) :
    (∀ d ∈ (s.changeStation st).claim.queue, d.state ≠ .waiting) ∧ (s.changeStation st).claim.reject = s.claim.reject := by
  unfold State.changeStation
  split
  · exact ⟨h, rfl⟩
  · next hne =>
    rw [derived_claim, moveStation_claim s st hne]
    refine ⟨fun d hd => ?_, rfl⟩
    dsimp only at hd
    split at hd
    · rcases mem_flushedQueue hd with hf | ⟨hq, -⟩
      · rw [hf]
        nofun
      · exact h d hq
    · exact h d hd

/-- R114, R130, R179: what the mute leaves, from a state whose Table Engine and blocks it does not touch. -/
theorem mute_leaves (s : State) :
    s.mute.bus = { s.bus with muted := true }
      ∧ s.mute.ctl = { s.ctl with
          faults := s.mute.ctl.faults
          state := if s.ctl.state = .member then .bystander else s.ctl.state }
      ∧ s.mute.ctl.faults &&& 0xBF#8 = (s.ctl.faults ||| 0x02#8) &&& 0xBF#8
      ∧ (∀ d ∈ s.mute.claim.queue, d.state ≠ .waiting) ∧ s.mute.claim.reject = s.claim.reject
      ∧ s.mute.eng = s.eng ∧ SameGame (s.updBus fun b => { b with muted := true }) s.mute := by
  have hk := silenced_kept s
  have hfaults := silenced_faults s
  have hreject := silenced_reject s
  have hq : ∀ d ∈ s.silenced.claim.queue, d.state ≠ .waiting := fun d => mem_silenced
  have hst : s.silenced.ctl.state = s.ctl.state := hk.state
  have hctl : s.silenced.ctl = { s.ctl with faults := s.silenced.ctl.faults } := hk.ctl
  rw [mute_eq, hst]
  have hlamps := kept_refreshLamps (if s.ctl.state = .member then s.silenced.changeStation .bystander
    else s.silenced.judgeTickTimer)
  split
  · next hm =>
    rw [if_pos hm] at hlamps
    have hg := game_changeStation s.silenced .bystander
    obtain ⟨hwait, hrej⟩ := changeStation_claims s.silenced .bystander hq
    have heng : (s.silenced.changeStation .bystander).eng = s.eng := by
      rw [changeStation_eng, hst, hm, hk.eng]
      rfl
    refine ⟨?_, ?_, ?_, hwait, hrej.trans hreject, hlamps.eng.trans heng, (hk.game.trans hg).trans hlamps.game⟩
    · rw [hlamps.bus, changeStation_bus, hk.bus]
      rfl
    · rw [hlamps.ctl, hg.ctl, changeStation_state, hctl]
    · show (s.silenced.changeStation .bystander).ctl.faults &&& _ = _
      rw [changeStation_faults, hfaults]
      rfl
  · next hm =>
    rw [if_neg hm] at hlamps
    have hj := kept_judgeTickTimer s.silenced
    have hclaim := judgeTickTimer_claim s.silenced
    refine ⟨?_, ?_, ?_, ?_, ?_, ?_, ((hk.trans hj).trans hlamps).game⟩
    · rw [hlamps.bus, hj.bus, hk.bus]
      rfl
    · rw [hlamps.ctl, hj.ctl, hctl]
    · show s.silenced.judgeTickTimer.ctl.faults &&& _ = _
      rw [judgeTickTimer_eq]
      show s.silenced.ctl.faults &&& _ = _
      rw [hfaults]
      rfl
    · rw [refreshLamps_claim, hclaim]
      exact hq
    · rw [refreshLamps_claim, hclaim]
      exact hreject
    · rw [hlamps.eng, hj.eng, hk.eng]
      rfl

theorem reportReturned_reject (s : State) : s.reportReturned.claim.reject = s.claim.reject := by
  unfold State.reportReturned State.reported
  repeat' split
  all_goals rfl

/-- R127: the report leaves Station Control. -/
theorem reportReturned_ctl (s : State) : s.reportReturned.ctl = s.ctl := by
  unfold State.reportReturned State.reported
  repeat' split
  all_goals rfl

/-- A state that agrees on the queue, the time, the blocks, the Table Engine, the switches and the sensors. -/
theorem eq_of_fields (hp : t.pending = s.pending) (hn : t.now = s.now) (hc : t.cfg = s.cfg) (ht : t.table = s.table)
    (he : t.eng = s.eng) (hw : t.sw = s.sw) (hs : t.sen = s.sen) :
    t = { s with bus := t.bus, ctl := t.ctl, claim := t.claim, drv := t.drv, lamp := t.lamp, rpt := t.rpt } := by
  rw [← hp, ← hn, ← hc, ← ht, ← he, ← hw, ← hs]

/-- Settles O8, by what the mute leaves (`mute_leaves`) behind the report. -/
theorem lateLoss : Obligations.LateLoss := by
  unfold Obligations.LateLoss
  refine fun s => ⟨fun htx => ⟨_, if_pos htx, ?_⟩, fun htx => if_neg (by rw [htx]; decide)⟩
  have hk := kept_reportReturned s
  have hctl := reportReturned_ctl s
  have hrej := reportReturned_reject s
  generalize s.reportReturned = u at hk hctl hrej
  obtain ⟨hbus, hmctl, hfaults, hwait, hmrej, heng, hg⟩ := mute_leaves (u.updBus fun b => { b with link := .receiving })
  generalize (u.updBus fun b => { b with link := .receiving }).mute = t at *
  have hb : u.bus = s.bus := hk.bus
  refine ⟨?_, ?_, ?_, hwait, hmrej.trans hrej, ?_⟩
  · rw [hbus, ← hb]
    rfl
  · rw [hmctl, ← hctl]
    rfl
  · rw [hfaults, ← hctl]
    rfl
  · exact eq_of_fields (hg.pending.trans hk.pending) (hg.now.trans hk.now) (hg.cfg.trans hk.cfg) (hg.table.trans hk.table)
      (heng.trans hk.eng) (hg.sw.trans hk.sw) (hg.sen.trans hk.sen)

/-! #### STRAY_MARK -/

/-- R115: a received frame with a stray mark in it is not sound. -/
theorem sound_of_stray {bits : List Bool} (hr : s.bus.link = .receiving) (hs : s.bus.stray = true) :
    s.sound bits = false := by
  have hown : s.ownFrame = none := by
    unfold State.ownFrame
    rw [transmitting_of_receiving hr]
    rfl
  simp [State.sound, hown, hs]

/-- R122: what the entry to QUIET makes of the bus: the clean run starts anew, and a loss empties the inbound queue. -/
theorem enterQuiet_bus (u : State) :
    u.enterQuiet.bus = { u.bus with cleanRun := 0 } ∨ u.enterQuiet.bus = { u.bus with cleanRun := 0, inbound := [] } := by
  rw [enterQuiet_eq, (tends_derived _).kept.bus]
  unfold State.causeLoss
  split
  · exact .inl (quieted_bus u)
  · rw [performLoss_bus, quieted_bus]
    exact .inr rfl

theorem quietCheck_bus (u : State) (scored : Bool) :
    (u.quietCheck scored).bus = u.bus ∨ (u.quietCheck scored).bus = { u.bus with cleanRun := 0 }
      ∨ (u.quietCheck scored).bus = { u.bus with cleanRun := 0, inbound := [] } := by
  unfold State.quietCheck
  split
  · exact .inr (enterQuiet_bus u)
  · exact .inl rfl

/-- R115, R116: a frame's end where the veto slot reads dominant. -/
theorem frameEnd_dominant {bits : List Bool} {v : Bool} (h : s.slotDominant bits v = true) :
    s.frameEnd bits v =
      ((s.endFrame bits false (s.checksFrames && !s.sound bits) (s.sound bits) false).reportEnd s.transmitting
        false).quietCheck (s.checksFrames && !s.sound bits) := by
  unfold State.frameEnd
  rw [h]
  rfl

/-- Settles O9: the frame is not sound (`sound_of_stray`), so its end mark drives the veto slot and nothing is appended. -/
theorem strayMark : Obligations.StrayMark := by
  unfold Obligations.StrayMark
  refine fun s => ⟨fun h => if_pos h, fun h => if_neg (by rw [h]; decide), fun bits v hr hstray hch => ?_⟩
  have hs := sound_of_stray (bits := bits) hr hstray
  have hveto : s.drivesVeto bits = true := by simp [State.drivesVeto, hch, hs]
  have hdom : s.slotDominant bits v = true := by simp [State.slotDominant, hveto]
  refine ⟨_, exec_endMark v (inFrame_of_receiving hr), ?_⟩
  have hrep : ∀ u : State, u.reportEnd false false = u := fun _ => rfl
  rw [frameEnd_dominant hdom, transmitting_of_receiving hr, hrep]
  have hend : ∀ scored clean, (s.endFrame bits false scored clean false).bus.vetoDriven = true
      ∧ (s.endFrame bits false scored clean false).bus.inbound = s.bus.inbound := fun _ _ => ⟨hveto, rfl⟩
  obtain ⟨hdriven, hin⟩ := hend (s.checksFrames && !s.sound bits) (s.sound bits)
  rcases quietCheck_bus (s.endFrame bits false (s.checksFrames && !s.sound bits) (s.sound bits) false)
    (s.checksFrames && !s.sound bits) with h | h | h
  all_goals rw [h]
  · exact ⟨hdriven, .inl hin⟩
  · exact ⟨hdriven, .inl hin⟩
  · exact ⟨hdriven, .inr rfl⟩

/-! #### A vetoed frame and a missing end mark -/

/-- R136, R170: the report VETOED changes the claims, the launches as claims leave the queue, and the report port. -/
theorem reportVetoed_rest (s : State) :
    s.reportVetoed = { s with claim := s.reportVetoed.claim, drv := s.reportVetoed.drv, rpt := s.reportVetoed.rpt }
      ∧ LaunchesFollow s s.reportVetoed := by
  unfold State.reportVetoed State.reported
  split
  · exact ⟨rfl, (ClaimsReported.refl s).launches⟩
  · split
    · exact ⟨rfl, setQueue_launchesFollow s _⟩
    · dsimp only
      split
      · exact ⟨rfl, setQueue_launchesFollow s _⟩
      · next c _ _ _ => exact ⟨rfl, setQueue_launchesFollow s (removeClaim c s.claim.queue)⟩

/-- R136: the attempt that is counted, and the fourth that drops the claim. -/
theorem reportVetoed_flying (hc : s.inFlightClaim = some c) (hs : c.state = .inFlight false) :
    s.reportVetoed.claim.queue =
      if c.attempts + 1 < 4 then
        s.claim.queue.map fun d =>
          if d.created = c.created then { d with state := .waiting, attempts := d.attempts + 1 } else d
      else removeClaim c s.claim.queue := by
  unfold State.reportVetoed
  rw [reported_flying hc hs]
  split <;> rfl

/-- R116, R118, R127, R136: what becomes of the claims at the end of a frame that is not accepted. -/
structure VetoCounted (s t : State) : Prop where
  received : s.transmitting = false → t.claim = s.claim
  counts   : ∀ c : Claim, s.transmitting = true → s.inFlightClaim = some c → c.state = .inFlight false →
    t.claim.queue =
      if c.attempts + 1 < 4 then
        s.claim.queue.map fun d =>
          if d.created = c.created then { d with state := .waiting, attempts := d.attempts + 1 } else d
      else removeClaim c s.claim.queue
  flushed  : ∀ c : Claim, s.transmitting = true → s.inFlightClaim = some c → c.state = .inFlight true →
    t.claim.queue = removeClaim c s.claim.queue
  launches : LaunchesFollow s t
  rest     : t = { s with bus := t.bus, claim := t.claim, drv := t.drv, rpt := t.rpt }

/-- R127: the report of a veto behind a frame's end, to a transmitter. -/
theorem vetoCounted_reportEnd {b : Bus} : VetoCounted s ((s.setBus b).reportEnd s.transmitting false)
    ∧ ((s.setBus b).reportEnd s.transmitting false).bus = b := by
  refine ⟨?_, (kept_reportEnd (s.setBus b) s.transmitting false).bus⟩
  have hrep : (s.setBus b).reportEnd s.transmitting false = if s.transmitting then (s.setBus b).reportVetoed else s.setBus b :=
    rfl
  rw [hrep]
  obtain ⟨hrest, hlaunch⟩ := reportVetoed_rest (s.setBus b)
  split
  · next htx =>
    refine ⟨fun h => ?_, fun c _ hc hs => reportVetoed_flying (s := s.setBus b) hc hs, fun c _ hc hs => ?_, hlaunch, ?_⟩
    · rw [h] at htx
      cases htx
    · rw [State.reportVetoed, reported_flushed (s := s.setBus b) hc hs]
      rfl
    · rw [hrest]
      rfl
  · next htx =>
    exact ⟨fun _ => rfl, fun c h => absurd h htx, fun c h => absurd h htx, (ClaimsReported.refl s).launches, rfl⟩

/-- R121: short of a score of 32, QUIET is not entered. -/
theorem quietCheck_short {scored : Bool} (h : s.checksFrames = true → scored = true → s.bus.score < 32) :
    s.quietCheck scored = s := by
  refine if_neg ?_
  rintro ⟨hc, hs, hle⟩
  exact absurd (h hc hs) (Nat.not_lt.2 hle)

/-- R121: the score of a scored veto that stays below 32. -/
theorem scoreAfter_scored {scored : Bool} (h : s.checksFrames = true → scored = true → s.bus.score + 4 < 32) :
    s.scoreAfter false scored = if s.checksFrames = true ∧ scored = true then s.bus.score + 4 else s.bus.score := by
  unfold State.scoreAfter
  by_cases hc : s.checksFrames = true
  · by_cases hs : scored = true
    · have hlt := h hc hs
      rw [if_pos hc, if_pos hs, if_pos ⟨hc, hs⟩]
      show min 255 (s.bus.score + 4) = _
      omega
    · simp [hc, hs]
  · rw [if_neg hc, if_neg fun h => hc h.1]

/-- R116, R118, R121: a frame's end that is not accepted, short of QUIET: the claims, and the score. -/
theorem vetoed_end {bits : List Bool} {scored clean missing : Bool}
    (h : s.checksFrames = true → scored = true → s.bus.score + 4 < 32) :
    VetoCounted s (((s.endFrame bits false scored clean missing).reportEnd s.transmitting false).quietCheck scored)
      ∧ (((s.endFrame bits false scored clean missing).reportEnd s.transmitting false).quietCheck scored).bus =
        { s.bus with
          link := .idle, busFree := false, freeDue := s.now + Config.freeAfterFrame, awaitEnd := missing, stray := false
          yielding := s.yieldAfter bits
          score := if s.checksFrames = true ∧ scored = true then s.bus.score + 4 else s.bus.score
          cleanRun := s.cleanRunAfter clean, vetoDriven := s.drivesVeto bits } := by
  obtain ⟨hcount, hbus⟩ := vetoCounted_reportEnd (s := s) (b := (s.endFrame bits false scored clean missing).bus)
  have hk := kept_reportEnd (s.endFrame bits false scored clean missing) s.transmitting false
  have hscore : (s.endFrame bits false scored clean missing).bus.score =
      if s.checksFrames = true ∧ scored = true then s.bus.score + 4 else s.bus.score := scoreAfter_scored h
  rw [quietCheck_short fun hc hs => ?_]
  · refine ⟨hcount, ?_⟩
    rw [← hscore]
    exact hbus
  · have hch : s.checksFrames = true := hk.checksFrames.symm.trans hc
    rw [hk.bus, hscore, if_pos ⟨hch, hs⟩]
    exact h hch hs

/-- R115, R121: a station in QUIET that is no listener neither judges nor appends a frame. -/
theorem deliver_unchecked {f : Option Frame} {so o : Bool} (hc : s.checksFrames = false) (hl : s.ctl.listener = false) :
    s.deliver f so o = s := by
  unfold State.deliver
  split
  · exact if_neg fun h => by rw [hl] at h; cases h.1
  · rw [if_neg (by rw [hc]; decide), if_neg (by rw [hl]; decide)]

/-- R122: in QUIET a received frame's end counts clean frames and nothing else. -/
theorem frameEnd_quiet {bits : List Bool} {v : Bool} (hr : s.bus.link = .receiving) (hq : s.ctl.state = .quiet)
    (hl : s.ctl.listener = false) :
    s.frameEnd bits v = s.endFrame bits (!v) false (s.sound bits) false := by
  have hch : s.checksFrames = false := by simp [State.checksFrames, hq]
  have hdom : s.slotDominant bits v = v := by simp [State.slotDominant, State.drivesVeto, hch]
  unfold State.frameEnd
  dsimp only
  rw [hdom, hch, transmitting_of_receiving hr]
  simp only [Bool.false_and, quietCheck_unscored]
  split
  · exact deliver_unchecked (s := s.endFrame bits (!v) false (s.sound bits) false) hch hl
  · rfl

/-- Settles O11, by what an unaccepted frame's end leaves short of QUIET (`vetoed_end`), and in QUIET (`frameEnd_quiet`). -/
theorem frameVetoed : Obligations.FrameVetoed := by
  unfold Obligations.FrameVetoed
  intro bits v s ended counted
  have hcounted : ∀ t, VetoCounted s t → counted t := fun t h => ⟨h.received, h.counts, h.flushed, h.launches, h.rest⟩
  refine ⟨fun hin hdom hshort => ?_, fun hin hshort => ?_, fun hr hq hl => ?_,
    fun hin ha => (between_frames hin).trans (if_pos ha), fun hin ha => (between_frames hin).trans (if_neg (by rw [ha]; decide)),
    fun hin => if_neg (by rw [hin]; decide)⟩
  · have hs : s.checksFrames = true → (s.checksFrames && !s.sound bits) = true → s.bus.score + 4 < 32 := fun hc hv => by
      rw [hc, Bool.true_and, Bool.not_eq_true'] at hv
      exact hshort hc hv
    obtain ⟨hcount, hbus⟩ := vetoed_end (bits := bits) (clean := s.sound bits) (missing := false) hs
    refine ⟨_, (exec_endMark v hin).trans (congrArg Host.Outcome.next (frameEnd_dominant hdom)), hcounted _ hcount, ?_⟩
    rw [hbus]
    have hscore : (s.checksFrames = true ∧ (s.checksFrames && !s.sound bits) = true) ↔
        (s.checksFrames = true ∧ s.sound bits = false) := by simp
    simp only [hscore]
    rfl
  · obtain ⟨hcount, hbus⟩ := vetoed_end (s := s) (bits := bits) (scored := true) (clean := false) (missing := true)
      fun hc _ => hshort hc
    refine ⟨_, if_pos hin, hcounted _ hcount, ?_⟩
    rw [hbus]
    simp only [and_true]
    rfl
  · have hch : s.checksFrames = false := by simp [State.checksFrames, hq]
    refine (exec_endMark v (inFrame_of_receiving hr)).trans (congrArg Host.Outcome.next ?_)
    rw [frameEnd_quiet hr hq hl]
    unfold State.endFrame State.scoreAfter State.cleanRunAfter State.drivesVeto
    rw [hch, if_pos hq]
    rfl

end BusEvents

end Sys2Proof.Machine

namespace Sys2Proof.Machine

/-! ### The end of a measurement (R156 to R160) -/

section Measurements

variable (s : State)

/-! #### What a delivery leaves: all but the Claim Unit, the Driver Unit, DRIVE, the lamps and the notices -/

theorem tends_requestJammed (n : Slot) : Tends s (s.requestJammed n) := Tends.ite .refl (tends_build s _ _)

theorem tends_jammedAfter (n : Slot) : Tends s (s.jammedAfter n) := by
  unfold State.jammedAfter
  split
  · exact Tends.ite (tends_requestJammed s n) .refl
  · exact .refl

theorem tends_failEject (n : Slot) : Tends s (s.failEject n) := (tends_updDrv s _).trans (tends_jammedAfter _ n)

theorem tends_succeedEject (n : Slot) : Tends s (s.succeedEject n) := tends_updDrv s _

theorem tends_ejectDelivery (n : Slot) (st : ChannelState) : Tends s (s.ejectDelivery n st) := by
  refine Tends.foldl (fun t o => Tends.ite ?_ .refl) _ s
  cases st with
  | absent => exact (tends_succeedEject t n).trans (tends_closeAttempt _ o)
  | fault => exact (tends_failEject t n).trans (tends_closeAttempt _ o)
  | unknown => exact .refl
  | present => exact .refl

theorem tends_deliverDecision (ch : Channel) (st : ChannelState) : Tends s (s.deliverDecision ch st) := by
  unfold State.deliverDecision
  split
  · next n _ _ =>
    have hclaim : Tends s (s.claimDelivery n st) := (Tends.ite (tends_setLatch s n false) .refl).trans (tends_reconcile _ n)
    exact (hclaim.trans (tends_ejectDelivery _ n st)).trans (tends_deriveDuties _)
  · exact tends_deriveDuties s

variable {s}

/-- R180: of the faults, what a delivery leaves is told by the set without DRIVE. -/
theorem hasFault_of_masked {t : State} {f : StationFault} (hf : f ≠ .drive)
    (h : t.ctl.faults &&& 0xBF#8 = s.ctl.faults &&& 0xBF#8) : t.hasFault f = s.hasFault f := by
  have hbit : (0xBF#8 : Byte) &&& f.bit = f.bit := by
    cases f with
    | drive => exact absurd rfl hf
    | _ => rfl
  have hmask : t.ctl.faults &&& f.bit = s.ctl.faults &&& f.bit := by
    rw [← hbit, ← BitVec.and_assoc, h, BitVec.and_assoc]
  unfold State.hasFault
  rw [hmask]

theorem or_bit_and_bit (x : Byte) (f : StationFault) : (x ||| f.bit) &&& f.bit = f.bit := by
  rw [BitVec.and_comm]
  ext i hi
  simp only [BitVec.getElem_and, BitVec.getElem_or]
  cases f.bit[i] <;> simp

theorem hasFault_setFault (s : State) (f : StationFault) : (s.setFault f).hasFault f = true := by
  unfold State.hasFault
  rw [setFault_faults, or_bit_and_bit]
  cases f with
  | _ => rfl

theorem hasFault_clearFault (s : State) (f : StationFault) : (s.clearFault f).hasFault f = false := by
  unfold State.hasFault
  rw [clearFault_faults, BitVec.and_assoc, BitVec.and_comm (~~~f.bit), BitVec.and_not_self]
  simp

/-! #### The class of a count and the decision -/

theorem raiseRun_eq_three {n : Nat} : raiseRun n = 3 ↔ 2 ≤ n := by
  unfold raiseRun
  omega

theorem min_edges_eq_zero {edges : Nat} : min 65535 edges = 0 ↔ edges = 0 := by omega

/-- R157: a count of 0, or past the range of the counter, is invalid. -/
theorem classify_invalid {edges lower upper : Nat} (h : edges = 0 ∨ 65535 < edges) :
    classify (min 65535 edges) (decide (65535 < edges)) lower upper = .invalid :=
  if_pos (h.imp min_edges_eq_zero.2 decide_eq_true)

/-- R157: a valid count is stored as it is, and classed by the thresholds. -/
theorem classify_valid {edges lower upper : Nat} (h : ¬(edges = 0 ∨ 65535 < edges)) :
    classify (min 65535 edges) (decide (65535 < edges)) lower upper =
      if edges < lower then .low else if edges ≤ upper then .mid else .high := by
  obtain ⟨h0, hle⟩ := not_or.1 h
  have hmin : min 65535 edges = edges := by omega
  unfold classify
  rw [hmin, if_neg (by simp [h0, hle])]

/-- R158: the decision on a channel that is not in FAULT. -/
theorem measured_running {r : ChannelRecord} (c : ChannelConfig) (edges : Nat) (hr : r.state ≠ .fault) :
    r.measured c edges = (r.store edges).decideRunning
      (classify (min 65535 edges) (decide (65535 < edges)) c.lower c.upper) := by
  show (r.store edges).decided _ = _
  unfold ChannelRecord.decided
  split
  · next h => exact absurd h hr
  · rfl
  · rfl
  · rfl

/-- R159: the decision on a channel in FAULT. -/
theorem measured_inFault {r : ChannelRecord} (c : ChannelConfig) (edges : Nat) (hr : r.state = .fault) :
    r.measured c edges = (r.store edges).decideInFault
      (classify (min 65535 edges) (decide (65535 < edges)) c.lower c.upper) := by
  show (r.store edges).decided _ = _
  have hs : (r.store edges).state = .fault := hr
  unfold ChannelRecord.decided
  rw [hs]
  rfl

theorem measured_count (r : ChannelRecord) (c : ChannelConfig) (edges : Nat) :
    (r.measured c edges).count = min 65535 edges ∧ (r.measured c edges).overrange = decide (65535 < edges) := by
  have hrun : ∀ k, ((r.store edges).decideRunning k).count = min 65535 edges
      ∧ ((r.store edges).decideRunning k).overrange = decide (65535 < edges) := fun k => by
    cases k with
    | invalid => unfold ChannelRecord.decideRunning; dsimp only; split <;> exact ⟨rfl, rfl⟩
    | _ => exact ⟨rfl, rfl⟩
  by_cases hr : r.state = .fault
  · rw [measured_inFault c edges hr]
    unfold ChannelRecord.decideInFault
    repeat' split
    all_goals exact ⟨rfl, rfl⟩
  · rw [measured_running c edges hr]
    exact hrun _

/-- R158: the runs and the state behind a count of a channel that is not in FAULT. -/
theorem measured_running_eq {r : ChannelRecord} (c : ChannelConfig) (edges : Nat) (hr : r.state ≠ .fault) :
    r.measured c edges =
      let invalid := edges = 0 ∨ 65535 < edges
      { r with
        count := min 65535 edges
        overrange := decide (65535 < edges)
        lowRun := if ¬invalid ∧ edges < c.lower then min 3 (r.lowRun + 1) else 0
        highRun := if ¬invalid ∧ c.lower ≤ edges ∧ c.upper < edges then min 3 (r.highRun + 1) else 0
        invalidRun := if invalid ∧ r.invalidRun < 2 then r.invalidRun + 1 else 0
        validRun := if invalid ∧ 2 ≤ r.invalidRun then 0 else r.validRun
        state :=
          if invalid then if 2 ≤ r.invalidRun then .fault else r.state
          else if edges < c.lower then if 2 ≤ r.lowRun then .present else r.state
          else if c.upper < edges then if 2 ≤ r.highRun then .absent else r.state
          else r.state } := by
  rw [measured_running c edges hr]
  by_cases hi : edges = 0 ∨ 65535 < edges
  · rw [classify_invalid hi]
    unfold ChannelRecord.decideRunning ChannelRecord.store
    dsimp only
    by_cases h2 : 2 ≤ r.invalidRun
    · rw [if_pos (raiseRun_eq_three.2 h2)]
      simp [hi, h2, Nat.not_lt.2 h2]
    · have hrun : raiseRun r.invalidRun = r.invalidRun + 1 := by
        unfold raiseRun
        omega
      rw [if_neg (raiseRun_eq_three.not.2 h2)]
      simp [hi, h2, hrun, Nat.lt_of_not_le h2]
  · rw [classify_valid hi]
    by_cases hl : edges < c.lower
    · simp [ChannelRecord.decideRunning, ChannelRecord.store, raiseRun_eq_three, hi, hl, Nat.not_le.2 hl]
      rfl
    · by_cases hu : edges ≤ c.upper
      · simp [ChannelRecord.decideRunning, ChannelRecord.store, hi, hl, hu, Nat.not_lt.2 hu]
      · simp [ChannelRecord.decideRunning, ChannelRecord.store, raiseRun_eq_three, hi, hl, hu, Nat.not_le.1 hu, Nat.not_lt.1 hl]
        rfl

/-- R159: the run of valid counts of a channel in FAULT, and the third that takes it to UNKNOWN. -/
theorem measured_inFault_eq {r : ChannelRecord} (c : ChannelConfig) (edges : Nat) (hr : r.state = .fault) :
    r.measured c edges =
      if edges = 0 ∨ 65535 < edges then
        { r with count := min 65535 edges, overrange := decide (65535 < edges), validRun := 0 }
      else if r.validRun < 2 then
        { r with count := min 65535 edges, overrange := decide (65535 < edges), validRun := r.validRun + 1 }
      else
        { r with
          count := min 65535 edges, overrange := decide (65535 < edges), validRun := 0, lowRun := 0
          highRun := 0, invalidRun := 0, state := .unknown } := by
  rw [measured_inFault c edges hr]
  unfold ChannelRecord.decideInFault ChannelRecord.store
  by_cases hi : edges = 0 ∨ 65535 < edges
  · rw [classify_invalid hi, if_pos rfl, if_pos hi]
  · have hc : ¬classify (min 65535 edges) (decide (65535 < edges)) c.lower c.upper = .invalid := by
      rw [classify_valid hi]
      repeat' split
      all_goals nofun
    rw [if_neg hc, if_neg hi]
    dsimp only
    by_cases h2 : r.validRun < 2
    · rw [if_pos h2, if_pos (by omega)]
    · rw [if_neg h2, if_neg (by omega)]

/-! #### The fault SENSOR and the delivery -/

/-- R157: the channel's record behind its measurement, before anything is reported or delivered. -/
def State.stored (s : State) (ch : Channel) (r : ChannelRecord) : State :=
  s.updSen fun u => { u with channels := vmap (fun k x => if k = ch then r else x) u.channels }

theorem stored_channel (s : State) (ch : Channel) (r : ChannelRecord) (k : Channel) :
    (s.stored ch r).sen.channels[k] = if k = ch then r else s.sen.channels[k] := vmap_get_fin _ _ k

/-- R157 to R160: the measurement's end, by whether the channel's state has changed. -/
theorem measure_eq (s : State) (ch : Channel) (edges : Nat) :
    s.measure ch edges =
      let new := s.sen.channels[ch].measured s.cfg.channels[ch] edges
      if new.state = s.sen.channels[ch].state then s.stored ch new
      else (((s.stored ch new).sensorReport s.sen.channels[ch].state new.state).deliverDecision ch new.state).refreshLamps :=
  rfl

/-- R157: a measurement changes the channel's record, the faults, and what its delivery reaches. -/
theorem measure_kept (s : State) (ch : Channel) (edges : Nat) :
    Kept (s.stored ch (s.sen.channels[ch].measured s.cfg.channels[ch] edges)) (s.measure ch edges) := by
  rw [measure_eq]
  exact Kept.ite (.refl _) (((kept_sensorReport _ _ _).trans (kept_deliverDecision _ _ _)).trans (kept_refreshLamps _))

/-- R159: SENSOR behind a measurement that has changed the channel's state is as its report left it. -/
theorem measure_sensor {ch : Channel} {edges : Nat} {new : ChannelRecord}
    (hnew : s.sen.channels[ch].measured s.cfg.channels[ch] edges = new) (h : new.state ≠ s.sen.channels[ch].state) :
    (s.measure ch edges).hasFault .sensor =
      ((s.stored ch new).sensorReport s.sen.channels[ch].state new.state).hasFault .sensor := by
  rw [measure_eq, hnew]
  dsimp only
  rw [if_neg h]
  exact hasFault_of_masked (by nofun) ((tends_deliverDecision _ ch new.state).trans (tends_refreshLamps _)).faults

theorem anyChannelFault_eq_false : s.anyChannelFault = false ↔ ∀ k : Channel, s.sen.channels[k].state ≠ .fault := by
  unfold State.anyChannelFault
  rw [List.any_eq_false]
  simp only [Vector.mem_toList_iff, beq_iff_eq]
  refine ⟨fun h k => h _ (Vector.getElem_mem k.isLt), fun h r hr => ?_⟩
  obtain ⟨i, hi, he⟩ := Vector.mem_iff_getElem.1 hr
  rw [← he]
  exact h ⟨i, hi⟩

/-- R159: a channel that has become FAULT is reported. -/
theorem measure_fails {ch : Channel} {edges : Nat}
    (hn : (s.sen.channels[ch].measured s.cfg.channels[ch] edges).state = .fault)
    (ho : s.sen.channels[ch].state ≠ .fault) : (s.measure ch edges).hasFault .sensor = true := by
  rw [measure_sensor rfl (by rw [hn]; exact ho.symm), State.sensorReport, if_pos hn]
  exact hasFault_setFault _ _

/-- R159: SENSOR is cleared as the last channel leaves FAULT. -/
theorem measure_recovers {ch : Channel} {edges : Nat}
    (hn : (s.sen.channels[ch].measured s.cfg.channels[ch] edges).state ≠ .fault)
    (ho : s.sen.channels[ch].state = .fault) (hall : ∀ k : Channel, k ≠ ch → s.sen.channels[k].state ≠ .fault) :
    (s.measure ch edges).hasFault .sensor = false := by
  have hnone : (s.stored ch (s.sen.channels[ch].measured s.cfg.channels[ch] edges)).anyChannelFault = false := by
    refine anyChannelFault_eq_false.2 fun k => ?_
    rw [stored_channel]
    split
    · exact hn
    · next hk => exact hall k hk
  rw [measure_sensor rfl (by rw [ho]; exact hn), State.sensorReport, if_neg hn, if_pos ⟨ho, hnone⟩]
  exact hasFault_clearFault _ _

/-- R157: the state in which the window of the sweep's first channel has ended. -/
def State.windowEnded (s : State) (rest : List Channel) : State :=
  (s.advanceTo s.sen.windowDue).updSen fun u =>
    { u with sweep := rest, windowDue := (s.advanceTo s.sen.windowDue).windowEnd rest }

theorem exec_measurementEnd {edges : Nat} {ch : Channel} {rest : List Channel} (h : s.sen.sweep = ch :: rest) :
    exec (.measurementEnd edges) s = .next ((s.windowEnded rest).measure ch edges) := by
  show execMeasurementEnd edges s = _
  unfold execMeasurementEnd
  rw [h]
  rfl

/-- Settles O47: the record by the two decisions (`measured_running_eq`, `measured_inFault_eq`), the fault by the report,
which the delivery leaves (`measure_sensor`). -/
theorem measurementDecision : Obligations.MeasurementDecision := by
  unfold Obligations.MeasurementDecision
  intro s edges ch rest hsweep r c invalid
  have hk := measure_kept (s.windowEnded rest) ch edges
  have hchannel : ∀ k : Channel, ((s.windowEnded rest).measure ch edges).sen.channels[k] =
      if k = ch then r.measured c edges else s.sen.channels[k] := fun k => by
    rw [hk.sen]
    exact stored_channel _ ch _ k
  have hch : ((s.windowEnded rest).measure ch edges).sen.channels[ch] = r.measured c edges :=
    (hchannel ch).trans (if_pos rfl)
  obtain ⟨hcount, hover⟩ := measured_count r c edges
  refine ⟨_, exec_measurementEnd hsweep, by rw [hk.sen]; rfl, fun k hne => (hchannel k).trans (if_neg hne), ?_⟩
  rw [hch]
  exact ⟨hcount, hover, measured_running_eq c edges, measured_inFault_eq c edges,
    fun hn ho => measure_fails (s := s.windowEnded rest) hn ho,
    fun ho hn hall => measure_recovers (s := s.windowEnded rest) hn ho hall,
    hk.table, hk.eng, hk.bus, hk.sw, hk.cfg, hk.pending⟩

end Measurements

end Sys2Proof.Machine

namespace Sys2Proof.Machine

/-! ### What a derivation does to one output, one duty, one request (R163 to R171)

A derivation up to its arbiter is a run of moves, each with the condition under which it is made (`DutyMove`); what stands
through a derivation is then shown once for each move. -/

section Derivation

variable {s t u : State} {n : Slot} {o : Output} {id : DutyId}

/-! #### The records of the Driver Unit behind one change -/

theorem updOutput_get (d : DriverUnit) (o k : Output) (f : OutputRecord → OutputRecord) :
    (d.updOutput o f).outputs[k] = if k = o then f d.outputs[k] else d.outputs[k] := vmap_get_fin _ _ k

theorem updEject_get (d : DriverUnit) (n k : Slot) (f : EjectDuty → EjectDuty) :
    (d.updEject n f).ejects[k] = if k = n then d.ejects[k].map f else d.ejects[k] := vmap_get_fin _ _ k

theorem setEject_get (d : DriverUnit) (n k : Slot) (x : Option EjectDuty) :
    (d.setEject n x).ejects[k] = if k = n then x else d.ejects[k] := vmap_get_fin _ _ k

theorem updScoop_get (d : DriverUnit) (n k : Switch) (f : ScoopDuty → ScoopDuty) :
    (d.updScoop n f).scoops[k] = if k = n then d.scoops[k].map f else d.scoops[k] := vmap_get_fin _ _ k

/-- R163, R164: a request raises an IDLE output to QUEUED and leaves every other record. -/
theorem enterRequest_output (d : DriverUnit) (o k : Output) (id : DutyId) :
    (d.enterRequest o id).outputs[k] =
      if k = o ∧ d.outputs[k].state = .idle then { d.outputs[k] with state := .queued } else d.outputs[k] := by
  refine (updOutput_get d o k _).trans ?_
  split
  · next h => simp [h]
  · next h => simp [h]

/-- R169: a request that is dropped returns its QUEUED output to IDLE. -/
theorem dropRequest_output (d : DriverUnit) (id : DutyId) (k : Output) :
    (d.dropRequest id).outputs[k] =
      if d.outputs[k].state = .queued ∧ (d.requests.any fun q => q.output == k && q.duty == id) then
        { d.outputs[k] with state := .idle }
      else d.outputs[k] := vmap_get_fin _ _ k

theorem hasRequest_iff {d : DriverUnit} : d.hasRequest id = true ↔ ∃ q ∈ d.requests, q.duty = id := by
  simp [DriverUnit.hasRequest]

theorem requested_iff {d : DriverUnit} : d.requested o = true ↔ ∃ q ∈ d.requests, q.output = o := by
  simp [DriverUnit.requested]

theorem mem_dropRequest {d : DriverUnit} {q : Request} : q ∈ (d.dropRequest id).requests ↔ q ∈ d.requests ∧ q.duty ≠ id := by
  show q ∈ d.requests.filter _ ↔ _
  simp

theorem mem_enterRequest {d : DriverUnit} {q : Request} :
    q ∈ (d.enterRequest o id).requests ↔ q ∈ d.requests ∨ q = { output := o, duty := id } := by
  show q ∈ d.requests ++ [_] ↔ _
  simp

/-! #### Recycling -/

/-- R163: what the end of an output's attempt or recycle leaves of the Driver Unit. -/
structure Recycling (o : Output) (d e : DriverUnit) : Prop where
  requests : e.requests = d.requests
  bounce   : e.bounce = d.bounce
  outputs  : ∀ k : Output, k ≠ o → e.outputs[k] = d.outputs[k]
  ejects   : ∀ n : Slot, e.ejects[n] = d.ejects[n] ∨ e.ejects[n] = d.ejects[n].map ejectAfterRecycle
  serve    : e.serve = { d.serve with await := e.serve.await }
  scoops   : ∀ (n : Switch) (x : ScoopDuty), d.scoops[n] = some x → x.await = false → e.scoops[n] = some x

theorem recycling_updOutput (d : DriverUnit) (o : Output) (f : OutputRecord → OutputRecord) :
    Recycling o d (d.updOutput o f) where
  requests := rfl
  bounce := rfl
  outputs k hk := by rw [updOutput_get, if_neg hk]
  ejects _ := .inl rfl
  serve := rfl
  scoops _ _ hx _ := hx

theorem leaveRecycle_eject (s : State) (o : Output) (n : Slot) :
    (s.leaveRecycle o).drv.ejects[n] =
      if s.cfg.ejectOutput n = some o then s.drv.ejects[n].map ejectAfterRecycle else s.drv.ejects[n] := vmap_get_fin _ _ n

theorem leaveRecycle_output (s : State) (o : Output) :
    (s.leaveRecycle o).drv.outputs[o] =
      { state := if s.drv.requested o then .queued else .idle, duty := none, attemptOpen := false, due := s.now } :=
  (updOutput_get s.drv o o _).trans (if_pos rfl)

theorem recycling_leaveRecycle (s : State) (o : Output) : Recycling o s.drv (s.leaveRecycle o).drv where
  requests := rfl
  bounce := rfl
  outputs k hk := (updOutput_get s.drv o k _).trans (if_neg hk)
  ejects n := by
    rw [leaveRecycle_eject]
    split
    · exact .inr rfl
    · exact .inl rfl
  serve := by
    show (if s.cfg.serveOutput = some o then { s.drv.serve with await := false } else s.drv.serve) =
      { s.drv.serve with
        await := (if s.cfg.serveOutput = some o then { s.drv.serve with await := false } else s.drv.serve).await }
    split <;> rfl
  scoops n x hx ha := by
    show (vmap _ s.drv.scoops)[n] = _
    rw [vmap_get_fin, hx]
    exact if_neg fun h => by rw [ha] at h; exact Bool.false_ne_true h.2

theorem recycling_enterRecycle (s : State) (o : Output) : Recycling o s.drv (s.enterRecycle o).drv := by
  unfold State.enterRecycle
  split
  · exact recycling_leaveRecycle s o
  · exact recycling_updOutput s.drv o _

theorem recycling_closeAttempt (s : State) (o : Output) : Recycling o s.drv (s.closeAttempt o).drv := by
  unfold State.closeAttempt
  split
  · exact recycling_enterRecycle s o
  · exact recycling_updOutput s.drv o _

/-- R163: a recycling changes the Driver Unit alone. -/
theorem closeAttempt_ctl (s : State) (o : Output) : (s.closeAttempt o).ctl = s.ctl := by
  unfold State.closeAttempt State.enterRecycle
  repeat' split
  all_goals rfl

/-! #### The moves of a derivation -/

/-- R166: the duty is there without its condition, or with the condition of another kind. -/
def State.Ended (s : State) : DutyId → Prop
  | .eject n => s.drv.ejectKind n ≠ s.ejectHolds n
  | .serve => s.serveHolds = false
  | .scoop _ => False

/-- R167, R168, R169: a request of the duty is taken back: the duty has ended, or its channel is not PRESENT. -/
def State.GivesUp (s : State) (id : DutyId) : Prop :=
  s.Ended id ∨ ∃ n, id = .eject n ∧ s.boundState n ≠ some .present

/-- R167, R168: what a derivation leaves of an eject duty whose condition holds. A retry timer restarts only with a channel
that is not PRESENT, and a pulse that is wanted is asked for. -/
structure EjectTended (s : State) (n : Slot) (x y : EjectDuty) : Prop where
  kind  : y.kind = x.kind
  count : y.count = x.count
  phase : y.phase = x.phase
  retry : x.phase = .retrying →
    y.retryDue = x.retryDue ∨ s.boundState n ≠ some .present ∧ y.retryDue = some (s.now + Config.retryTime)
  want  : s.boundState n = some .present → x.want = true → y.want = true ∨ s.drv.hasRequest (.eject n) = true

/-- R170: what a derivation leaves of the serve record while its duty holds. -/
structure ServeTended (s : State) (v w : ServeRecord) : Prop where
  failed : w.failed = v.failed
  retry  : w.retryDue = v.retryDue
  ready  : v.retryReady = true → w.retryReady = true ∨ s.drv.hasRequest .serve = true

/-- R171: what a derivation leaves of a SCOOP_KICK that does not wait for its output. -/
structure ScoopTended (s : State) (n : Switch) (x y : ScoopDuty) : Prop where
  dwell  : y.dwellDue = x.dwellDue
  await  : y.await = x.await
  pulses : y.pulses = x.pulses
  want   : x.want = true → y.want = true ∨ s.drv.hasRequest (.scoop n) = true

/-- R166: the moves of a derivation before its arbiter, each under its condition. -/
inductive DutyMove (t : State) : State → Prop
  | forgetBounce (n : Slot) : t.ejectHolds n ≠ some .bounce →
      DutyMove t (t.updDrv fun d => { d with bounce := vmap (fun k x => if k = n then false else x) d.bounce })
  | drop (id : DutyId) : t.GivesUp id → DutyMove t (t.updDrv fun d => d.dropRequest id)
  | close (o : Output) (id : DutyId) : t.drv.outputs[o].attemptOpen = true → t.drv.outputs[o].duty = some id → t.Ended id →
      DutyMove t (t.closeAttempt o)
  | settle (n : Slot) (x : Option EjectDuty) : t.Ended (.eject n) → DutyMove t (t.updDrv fun d => d.setEject n x)
  | tend (n : Slot) (f : EjectDuty → EjectDuty) : (∀ x, t.drv.ejects[n] = some x → EjectTended t n x (f x)) →
      DutyMove t (t.updDrv fun d => d.updEject n f)
  | serve (f : ServeRecord → ServeRecord) : (t.serveHolds = true → ServeTended t t.drv.serve (f t.drv.serve)) →
      DutyMove t (t.updDrv fun d => d.updServe f)
  | enter (o : Output) (id : DutyId) : t.drv.canRequest t.cfg o = true → DutyMove t (t.updDrv fun d => d.enterRequest o id)
  | asked (n : Switch) : t.drv.hasRequest (.scoop n) = true →
      DutyMove t (t.updDrv fun d => d.updScoop n fun y => { y with want := false })
  | drive (x : Byte) : (t.serveHolds = true → x = t.ctl.faults ||| StationFault.drive.bit) → DutyMove t (t.putFaults x)

/-- A run of moves of a derivation. -/
inductive Derives (s : State) : State → Prop
  | refl : Derives s s
  | tail {t u : State} : Derives s t → DutyMove t u → Derives s u

/-! #### The conditions stand through the moves -/

namespace EjectTended

theorem refl (s : State) (n : Slot) (x : EjectDuty) : EjectTended s n x x := ⟨rfl, rfl, rfl, fun _ => .inl rfl, fun _ => .inl⟩

end EjectTended

theorem DutyMove.kept (h : DutyMove t u) : Kept t u := by
  cases h with
  | close o id _ _ _ => exact kept_closeAttempt t o
  | drive x _ => exact kept_putFaults t x
  | _ => exact kept_updDrv t _

theorem DutyMove.claims (h : DutyMove t u) : ClaimsKept t u := by
  cases h with
  | close o id _ _ _ => exact claims_closeAttempt t o
  | drive x _ => exact claims_putFaults t x
  | _ => exact ⟨rfl⟩

/-- R166: the condition of an eject duty reads the validity, the table, the channel, the latch and its own request. -/
theorem ejectHolds_of_reject (hk : Kept s t) (hc : t.claim.reject[n] = s.claim.reject[n])
    (hb : t.drv.bounce[n] = s.drv.bounce[n]) : t.ejectHolds n = s.ejectHolds n := by
  unfold State.ejectHolds
  rw [hk.boundState, hk.isValid, hk.table, hk.station, hc, hb]

/-- R166: a BOUNCE request that does not stand is forgotten without effect on the duties. -/
theorem ejectHolds_forgetBounce {k : Slot} (h : s.ejectHolds k ≠ some .bounce) (m : Slot) :
    (s.updDrv fun d => { d with bounce := vmap (fun j x => if j = k then false else x) d.bounce }).ejectHolds m
      = s.ejectHolds m := by
  by_cases hm : m = k
  · subst hm
    unfold State.ejectHolds at h ⊢
    split
    · next hst =>
      rw [show s.boundState m = none from hst]
    · next st hst =>
      rw [show s.boundState m = some st from hst] at h ⊢
      dsimp only at h ⊢
      by_cases h1 : s.isValid = true ∧ s.table.slots[m].owner = some s.ctl.station ∧ s.table.slots[m].isLeaving = true
      · rw [if_pos h1]
        exact if_pos h1
      · rw [if_neg h1] at h ⊢
        have h2 : ¬(s.isValid = true ∧ s.drv.bounce[m] = true ∧ s.claim.reject[m] = true ∧ st = .present
            ∧ s.table.slots[m].isLightable = true) := fun h2 => h (if_pos h2)
        rw [if_neg h2]
        refine (if_neg h1).trans (if_neg ?_)
        rintro ⟨-, hb, -⟩
        have hb : (vmap (fun j x => if j = m then false else x) s.drv.bounce)[m] = true := hb
        rw [vmap_get_fin, if_pos rfl] at hb
        cases hb
  · refine ejectHolds_of_reject (kept_updDrv s _) rfl ?_
    show (vmap _ s.drv.bounce)[m] = _
    rw [vmap_get_fin, if_neg hm]

theorem DutyMove.holds (h : DutyMove t u) (m : Slot) : u.ejectHolds m = t.ejectHolds m := by
  have hk := h.kept
  have hc := h.claims
  cases h with
  | forgetBounce n hb => exact ejectHolds_forgetBounce hb m
  | close o id _ _ _ => exact ejectHolds_congr hk hc (by rw [(recycling_closeAttempt t o).bounce])
  | drive x _ => exact ejectHolds_congr hk hc (by rw [(stand_putFaults t x).bounce])
  | _ => exact ejectHolds_congr hk hc rfl

theorem serveHolds_of_kept (h : Kept s t) : t.serveHolds = s.serveHolds := by
  unfold State.serveHolds
  rw [h.isValid, h.table, h.station]

/-- R166: the kind of a slot's eject duty changes only in a settling of a duty that has ended. -/
theorem DutyMove.ejectKind (h : DutyMove t u) (he : ¬t.Ended (.eject n)) : u.drv.ejectKind n = t.drv.ejectKind n := by
  cases h with
  | close o id _ _ _ => exact (stand_closeAttempt t o).kinds n
  | settle k x hk =>
    rw [setEject_kind]
    exact if_neg fun heq : n = k => he (heq ▸ hk)
  | tend k f hf =>
    unfold DriverUnit.ejectKind
    show ((t.drv.updEject k f).ejects[n]).map _ = _
    rw [updEject_get]
    split
    · next hk =>
      subst hk
      cases hx : t.drv.ejects[n] with
      | none => rfl
      | some x => exact congrArg some (hf x hx).kind
    · rfl
  | drive x _ => exact (stand_putFaults t x).kinds n
  | _ => rfl

theorem DutyMove.not_ended (h : DutyMove t u) (he : ¬t.Ended id) : ¬u.Ended id := by
  cases id with
  | eject n =>
    show ¬u.drv.ejectKind n ≠ u.ejectHolds n
    rw [h.ejectKind he, h.holds]
    exact he
  | serve =>
    show ¬u.serveHolds = false
    rw [serveHolds_of_kept h.kept]
    exact he
  | scoop n => exact id

theorem DutyMove.not_givesUp (h : DutyMove t u) (hg : ¬t.GivesUp id) : ¬u.GivesUp id := by
  rintro (he | ⟨n, hid, hb⟩)
  · exact h.not_ended (fun he => hg (.inl he)) he
  · rw [h.kept.boundState] at hb
    exact hg (.inr ⟨n, hid, hb⟩)

/-! #### One move: a record that stands -/

/-- The fault set's moves leave the Driver Unit. -/
theorem putFaults_drv (s : State) (x : Byte) : (s.putFaults x).drv = s.drv := by
  rw [putFaults_eq]

/-- R163: a pulse, a verification and a recycle run on through the moves, unless the attempt's duty has ended. -/
theorem DutyMove.output (h : DutyMove t u) (hi : t.drv.outputs[o].state ≠ .idle) (hq : t.drv.outputs[o].state ≠ .queued)
    (he : ∀ id, t.drv.outputs[o].attemptOpen = true → t.drv.outputs[o].duty = some id → ¬t.Ended id) :
    u.drv.outputs[o] = t.drv.outputs[o] := by
  cases h with
  | close k id ha hd hend =>
    refine (recycling_closeAttempt t k).outputs o fun hk => ?_
    subst hk
    exact he id ha hd hend
  | drop id _ => exact (dropRequest_output t.drv id o).trans (if_neg fun h => hq h.1)
  | enter k id _ => exact (enterRequest_output t.drv k o id).trans (if_neg fun h => hi h.2)
  | drive x _ => rw [putFaults_drv]
  | _ => rfl

/-- R164: a request stands, but for one that is given up. -/
theorem DutyMove.request (h : DutyMove t u) {q : Request} (hq : q ∈ t.drv.requests) (hg : ¬t.GivesUp q.duty) :
    q ∈ u.drv.requests := by
  cases h with
  | close k id _ _ _ =>
    rw [(recycling_closeAttempt t k).requests]
    exact hq
  | drop id hid => exact mem_dropRequest.2 ⟨hq, fun h => hg (h ▸ hid)⟩
  | enter k id _ => exact mem_enterRequest.2 (.inl hq)
  | drive x _ =>
    rw [putFaults_drv]
    exact hq
  | _ => exact hq

theorem DutyMove.hasRequest (h : DutyMove t u) (hg : ¬t.GivesUp id) (hr : t.drv.hasRequest id = true) :
    u.drv.hasRequest id = true := by
  obtain ⟨q, hq, rfl⟩ := hasRequest_iff.1 hr
  exact hasRequest_iff.2 ⟨q, h.request hq hg, rfl⟩

/-- R163: an output past its recycle has no attempt and is IDLE or QUEUED. -/
def AtRest (r : OutputRecord) : Prop := r.attemptOpen = false ∧ (r.state = .idle ∨ r.state = .queued)

theorem DutyMove.atRest (h : DutyMove t u) (hr : AtRest t.drv.outputs[o]) : AtRest u.drv.outputs[o] := by
  obtain ⟨ha, hst⟩ := hr
  cases h with
  | close k id hopen _ _ =>
    rw [(recycling_closeAttempt t k).outputs o fun hk => by subst hk; rw [ha] at hopen; cases hopen]
    exact ⟨ha, hst⟩
  | drop id _ =>
    show AtRest (t.drv.dropRequest id).outputs[o]
    rw [dropRequest_output]
    split
    · exact ⟨ha, .inl rfl⟩
    · exact ⟨ha, hst⟩
  | enter k id _ =>
    show AtRest (t.drv.enterRequest k id).outputs[o]
    rw [enterRequest_output]
    split
    · exact ⟨ha, .inr rfl⟩
    · exact ⟨ha, hst⟩
  | drive x _ =>
    rw [putFaults_drv]
    exact ⟨ha, hst⟩
  | _ => exact ⟨ha, hst⟩

/-- R163, R164: an output past its recycle is QUEUED with its one request, or IDLE with none. -/
structure Placed (d : DriverUnit) (o : Output) : Prop where
  nodup  : (d.requests.map Request.output).Nodup
  closed : d.outputs[o].attemptOpen = false
  place  : d.outputs[o].state = .idle ∧ (∀ q ∈ d.requests, q.output ≠ o)
    ∨ d.outputs[o].state = .queued ∧ ∃ q ∈ d.requests, q.output = o

theorem placed_dropRequest {d : DriverUnit} (h : Placed d o) (id : DutyId) : Placed (d.dropRequest id) o := by
  have hnodup : ((d.dropRequest id).requests.map Request.output).Nodup :=
    h.nodup.sublist (List.filter_sublist.map _)
  have hout := dropRequest_output d id o
  rcases h.place with ⟨hi, hno⟩ | ⟨hq, q, hmem, ho⟩
  · rw [if_neg fun h => by rw [hi] at h; cases h.1] at hout
    refine ⟨hnodup, ?_, .inl ⟨?_, fun q hq => hno q (mem_dropRequest.1 hq).1⟩⟩ <;> rw [hout]
    · exact h.closed
    · exact hi
  · have hone : ∀ p ∈ d.requests, p.output = o → p = q := fun p hp hpo =>
      List.inj_on_of_nodup_map h.nodup hp hmem (hpo.trans ho.symm)
    by_cases hid : q.duty = id
    · have hany : (d.requests.any fun p => p.output == o && p.duty == id) = true :=
        List.any_eq_true.2 ⟨q, hmem, by simp [ho, hid]⟩
      rw [if_pos ⟨hq, hany⟩] at hout
      refine ⟨hnodup, ?_, .inl ⟨?_, fun p hp hpo => ?_⟩⟩
      · rw [hout]
        exact h.closed
      · rw [hout]
      · obtain ⟨hp, hne⟩ := mem_dropRequest.1 hp
        exact hne (hone p hp hpo ▸ hid)
    · have hany : ¬(d.requests.any fun p => p.output == o && p.duty == id) = true := fun hany => by
        obtain ⟨p, hp, hpe⟩ := List.any_eq_true.1 hany
        simp only [Bool.and_eq_true, beq_iff_eq] at hpe
        exact hid (hone p hp hpe.1 ▸ hpe.2)
      rw [if_neg fun h => hany h.2] at hout
      refine ⟨hnodup, ?_, .inr ⟨?_, q, mem_dropRequest.2 ⟨hmem, hid⟩, ho⟩⟩ <;> rw [hout]
      · exact h.closed
      · exact hq

theorem placed_enterRequest {d : DriverUnit} {c : StationConfig} {k : Output} (h : Placed d o) (id : DutyId)
    (hc : d.canRequest c k = true) : Placed (d.enterRequest k id) o := by
  have hnodup := nodup_enterRequest id hc h.nodup
  have hout := enterRequest_output d k o id
  by_cases hk : o = k
  · have hno : ¬∃ q ∈ d.requests, q.output = k := fun hq => by
      have := requested_iff.2 hq
      simp [DriverUnit.canRequest, this] at hc
    have hidle : d.outputs[o].state = .idle := h.place.elim And.left fun hq => absurd (hk ▸ hq.2) hno
    rw [if_pos ⟨hk, hidle⟩] at hout
    refine ⟨hnodup, ?_, .inr ⟨?_, _, mem_enterRequest.2 (.inr rfl), hk.symm⟩⟩ <;> rw [hout]
    exact h.closed
  · rw [if_neg fun h => hk h.1] at hout
    refine ⟨hnodup, by rw [hout]; exact h.closed, ?_⟩
    rw [hout]
    refine h.place.imp (And.imp_right fun hno q hq => ?_) (And.imp_right fun ⟨q, hq, ho⟩ => ⟨q, mem_enterRequest.2 (.inl hq), ho⟩)
    rcases mem_enterRequest.1 hq with hq | rfl
    · exact hno q hq
    · exact Ne.symm hk

theorem DutyMove.placed (h : DutyMove t u) (hp : Placed t.drv o) : Placed u.drv o := by
  cases h with
  | close k id hopen _ _ =>
    have hr := recycling_closeAttempt t k
    have ho := hr.outputs o fun hk => by subst hk; rw [hp.closed] at hopen; cases hopen
    refine ⟨by rw [hr.requests]; exact hp.nodup, by rw [ho]; exact hp.closed, ?_⟩
    rw [ho, hr.requests]
    exact hp.place
  | drop id _ => exact placed_dropRequest hp id
  | enter k id hc => exact placed_enterRequest hp id hc
  | drive x _ =>
    rw [putFaults_drv]
    exact hp
  | _ => exact ⟨hp.nodup, hp.closed, hp.place⟩

/-! #### One move: a duty that stands -/

theorem ejectTended_afterRecycle (s : State) (n : Slot) (x : EjectDuty) : EjectTended s n x (ejectAfterRecycle x) :=
  ⟨rfl, rfl, rfl, fun _ => .inl rfl, fun _ hw => .inl (by simp [ejectAfterRecycle, hw])⟩

/-- What an eject duty is behind one output's recycling. -/
theorem Recycling.eject {d e : DriverUnit} (h : Recycling o d e) (s : State) {x : EjectDuty} (hx : d.ejects[n] = some x) :
    ∃ y, e.ejects[n] = some y ∧ EjectTended s n x y := by
  rcases h.ejects n with he | he
  · exact ⟨x, he.trans hx, .refl s n x⟩
  · exact ⟨_, he.trans (by rw [hx]; rfl), ejectTended_afterRecycle s n x⟩

theorem DutyMove.eject (h : DutyMove t u) (he : ¬t.Ended (.eject n)) {x : EjectDuty} (hx : t.drv.ejects[n] = some x) :
    ∃ y, u.drv.ejects[n] = some y ∧ EjectTended u n x y := by
  cases h with
  | close k id _ _ _ => exact (recycling_closeAttempt t k).eject _ hx
  | settle k y hk =>
    refine ⟨x, ?_, .refl _ n x⟩
    show (t.drv.setEject k y).ejects[n] = _
    rw [setEject_get, if_neg fun heq : n = k => he (heq ▸ hk), hx]
  | tend k f hf =>
    by_cases hk : n = k
    · subst hk
      have hf := hf x hx
      refine ⟨f x, ?_, hf.kind, hf.count, hf.phase, hf.retry, hf.want⟩
      show (t.drv.updEject n f).ejects[n] = _
      rw [updEject_get, if_pos rfl, hx]
      rfl
    · refine ⟨x, ?_, .refl _ n x⟩
      show (t.drv.updEject k f).ejects[n] = _
      rw [updEject_get, if_neg hk, hx]
  | drive v _ => exact ⟨x, by rw [putFaults_drv, hx], .refl _ n x⟩
  | _ => exact ⟨x, hx, .refl _ n x⟩

theorem serveTended_refl (s : State) (v : ServeRecord) : ServeTended s v v := ⟨rfl, rfl, .inl⟩

theorem DutyMove.serveRecord (h : DutyMove t u) (hs : t.serveHolds = true) : ServeTended u t.drv.serve u.drv.serve := by
  cases h with
  | close k id _ _ _ =>
    rw [(recycling_closeAttempt t k).serve]
    exact ⟨rfl, rfl, .inl⟩
  | serve f hf =>
    have hf := hf hs
    exact ⟨hf.failed, hf.retry, hf.ready⟩
  | drive x _ =>
    rw [putFaults_drv]
    exact serveTended_refl _ _
  | _ => exact serveTended_refl _ _

theorem scoopTended_refl (s : State) (n : Switch) (x : ScoopDuty) : ScoopTended s n x x := ⟨rfl, rfl, rfl, .inl⟩

theorem DutyMove.scoop (h : DutyMove t u) {n : Switch} {x : ScoopDuty} (hx : t.drv.scoops[n] = some x)
    (ha : x.await = false) : ∃ y, u.drv.scoops[n] = some y ∧ ScoopTended u n x y := by
  cases h with
  | close k id _ _ _ => exact ⟨x, (recycling_closeAttempt t k).scoops n x hx ha, scoopTended_refl _ n x⟩
  | asked k hr =>
    by_cases hk : n = k
    · subst hk
      refine ⟨{ x with want := false }, ?_, rfl, rfl, rfl, fun _ => .inr hr⟩
      show (t.drv.updScoop n _).scoops[n] = _
      rw [updScoop_get, if_pos rfl, hx]
      rfl
    · refine ⟨x, ?_, scoopTended_refl _ n x⟩
      show (t.drv.updScoop k _).scoops[n] = _
      rw [updScoop_get, if_neg hk, hx]
  | drive v _ => exact ⟨x, by rw [putFaults_drv, hx], scoopTended_refl _ n x⟩
  | _ => exact ⟨x, hx, scoopTended_refl _ n x⟩

/-- R170: DRIVE stands while the SERVE duty holds. -/
theorem DutyMove.driveFault (h : DutyMove t u) (hs : t.serveHolds = true) (hd : t.hasFault .drive = true) :
    u.hasFault .drive = true := by
  cases h with
  | close k id _ _ _ =>
    unfold State.hasFault
    rw [closeAttempt_ctl]
    exact hd
  | drive x hx =>
    rw [hx hs]
    exact hasFault_setFault t .drive
  | _ => exact hd

end Derivation

end Sys2Proof.Machine

namespace Sys2Proof.Machine

/-! ### A derivation is a run of moves and the arbiter (R165, R166) -/

section DerivationRuns

variable {s t u : State} {n : Slot} {o : Output} {id : DutyId}

namespace Derives

theorem one (h : DutyMove s t) : Derives s t := .tail .refl h

theorem trans (h : Derives s t) (g : Derives t u) : Derives s u := by
  induction g with
  | refl => exact h
  | tail _ hm ih => exact .tail ih hm

theorem ite {p : Prop} [Decidable p] (h : p → Derives s t) (g : ¬p → Derives s u) : Derives s (if p then t else u) := by
  split
  · next hp => exact h hp
  · next hp => exact g hp

theorem foldl {α : Type} {f : State → α → State} (hf : ∀ s a, Derives s (f s a)) (l : List α) (s : State) :
    Derives s (l.foldl f s) := by
  induction l generalizing s with
  | nil => exact .refl
  | cons a l ih => exact (hf s a).trans (ih (f s a))

theorem kept (h : Derives s t) : Kept s t := by
  induction h with
  | refl => exact .refl s
  | tail _ hm ih => exact ih.trans hm.kept

theorem not_ended (h : Derives s t) (he : ¬s.Ended id) : ¬t.Ended id := by
  induction h with
  | refl => exact he
  | tail _ hm ih => exact hm.not_ended ih

theorem not_givesUp (h : Derives s t) (hg : ¬s.GivesUp id) : ¬t.GivesUp id := by
  induction h with
  | refl => exact hg
  | tail _ hm ih => exact hm.not_givesUp ih

/-- R163: a pulse, a verification and a recycle run on through a derivation, unless the attempt's duty has ended. -/
theorem output (h : Derives s t) (hi : s.drv.outputs[o].state ≠ .idle) (hq : s.drv.outputs[o].state ≠ .queued)
    (he : ∀ id, s.drv.outputs[o].attemptOpen = true → s.drv.outputs[o].duty = some id → ¬s.Ended id) :
    t.drv.outputs[o] = s.drv.outputs[o] := by
  induction h with
  | refl => rfl
  | tail hd hm ih =>
    refine (hm.output ?_ ?_ ?_).trans ih
    · rwa [ih]
    · rwa [ih]
    · rw [ih]
      exact fun id ha hid => not_ended hd (he id ha hid)

theorem request (h : Derives s t) {q : Request} (hq : q ∈ s.drv.requests) (hg : ¬s.GivesUp q.duty) :
    q ∈ t.drv.requests := by
  induction h with
  | refl => exact hq
  | tail hd hm ih => exact hm.request ih (hd.not_givesUp hg)

theorem atRest (h : Derives s t) (hr : AtRest s.drv.outputs[o]) : AtRest t.drv.outputs[o] := by
  induction h with
  | refl => exact hr
  | tail _ hm ih => exact hm.atRest ih

theorem placed (h : Derives s t) (hp : Placed s.drv o) : Placed t.drv o := by
  induction h with
  | refl => exact hp
  | tail _ hm ih => exact hm.placed ih

/-- R166: an eject duty whose condition holds and a channel that is PRESENT keep its request. -/
theorem not_givesUp_eject (he : ¬s.Ended (.eject n)) (hb : s.boundState n = some .present) : ¬s.GivesUp (.eject n) := by
  rintro (h | ⟨m, hm, hne⟩)
  · exact he h
  · cases hm
    exact hne hb

theorem eject (h : Derives s t) (he : ¬s.Ended (.eject n)) {x : EjectDuty} (hx : s.drv.ejects[n] = some x) :
    ∃ y, t.drv.ejects[n] = some y ∧ EjectTended t n x y := by
  induction h with
  | refl => exact ⟨x, hx, .refl s n x⟩
  | @tail t u hd hm ih =>
    obtain ⟨y, hy, hxy⟩ := ih
    obtain ⟨z, hz, hyz⟩ := hm.eject (hd.not_ended he) hy
    refine ⟨z, hz, hyz.kind.trans hxy.kind, hyz.count.trans hxy.count, hyz.phase.trans hxy.phase, fun hr => ?_,
      fun hb hw => ?_⟩
    · refine (hyz.retry (hxy.phase.trans hr)).elim (fun heq => ?_) .inr
      rw [heq, hm.kept.boundState, hm.kept.now]
      exact hxy.retry hr
    · have hbt : t.boundState n = some .present := (hm.kept.boundState n).symm.trans hb
      refine (hxy.want hbt hw).elim (hyz.want hb) fun hreq => .inr ?_
      exact hm.hasRequest (not_givesUp_eject (hd.not_ended he) hbt) hreq

theorem serveRecord (h : Derives s t) (hs : s.serveHolds = true) : ServeTended t s.drv.serve t.drv.serve := by
  induction h with
  | refl => exact serveTended_refl _ _
  | @tail t u hd hm ih =>
    have hst : t.serveHolds = true := (serveHolds_of_kept hd.kept).trans hs
    have htu := hm.serveRecord hst
    have hg : ¬t.GivesUp .serve := by
      rintro (h | ⟨m, hm, -⟩)
      · exact Bool.false_ne_true (h.symm.trans hst)
      · cases hm
    exact ⟨htu.failed.trans ih.failed, htu.retry.trans ih.retry,
      fun hr => (ih.ready hr).elim htu.ready fun hreq => .inr (hm.hasRequest hg hreq)⟩

theorem not_givesUp_scoop (s : State) (n : Switch) : ¬s.GivesUp (.scoop n) := by
  rintro (h | ⟨m, hm, -⟩)
  · exact h
  · cases hm

theorem scoop (h : Derives s t) {n : Switch} {x : ScoopDuty} (hx : s.drv.scoops[n] = some x) (ha : x.await = false) :
    ∃ y, t.drv.scoops[n] = some y ∧ ScoopTended t n x y := by
  induction h with
  | refl => exact ⟨x, hx, scoopTended_refl s n x⟩
  | @tail t u hd hm ih =>
    obtain ⟨y, hy, hxy⟩ := ih
    obtain ⟨z, hz, hyz⟩ := hm.scoop hy (hxy.await.trans ha)
    exact ⟨z, hz, hyz.dwell.trans hxy.dwell, hyz.await.trans hxy.await, hyz.pulses.trans hxy.pulses,
      fun hw => (hxy.want hw).elim hyz.want fun hreq => .inr (hm.hasRequest (not_givesUp_scoop t n) hreq)⟩

theorem driveFault (h : Derives s t) (hs : s.serveHolds = true) (hd : s.hasFault .drive = true) :
    t.hasFault .drive = true := by
  induction h with
  | refl => exact hd
  | tail hd hm ih => exact hm.driveFault ((serveHolds_of_kept hd.kept).trans hs) ih

end Derives

/-! #### The parts of a derivation -/

theorem ended_of_stand (hk : Kept s t) (hc : ClaimsKept s t) (hs : KindsStand s t) (he : s.Ended id) : t.Ended id := by
  cases id with
  | eject n =>
    show t.drv.ejectKind n ≠ t.ejectHolds n
    rw [hs.kinds, ejectHolds_congr hk hc (by rw [hs.bounce])]
    exact he
  | serve => exact (serveHolds_of_kept hk).trans he
  | scoop n => exact he

theorem derives_closeAttempts (l : List Output) (he : s.Ended id) :
    Derives s (l.foldl (fun s o =>
      if s.drv.outputs[o].attemptOpen ∧ s.drv.outputs[o].duty = some id then s.closeAttempt o else s) s) := by
  induction l generalizing s with
  | nil => exact .refl
  | cons o l ih =>
    rw [List.foldl_cons]
    split
    · next h =>
      exact (Derives.one (.close o id h.1 h.2 he)).trans
        (ih (ended_of_stand (kept_closeAttempt s o) (claims_closeAttempt s o) (stand_closeAttempt s o) he))
    · exact ih he

theorem derives_endDuty (he : s.Ended id) : Derives s (s.endDuty id) :=
  (Derives.one (.drop id (.inl he))).trans
    (derives_closeAttempts (indices 8)
      (ended_of_stand (kept_updDrv s fun d => d.dropRequest id) ⟨rfl⟩ (stand_dropRequest s id) he))

theorem derives_settleBounce (s : State) (n : Slot) : Derives s (s.settleBounce n) :=
  Derives.ite (fun _ => .refl) fun h => .one (.forgetBounce n h)

theorem derives_settleEject (s : State) (n : Slot) : Derives s (s.settleEject n) := by
  have h0 := derives_settleBounce s n
  unfold State.settleEject
  refine Derives.ite (fun _ => h0) fun hne => h0.trans ?_
  have he : (s.settleBounce n).Ended (.eject n) := by
    show (s.settleBounce n).drv.ejectKind n ≠ (s.settleBounce n).ejectHolds n
    have hk : (s.settleBounce n).drv.ejectKind n = s.drv.ejectKind n := by
      unfold DriverUnit.ejectKind
      rw [(settleBounce_drv s n).1]
    have hh : (s.settleBounce n).ejectHolds n = s.ejectHolds n := by
      unfold State.settleBounce
      split
      · rfl
      · next h => exact ejectHolds_forgetBounce h n
    rw [hk, hh]
    exact hne
  by_cases hx : s.drv.ejects[n].isSome = true
  · rw [if_pos hx]
    refine (derives_endDuty he).trans (.one (.settle n _ ?_))
    exact ended_of_stand (kept_endDuty _ _) (claims_endDuty _ _) (stand_endDuty _ _) he
  · rw [if_neg hx]
    exact .one (.settle n _ he)

/-- R167, R168: the timers of a duty, and a pulse that is given up with the channel. -/
theorem derives_tendEject (s : State) (n : Slot) : Derives s (s.tendEject n) := by
  have hdrop : Derives s (if s.boundState n = some .present then s else s.updDrv fun d => d.dropRequest (.eject n)) :=
    Derives.ite (fun _ => .refl) fun hb => .one (.drop _ (.inr ⟨n, rfl, hb⟩))
  have hejects : (if s.boundState n = some .present then s else s.updDrv fun d => d.dropRequest (.eject n)).drv.ejects
      = s.drv.ejects := by
    split <;> rfl
  have hk := hdrop.kept
  unfold State.tendEject
  split
  · next x o hx _ =>
    dsimp only
    generalize (if s.boundState n = some .present then s else s.updDrv fun d => d.dropRequest (.eject n)) = s1
      at hdrop hejects hk
    split
    · next hph =>
      refine hdrop.trans (.one (.tend n _ fun y hy => ?_))
      rw [hejects, hx] at hy
      cases hy
      exact ⟨rfl, rfl, rfl, fun hr => absurd (hph.symm.trans hr) (by nofun), fun _ => .inl⟩
    · refine Derives.ite (fun hl => hdrop.trans (.one (.tend n _ fun y hy => ?_))) fun _ => hdrop
      have hb : s1.boundState n ≠ some .present := by
        rw [hk.boundState]
        simp only [Bool.and_eq_true, bne_iff_ne] at hl
        exact hl.1
      refine ⟨rfl, rfl, rfl, fun _ => .inr ⟨hb, ?_⟩, fun hp => absurd hp hb⟩
      rw [hk.now]
  · exact .refl

theorem derives_askEject (s : State) (n : Slot) : Derives s (s.askEject n) := by
  unfold State.askEject
  split
  · next x o hx _ =>
    refine Derives.ite (fun h => ?_) fun _ => .refl
    obtain ⟨-, -, -, -, hcan⟩ := h
    refine (Derives.one (.enter o (.eject n) hcan)).trans (.one (.tend n (fun y => { y with want := false }) fun y _ => ?_))
    exact ⟨rfl, rfl, rfl, fun _ => .inl rfl, fun _ _ => .inr (hasRequest_iff.2 ⟨_, mem_enterRequest.2 (.inr rfl), rfl⟩)⟩
  · exact .refl

theorem derives_askServe (s : State) : Derives s s.askServe := by
  unfold State.askServe
  split
  · exact .refl
  · next o _ =>
    refine Derives.ite (fun h => ?_) fun _ => .refl
    obtain ⟨-, -, -, -, -, -, hcan⟩ := h
    refine (Derives.one (.enter o .serve hcan)).trans (.one (.serve (fun v => { v with retryReady := false }) fun _ => ?_))
    exact ⟨rfl, rfl, fun _ => .inr (hasRequest_iff.2 ⟨_, mem_enterRequest.2 (.inr rfl), rfl⟩)⟩

theorem derives_askScoop (s : State) (n : Switch) : Derives s (s.askScoop n) := by
  unfold State.askScoop
  split
  · next x hx =>
    refine Derives.ite (fun h => ?_) fun _ => .refl
    obtain ⟨-, hcan⟩ := h
    exact (Derives.one (.enter x.driver (.scoop n) hcan)).trans
      (.one (.asked n (hasRequest_iff.2 ⟨_, mem_enterRequest.2 (.inr rfl), rfl⟩)))
  · exact .refl

theorem derives_launchesJudged (s : State) : Derives s s.launchesJudged :=
  Derives.ite (fun _ => .refl) fun _ => .one (.serve _ fun _ => ⟨rfl, rfl, .inl⟩)

theorem derives_settleServe (s : State) : Derives s s.settleServe := by
  have h1 := derives_launchesJudged s
  have hs : s.launchesJudged.serveHolds = s.serveHolds := serveHolds_of_kept h1.kept
  rw [settleServe_eq]
  refine h1.trans ?_
  unfold State.serveSettled
  generalize s.launchesJudged = u at hs
  refine Derives.ite (fun _ => ?_) fun hn => Derives.ite (fun _ => ?_) fun _ => .refl
  · have h2 : Derives u (u.updDrv fun d => d.updServe fun v => { v with holds := true }) :=
      .one (.serve _ fun _ => ⟨rfl, rfl, .inl⟩)
    exact Derives.ite (fun _ => h2.trans (.one (.drive _ fun _ => rfl))) fun _ => h2
  · have he : u.Ended .serve := hs.trans (Bool.not_eq_true _ ▸ hn)
    have h2 := derives_endDuty he
    have hno : (u.endDuty .serve).serveHolds = false := (serveHolds_of_kept h2.kept).trans he
    generalize u.endDuty .serve = w at h2 hno
    have h3 := h2.trans (.one (.serve (fun v =>
      { v with holds := false, failed := 0, retryDue := none, retryReady := false, await := false })
      fun hs => absurd (hno.symm.trans hs) Bool.false_ne_true))
    exact Derives.ite (fun _ => h3.trans (.one (.drive _ fun hs => absurd (hno.symm.trans hs) Bool.false_ne_true)))
      fun _ => h3

/-- R166: the derivation before its arbiter. -/
def State.dutiesAsked (s : State) : State :=
  (indices 32).foldl State.askScoop
    ((indices 8).foldl State.askEject ((indices 8).foldl State.tendEject
      ((indices 8).foldl State.settleEject s).settleServe)).askServe

theorem deriveDuties_eq (s : State) : s.deriveDuties = s.dutiesAsked.arbiter := by
  unfold State.deriveDuties State.dutiesAsked
  rfl

theorem derives_dutiesAsked (s : State) : Derives s s.dutiesAsked :=
  (((((Derives.foldl derives_settleEject (indices 8) s).trans (derives_settleServe _)).trans
    (Derives.foldl derives_tendEject (indices 8) _)).trans (Derives.foldl derives_askEject (indices 8) _)).trans
    (derives_askServe _)).trans (Derives.foldl derives_askScoop (indices 32) _)

/-! #### The arbiter (R165) -/

/-- R163, R165: the record of an output whose request is granted. -/
def pulseOf (c : StationConfig) (now : Nat) (r : Request) : OutputRecord :=
  { state := .pulse, duty := some r.duty, attemptOpen := true, due := now + c.outputs[r.output].pulse * Config.ms }

section Walk

variable (c : StationConfig) (now : Nat)

theorem grant_output (d : DriverUnit) (r : Request) (o : Output) :
    (d.grant c now r).outputs[o] = if o = r.output then pulseOf c now r else d.outputs[o] := by
  unfold DriverUnit.grant
  dsimp only
  split <;> exact updOutput_get d r.output o _

/-- R165: a pulse raises the SCOOP_KICK's count. -/
theorem grant_scoop (d : DriverUnit) (r : Request) (n : Switch) :
    (d.grant c now r).scoops[n] =
      if r.duty = .scoop n then d.scoops[n].map fun x => { x with pulses := x.pulses + 1 } else d.scoops[n] := by
  unfold DriverUnit.grant
  dsimp only
  split
  · next k hk =>
    rw [hk]
    refine (updScoop_get _ k n _).trans ?_
    by_cases h : n = k
    · rw [if_pos h, if_pos (h ▸ rfl)]
      rfl
    · rw [if_neg h, if_neg fun he => h (DutyId.scoop.inj he).symm]
      rfl
  · next hk => rw [hk, if_neg nofun]; rfl
  · next hk => rw [hk, if_neg nofun]; rfl

theorem queued_of_grantable {d : DriverUnit} (h : d.grantable c o = true) : d.outputs[o].state = .queued := by
  simp only [DriverUnit.grantable, Bool.and_eq_true, beq_iff_eq] at h
  exact h.1.1

/-- R165: the arbiter changes the record of a QUEUED output alone, to the pulse of a request for it. -/
theorem walk_output (rest kept : List Request) (d : DriverUnit) (o : Output) :
    (DriverUnit.walk c now kept rest d).outputs[o] = d.outputs[o]
      ∨ d.outputs[o].state = .queued
        ∧ ∃ r ∈ rest, r.output = o ∧ (DriverUnit.walk c now kept rest d).outputs[o] = pulseOf c now r := by
  induction rest generalizing kept d with
  | nil => exact .inl rfl
  | cons r rest ih =>
    unfold DriverUnit.walk
    split
    · next hg =>
      have hq := queued_of_grantable c hg
      have hout := grant_output c now d r o
      by_cases ho : o = r.output
      · subst ho
        rw [if_pos rfl] at hout
        refine .inr ⟨hq, r, List.mem_cons_self, rfl, ?_⟩
        refine ((ih kept (d.grant c now r)).resolve_right fun h => ?_).trans hout
        rw [hout] at h
        cases h.1
      · rw [if_neg ho] at hout
        rw [← hout]
        exact (ih kept (d.grant c now r)).imp_right (And.imp_right fun ⟨p, hp, h⟩ => ⟨p, List.mem_cons_of_mem _ hp, h⟩)
    · exact (ih _ d).imp_right (And.imp_right fun ⟨p, hp, h⟩ => ⟨p, List.mem_cons_of_mem _ hp, h⟩)

/-- R165: a request waits on or is granted. -/
theorem walk_request {rest kept : List Request} {d : DriverUnit} {q : Request} (hq : q ∈ kept ++ rest) :
    q ∈ (DriverUnit.walk c now kept rest d).requests
      ∨ (DriverUnit.walk c now kept rest d).outputs[q.output] = pulseOf c now q := by
  induction rest generalizing kept d with
  | nil => exact .inl (by rwa [List.append_nil] at hq)
  | cons r rest ih =>
    unfold DriverUnit.walk
    split
    · rcases List.mem_append.1 hq with hk | hr
      · exact ih (List.mem_append_left _ hk)
      · rcases List.mem_cons.1 hr with rfl | hr
        · have hout := (grant_output c now d q q.output).trans (if_pos rfl)
          refine .inr (((walk_output c now rest kept (d.grant c now q) q.output).resolve_right fun h => ?_).trans hout)
          rw [hout] at h
          cases h.1
        · exact ih (List.mem_append_right _ hr)
    · exact ih (by rwa [List.append_assoc])

/-- R165, R171: the pulses of a SCOOP_KICK only rise, and its request waits on or its pulse has been granted. -/
theorem walk_scoop {rest kept : List Request} {d : DriverUnit} {n : Switch} {x : ScoopDuty} (hx : d.scoops[n] = some x) :
    ∃ y, (DriverUnit.walk c now kept rest d).scoops[n] = some y ∧ y.want = x.want ∧ y.dwellDue = x.dwellDue
      ∧ x.pulses ≤ y.pulses
      ∧ ∀ q ∈ kept ++ rest, q.duty = .scoop n →
          q ∈ (DriverUnit.walk c now kept rest d).requests ∨ x.pulses < y.pulses := by
  induction rest generalizing kept d x with
  | nil => exact ⟨x, hx, rfl, rfl, le_refl _, fun q hq _ => .inl (by rwa [List.append_nil] at hq)⟩
  | cons r rest ih =>
    unfold DriverUnit.walk
    split
    · have hsc := grant_scoop c now d r n
      by_cases hr : r.duty = .scoop n
      · rw [if_pos hr, hx] at hsc
        obtain ⟨y, hy, hw, hd, hle, -⟩ := ih (kept := kept) hsc
        have hlt : x.pulses < y.pulses := Nat.lt_of_succ_le hle
        exact ⟨y, hy, hw, hd, hlt.le, fun _ _ _ => .inr hlt⟩
      · rw [if_neg hr, hx] at hsc
        obtain ⟨y, hy, hw, hd, hle, hreq⟩ := ih (kept := kept) hsc
        refine ⟨y, hy, hw, hd, hle, fun q hq hqd => hreq q ?_ hqd⟩
        rcases List.mem_append.1 hq with hk | hq
        · exact List.mem_append_left _ hk
        · exact List.mem_append_right _ ((List.mem_cons.1 hq).resolve_left fun h => hr (h ▸ hqd))
    · obtain ⟨y, hy, hw, hd, hle, hreq⟩ := ih (kept := kept ++ [r]) hx
      exact ⟨y, hy, hw, hd, hle, fun q hq => hreq q (by rwa [List.append_assoc])⟩

end Walk

theorem hasOpenAttempt_of_output {d : DriverUnit} (ha : d.outputs[o].attemptOpen = true) (hd : d.outputs[o].duty = some id) :
    d.hasOpenAttempt id = true := by
  unfold DriverUnit.hasOpenAttempt
  refine List.any_eq_true.2 ⟨d.outputs[o], Vector.mem_toList_iff.2 (Vector.getElem_mem o.isLt), ?_⟩
  rw [ha, hd, Bool.true_and, beq_self_eq_true]

/-- R165: the request of a duty waits on behind the arbiter, or its attempt is open. -/
theorem arbiter_asked (h : s.drv.hasRequest id = true) :
    s.arbiter.drv.hasRequest id = true ∨ s.arbiter.drv.hasOpenAttempt id = true := by
  obtain ⟨q, hq, rfl⟩ := hasRequest_iff.1 h
  refine (walk_request s.cfg s.now (kept := []) (d := s.drv) hq).imp (fun h => hasRequest_iff.2 ⟨q, h, rfl⟩) fun h => ?_
  have hout : s.arbiter.drv.outputs[q.output] = pulseOf s.cfg s.now q := h
  exact hasOpenAttempt_of_output (o := q.output) (by rw [hout]; rfl) (by rw [hout]; rfl)

/-- R165, R171: behind the arbiter a SCOOP_KICK is as it was but for its pulses, and its request waits on or is granted. -/
theorem arbiter_scoop {n : Switch} {x : ScoopDuty} (hx : s.drv.scoops[n] = some x) :
    ∃ y, s.arbiter.drv.scoops[n] = some y ∧ y.want = x.want ∧ y.dwellDue = x.dwellDue
      ∧ (s.drv.hasRequest (.scoop n) = true → s.arbiter.drv.hasRequest (.scoop n) = true ∨ x.pulses < y.pulses) := by
  obtain ⟨y, hy, hw, hd, -, hreq⟩ := walk_scoop s.cfg s.now (kept := []) (rest := s.drv.requests) hx
  refine ⟨y, hy, hw, hd, fun h => ?_⟩
  obtain ⟨q, hq, hqd⟩ := hasRequest_iff.1 h
  exact (hreq q hq hqd).imp_left fun hmem => hasRequest_iff.2 ⟨q, hmem, hqd⟩

theorem arbiter_output (ho : s.drv.outputs[o].state ≠ .queued) : s.arbiter.drv.outputs[o] = s.drv.outputs[o] :=
  (walk_output s.cfg s.now s.drv.requests [] s.drv o).resolve_right fun h => ho h.1

/-- R163: an output that is past its recycle is so behind the arbiter, or in the pulse that the arbiter has granted. -/
theorem arbiter_passedOn (h : Placed s.drv o) : PassedOn s.arbiter o := by
  rcases h.place with ⟨hi, hno⟩ | ⟨hq, q, hmem, ho⟩
  · refine .inl ⟨?_, fun q hq => hno q ?_⟩
    · rw [arbiter_output (by rw [hi]; nofun), hi]
    · exact (walk_requests_sublist s.cfg s.now s.drv.requests [] s.drv).subset hq
  · rcases walk_output s.cfg s.now s.drv.requests [] s.drv o with hsame | ⟨-, r, -, hr, hpulse⟩
    · refine .inr (.inl ⟨(congrArg OutputRecord.state hsame).trans hq, q, ?_, ho⟩)
      refine (walk_request s.cfg s.now (kept := []) (d := s.drv) hmem).resolve_right fun hp => ?_
      subst ho
      rw [hsame.symm.trans hp] at hq
      cases hq
    · subst hr
      exact .inr (.inr ⟨r.duty, hpulse⟩)

/-- R163: an output at rest is so behind the arbiter, or in a pulse. -/
theorem arbiter_state (h : AtRest s.drv.outputs[o]) :
    s.arbiter.drv.outputs[o].state ≠ .recycle ∧ s.arbiter.drv.outputs[o].state ≠ .verify := by
  rcases walk_output s.cfg s.now s.drv.requests [] s.drv o with hsame | ⟨-, r, -, -, hpulse⟩
  · rw [show s.arbiter.drv.outputs[o] = s.drv.outputs[o] from hsame]
    rcases h.2 with hi | hq
    · rw [hi]
      exact ⟨nofun, nofun⟩
    · rw [hq]
      exact ⟨nofun, nofun⟩
  · rw [show s.arbiter.drv.outputs[o] = pulseOf s.cfg s.now r from hpulse]
    exact ⟨nofun, nofun⟩

end DerivationRuns

end Sys2Proof.Machine

namespace Sys2Proof.Machine

/-! ### The ends of the Driver Unit's timers: the derivation behind them, their frame, and the JAMMED they ask for -/

section TimerEnds

variable {s t u : State} {n : Slot} {o : Output} {id : DutyId}

/-! #### Behind a derivation -/

theorem refreshLamps_driver (s : State) : s.refreshLamps.drv = s.drv := rfl

theorem passedOn_refreshLamps (h : PassedOn s o) : PassedOn s.refreshLamps o := h

theorem arbiter_hasFault (s : State) (f : StationFault) : s.arbiter.hasFault f = s.hasFault f := rfl

theorem derived_drv (u : State) : u.deriveDuties.refreshLamps.drv = u.dutiesAsked.arbiter.drv := by
  rw [deriveDuties_eq, refreshLamps_driver]

/-- R163: a pulse, a verification and a recycle run on through a derivation, unless the attempt's duty has ended. -/
theorem derived_output (hi : u.drv.outputs[o].state ≠ .idle) (hq : u.drv.outputs[o].state ≠ .queued)
    (he : ∀ id, u.drv.outputs[o].attemptOpen = true → u.drv.outputs[o].duty = some id → ¬u.Ended id) :
    u.deriveDuties.refreshLamps.drv.outputs[o] = u.drv.outputs[o] := by
  have hout := (derives_dutiesAsked u).output hi hq he
  rw [derived_drv, arbiter_output (by rw [hout]; exact hq), hout]

/-- R163, R165: behind a derivation an output is past its recycle as it was, or in a pulse granted now. -/
theorem derived_passedOn (h : Placed u.drv o) : PassedOn u.deriveDuties.refreshLamps o := by
  have hp : PassedOn u.dutiesAsked.arbiter o := arbiter_passedOn ((derives_dutiesAsked u).placed h)
  rw [deriveDuties_eq]
  exact passedOn_refreshLamps hp

theorem derived_atRest (h : AtRest u.drv.outputs[o]) :
    u.deriveDuties.refreshLamps.drv.outputs[o].state ≠ .recycle
      ∧ u.deriveDuties.refreshLamps.drv.outputs[o].state ≠ .verify := by
  rw [derived_drv]
  exact arbiter_state ((derives_dutiesAsked u).atRest h)

/-- R163: an output past its recycle with a request that is not given up is QUEUED, or in its pulse. -/
theorem derived_requested (h : Placed u.drv o) {q : Request} (hq : q ∈ u.drv.requests) (ho : q.output = o)
    (hg : ¬u.GivesUp q.duty) : u.deriveDuties.refreshLamps.drv.outputs[o].state ≠ .idle := by
  have hd := derives_dutiesAsked u
  rw [derived_drv]
  rcases (hd.placed h).place with ⟨-, hno⟩ | ⟨hqd, -⟩
  · exact absurd ho (hno q (hd.request hq hg))
  · rcases walk_output u.dutiesAsked.cfg u.dutiesAsked.now u.dutiesAsked.drv.requests [] u.dutiesAsked.drv o
      with hsame | ⟨-, r, -, -, hpulse⟩
    · rw [show u.dutiesAsked.arbiter.drv.outputs[o] = u.dutiesAsked.drv.outputs[o] from hsame, hqd]
      nofun
    · rw [show u.dutiesAsked.arbiter.drv.outputs[o] = pulseOf _ _ r from hpulse]
      nofun

/-- The pulse that a duty wants is wanted still, or asked for, or under way. -/
abbrev State.Pursues (s : State) (want : Bool) (id : DutyId) : Prop :=
  want = true ∨ s.drv.hasRequest id = true ∨ s.drv.hasOpenAttempt id = true

theorem pursues_derived {want : Bool} (h : want = true ∨ u.dutiesAsked.drv.hasRequest id = true) :
    u.deriveDuties.refreshLamps.Pursues want id := by
  unfold State.Pursues
  rw [derived_drv]
  exact h.imp_right arbiter_asked

/-- R167, R168: an eject duty whose condition holds, behind a derivation. -/
structure EjectStands (u : State) (n : Slot) (x y : EjectDuty) : Prop where
  kind  : y.kind = x.kind
  count : y.count = x.count
  phase : y.phase = x.phase
  retry : x.phase = .retrying →
    y.retryDue = x.retryDue ∨ u.boundState n ≠ some .present ∧ y.retryDue = some (u.now + Config.retryTime)
  want  : u.boundState n = some .present → x.want = true → u.deriveDuties.refreshLamps.Pursues y.want (.eject n)

theorem derived_eject (he : ¬u.Ended (.eject n)) {x : EjectDuty} (hx : u.drv.ejects[n] = some x) :
    ∃ y, u.deriveDuties.refreshLamps.drv.ejects[n] = some y ∧ EjectStands u n x y := by
  have hd := derives_dutiesAsked u
  obtain ⟨y, hy, hxy⟩ := hd.eject he hx
  have hb := hd.kept.boundState n
  refine ⟨y, ?_, hxy.kind, hxy.count, hxy.phase, fun hr => ?_, fun hp hw => ?_⟩
  · rw [derived_drv]
    obtain ⟨-, -, hej⟩ := walk_stand u.dutiesAsked.cfg u.dutiesAsked.now u.dutiesAsked.drv.requests [] u.dutiesAsked.drv
    rw [show u.dutiesAsked.arbiter.drv.ejects = u.dutiesAsked.drv.ejects from hej]
    exact hy
  · rw [← hb, ← hd.kept.now]
    exact hxy.retry hr
  · exact pursues_derived (hxy.want (hb.trans hp) hw)

/-- R170: the serve record while its duty holds, behind a derivation. -/
theorem derived_serve (hs : u.serveHolds = true) :
    u.deriveDuties.refreshLamps.drv.serve.failed = u.drv.serve.failed
      ∧ u.deriveDuties.refreshLamps.drv.serve.retryDue = u.drv.serve.retryDue
      ∧ (u.drv.serve.retryReady = true →
          u.deriveDuties.refreshLamps.Pursues u.deriveDuties.refreshLamps.drv.serve.retryReady .serve) := by
  have ht := (derives_dutiesAsked u).serveRecord hs
  have hserve : u.deriveDuties.refreshLamps.drv.serve = u.dutiesAsked.drv.serve := by
    rw [derived_drv]
    exact (walk_stand u.dutiesAsked.cfg u.dutiesAsked.now u.dutiesAsked.drv.requests [] u.dutiesAsked.drv).1
  rw [hserve]
  exact ⟨ht.failed, ht.retry, fun hr => pursues_derived (ht.ready hr)⟩

/-- R171: a SCOOP_KICK that does not wait for its output, behind a derivation. -/
theorem derived_scoop {n : Switch} {x : ScoopDuty} (hx : u.drv.scoops[n] = some x) (ha : x.await = false) :
    ∃ y, u.deriveDuties.refreshLamps.drv.scoops[n] = some y ∧ y.dwellDue = x.dwellDue
      ∧ (x.want = true →
          y.want = true ∨ u.deriveDuties.refreshLamps.drv.hasRequest (.scoop n) = true ∨ x.pulses < y.pulses) := by
  obtain ⟨y, hy, hxy⟩ := (derives_dutiesAsked u).scoop hx ha
  obtain ⟨z, hz, hw, hd, hreq⟩ := arbiter_scoop hy
  rw [derived_drv, ← hxy.pulses]
  exact ⟨z, hz, hd.trans hxy.dwell, fun hwant => (hxy.want hwant).imp hw.trans hreq⟩

theorem hasFault_refreshLamps (f : StationFault) : s.refreshLamps.hasFault f = s.hasFault f := rfl

/-- R170: DRIVE stands through a derivation while the SERVE duty holds. -/
theorem derived_drive (hs : u.serveHolds = true) (hd : u.hasFault .drive = true) :
    u.deriveDuties.refreshLamps.hasFault .drive = true := by
  rw [deriveDuties_eq, hasFault_refreshLamps, arbiter_hasFault]
  exact (derives_dutiesAsked u).driveFault hs hd

/-- R166: a duty of a slot is not ended where its kind is that whose condition holds. -/
theorem not_ended_eject {x : EjectDuty} (hx : u.drv.ejects[n] = some x) (hh : u.ejectHolds n = some x.kind) :
    ¬u.Ended (.eject n) := by
  show ¬u.drv.ejectKind n ≠ u.ejectHolds n
  rw [hh, DriverUnit.ejectKind, hx]
  exact not_not_intro rfl

/-! #### The frame of a timer's end -/

/-- R109: local time moves to the timer's end, and nothing outside the Driver Unit's reach changes with it. -/
theorem driverFrame_of_tends {due : Nat} (h : Tends (s.advanceTo due) t)
    (hc : t.claim = { s.claim with queue := t.claim.queue, serial := t.claim.serial }) :
    t.now = max s.now due ∧ DriverFrame s t := by
  have hk := h.kept
  refine ⟨hk.now, hk.pending, hk.table, hk.eng, hk.sw, hk.sen, hk.cfg, ?_, hk.ctl, h.faults, hc⟩
  rw [hk.now]
  exact hk.bus

theorem tends_derived_of (h : Tends s u) : Tends s u.deriveDuties.refreshLamps := h.trans (tends_derived u)

/-! #### The output goes on (R163) -/

theorem drvPin_of_state {d : DriverUnit} {st : OutputState} (h : d.outputs[o].state = st) (hst : st ≠ .pulse) :
    d.drvPin o = false := by
  unfold DriverUnit.drvPin
  rw [h]
  exact beq_eq_false_iff_ne.2 hst

theorem placed_leaveRecycle (s : State) (o : Output) (h : (s.drv.requests.map Request.output).Nodup) :
    Placed (s.leaveRecycle o).drv o := by
  have hr := recycling_leaveRecycle s o
  refine ⟨by rw [hr.requests]; exact h, by rw [leaveRecycle_output], ?_⟩
  rw [leaveRecycle_output, hr.requests]
  by_cases hreq : s.drv.requested o = true
  · rw [if_pos hreq]
    exact .inr ⟨rfl, requested_iff.1 hreq⟩
  · rw [if_neg hreq]
    exact .inl ⟨rfl, fun q hq ho => hreq (requested_iff.2 ⟨q, hq, ho⟩)⟩

theorem atRest_leaveRecycle (s : State) (o : Output) : AtRest (s.leaveRecycle o).drv.outputs[o] := by
  rw [leaveRecycle_output]
  refine ⟨rfl, ?_⟩
  dsimp only
  split
  · exact .inr rfl
  · exact .inl rfl

theorem enterRecycle_recycles {w : State} (h : 0 < w.cfg.outputs[o].recycle) :
    Recycles (w.enterRecycle o).deriveDuties.refreshLamps o := by
  have hk := kept_derived w (kept_enterRecycle w o)
  have hout : (w.enterRecycle o).drv.outputs[o] =
      { state := .recycle, duty := none, attemptOpen := false, due := w.now + w.cfg.outputs[o].recycle * Config.ms } := by
    unfold State.enterRecycle
    rw [if_neg (Nat.ne_of_gt h)]
    exact (updOutput_get w.drv o o _).trans (if_pos rfl)
  unfold Recycles
  rw [derived_output (by rw [hout]; nofun) (by rw [hout]; nofun) (fun id ha => by rw [hout] at ha; cases ha), hout, hk.now, hk.cfg]

/-- R163: the output recycles for its recycle time, and a recycle of 0 passes straight on. -/
theorem goesOn_enterRecycle {w : State} (hc : w.cfg = s.cfg) (hr : w.drv.requests = s.drv.requests) :
    GoesOn s (w.enterRecycle o).deriveDuties.refreshLamps o := by
  refine ⟨fun h => enterRecycle_recycles (by rw [hc]; exact h), fun h hn => ?_⟩
  have he : w.enterRecycle o = w.leaveRecycle o := if_pos (by rw [hc]; exact h)
  rw [he]
  exact derived_passedOn (placed_leaveRecycle w o (by rw [hr]; exact hn))

/-! #### The JAMMED that a failure asks for (R168) -/

/-- R168: what a request for a JAMMED changes: the claims, by that one alone, and the launches. -/
structure JamsOnly (n : Slot) (s t : State) : Prop where
  claim : t.claim = { s.claim with queue := t.claim.queue, serial := t.claim.serial }
  queue : ∀ c ∈ t.claim.queue, c ∈ s.claim.queue ∨ c.payload = .jammed n
  drv   : t.drv = { s.drv with serve := t.drv.serve }

theorem jamsOnly_refl (n : Slot) (s : State) : JamsOnly n s s := ⟨rfl, fun _ h => .inl h, rfl⟩

theorem mem_addClaim {p : Payload} {org : Origin} {c : Claim} (h : c ∈ (s.addClaim p org).claim.queue) :
    c ∈ s.claim.queue ∨ c.payload = p := by
  rw [addClaim_queue] at h
  rcases (mem_insertClaim _ _ _).1 h with rfl | h
  · exact .inr rfl
  · exact .inl h

theorem jamsOnly_enterClaim (s : State) (n : Slot) (org : Origin) : JamsOnly n s (s.enterClaim (.jammed n) org) := by
  unfold State.enterClaim
  split
  · exact ⟨rfl, fun c hc => mem_addClaim hc, rfl⟩
  · split
    · next d _ =>
      refine ⟨rfl, fun c hc => (mem_addClaim hc).imp_left fun h => ?_, rfl⟩
      exact (mem_removeClaim.1 (show c ∈ removeClaim d s.claim.queue from h)).1
    · exact ⟨rfl, fun c hc => .inl hc, rfl⟩

theorem jamsOnly_requestJammed (s : State) (n : Slot) : JamsOnly n s (s.requestJammed n) := by
  unfold State.requestJammed State.build
  split
  · exact jamsOnly_refl n s
  · split
    · exact jamsOnly_enterClaim s n _
    · exact jamsOnly_refl n s

theorem isJammedOf_iff {p : Payload} : p.isJammedOf n = true ↔ p = .jammed n := by
  cases p with
  | jammed k => simp [Payload.isJammedOf]
  | _ => exact ⟨nofun, nofun⟩

/-- R168, R140: a JAMMED that the Driver Unit asks for is there, built now unless one was. -/
theorem jammedAsked_requestJammed (s : State) (n : Slot) : JammedAsked s (s.requestJammed n) n := by
  intro hm hl hmu hv _ hroom
  unfold State.requestJammed
  split
  · next h =>
    obtain ⟨c, hc, hp⟩ := hasClaim_iff.1 h
    exact ⟨c, hc, isJammedOf_iff.1 hp, fun hno => absurd (isJammedOf_iff.1 hp) (hno c hc)⟩
  · have hfree : s.FreeMember := ⟨hm, hl, hmu, hv⟩
    have hbuild : s.mayBuild (Payload.jammed n).kind = true := hfree.mayBuild (by nofun)
    rw [build_queue _ _ _ hbuild hroom]
    exact ⟨_, (mem_insertClaim _ _ _).2 (.inl rfl), rfl, fun _ => ⟨rfl, rfl, rfl⟩⟩

theorem isReleasing_of_releasing {r : SlotRecord} (h : ∃ (k : Station) (c : Cause), r = .releasing k c) :
    r.isReleasing = true := by
  obtain ⟨k, c, rfl⟩ := h
  rfl

theorem jamsOnly_jammedAfter (s : State) (n : Slot) : JamsOnly n s (s.jammedAfter n) := by
  unfold State.jammedAfter
  split
  · split
    · exact jamsOnly_requestJammed s n
    · exact jamsOnly_refl n s
  · exact jamsOnly_refl n s

/-- R168: with its count at 3 a RELEASE's failure asks for a JAMMED. -/
theorem jammedAsked_jammedAfter {x : EjectDuty} (hx : s.drv.ejects[n] = some x) (hk : x.kind = .release)
    (hc : x.count = 3) : JammedAsked s (s.jammedAfter n) n := by
  intro hm hl hmu hv hrel hroom
  have he : s.jammedAfter n = s.requestJammed n := by
    unfold State.jammedAfter
    rw [hx]
    exact if_pos ⟨hk, hc, isReleasing_of_releasing hrel⟩
  rw [he]
  exact jammedAsked_requestJammed s n hm hl hmu hv hrel hroom

/-- R168: short of that count, or for another kind, it asks for nothing. -/
theorem jammedAfter_eq (h : ∀ x, s.drv.ejects[n] = some x → x.kind = .release → x.count ≠ 3) : s.jammedAfter n = s := by
  unfold State.jammedAfter
  split
  · next x hx => exact if_neg fun hj => h x hx hj.1 hj.2.1
  · rfl

/-- R168: the JAMMED is asked for behind the end of a timer, and stands through what leaves the claims. -/
theorem jammedAsked_of_claim {due : Nat} {f : DriverUnit → DriverUnit} (hc : t.claim = u.claim)
    (h : JammedAsked ((s.advanceTo due).updDrv f) u n) : JammedAsked s t n := by
  unfold JammedAsked
  rw [hc]
  exact h

end TimerEnds

end Sys2Proof.Machine

namespace Sys2Proof.Machine

/-! ### PULSE_END and RECYCLE_END (R163) -/

section PulseAndRecycle

variable {s : State} {n : Slot} {o : Output} {id : DutyId}

theorem tends_leaveRecycle (s : State) (o : Output) : Tends s (s.leaveRecycle o) := tends_updDrv s _

theorem tends_pulseEnds (s : State) (o : Output) : Tends s (s.pulseEnds o) := by
  unfold State.pulseEnds
  dsimp only
  split
  · exact Tends.ite (tends_updDrv s _) ((tends_updDrv s _).trans (tends_enterRecycle _ o))
  · exact tends_enterRecycle s o

theorem claims_pulseEnds (s : State) (o : Output) : ClaimsKept s (s.pulseEnds o) := by
  unfold State.pulseEnds
  dsimp only
  split
  · next id _ _ => exact ClaimsKept.ite ⟨rfl⟩ ⟨(claims_enterRecycle (s.updDrv fun d => d.afterUnverified id) o).claim⟩
  · exact claims_enterRecycle s o

/-- R163: a verified pulse whose attempt is open is verified from its end on. -/
theorem pulseEnds_verified (ha : s.drv.outputs[o].attemptOpen = true) (hd : s.drv.outputs[o].duty = some id)
    (hv : s.cfg.verifies o id = true) :
    s.pulseEnds o = s.updDrv fun d => d.updOutput o fun x =>
      { x with state := .verify, due := s.now + s.cfg.outputs[o].verify * Config.ms } := by
  unfold State.pulseEnds
  dsimp only
  rw [ha, hd]
  exact if_pos hv

/-- R163: any other pulse goes on to its recycle. -/
theorem pulseEnds_unverified
    (h : s.drv.outputs[o].attemptOpen = false ∨ s.drv.outputs[o].duty = none
      ∨ ∀ id, s.drv.outputs[o].duty = some id → s.cfg.verifies o id = false) :
    ∃ w : State, s.pulseEnds o = w.enterRecycle o ∧ w.cfg = s.cfg ∧ w.drv.requests = s.drv.requests := by
  unfold State.pulseEnds
  dsimp only
  split
  · next id ha hd =>
    have hv : s.cfg.verifies o id = false := by
      rcases h with h | h | h
      · rw [ha] at h
        cases h
      · rw [hd] at h
        cases h
      · exact h id hd
    rw [if_neg (by rw [hv]; decide)]
    exact ⟨_, rfl, rfl, afterUnverified_requests _ id⟩
  · exact ⟨s, rfl, rfl, rfl⟩

/-- R163: the end of a pulse is followed by a derivation. -/
theorem exec_pulseEnd (h : s.drv.outputs[o].state = .pulse) :
    exec (.pulseEnd o) s =
      .next (((s.advanceTo s.drv.outputs[o].due).pulseEnds o).deriveDuties).refreshLamps := if_pos h

theorem exec_recycleEnd (h : s.drv.outputs[o].state = .recycle) :
    exec (.recycleEnd o) s =
      .next (((s.advanceTo s.drv.outputs[o].due).leaveRecycle o).deriveDuties).refreshLamps := if_pos h

/-- R163: the verification of a pulse whose duty holds runs behind the derivation. -/
theorem verify_derived {r : OutputRecord} {due : Nat} (hr : s.drv.outputs[o] = r) (ha : r.attemptOpen = true)
    (hd : r.duty = some id) (hv : s.cfg.verifies o id = true)
    (he : ¬(s.pulseEnds o).Ended id) (hdue : s.now + s.cfg.outputs[o].verify * Config.ms = due) :
    (s.pulseEnds o).deriveDuties.refreshLamps.drv.drvPin o = false
      ∧ (s.pulseEnds o).deriveDuties.refreshLamps.drv.outputs[o] = { r with state := .verify, due := due } := by
  subst hr hdue
  have hout : (s.pulseEnds o).drv.outputs[o] =
      { s.drv.outputs[o] with state := .verify, due := s.now + s.cfg.outputs[o].verify * Config.ms } := by
    rw [pulseEnds_verified ha hd hv]
    exact (updOutput_get s.drv o o _).trans (if_pos rfl)
  have ht := derived_output (u := s.pulseEnds o) (o := o) (by rw [hout]; nofun) (by rw [hout]; nofun) fun k _ hk => by
    rw [hout] at hk
    rw [Option.some.inj (hd.symm.trans hk)] at he
    exact he
  rw [hout] at ht
  exact ⟨drvPin_of_state (congrArg OutputRecord.state ht) nofun, ht⟩

/-- R166: the duty of a pulse that ends holds as it did. -/
theorem pulseEnds_not_ended {s : State} (he : ¬s.Ended id) (ha : s.drv.outputs[o].attemptOpen = true)
    (hd : s.drv.outputs[o].duty = some id) (hv : s.cfg.verifies o id = true) : ¬(s.pulseEnds o).Ended id := by
  rw [pulseEnds_verified ha hd hv]
  exact he

theorem verifies_eject (h : s.cfg.outputs[o].role = .eject) (n : Slot) : s.cfg.verifies o (.eject n) = true :=
  beq_iff_eq.2 h

theorem verifies_serve (h : s.cfg.outputs[o].role = .serve) : s.cfg.verifies o .serve = true := beq_iff_eq.2 h

/-- R163: what the end of a pulse does. -/
theorem pulseEnd_settles (h : s.drv.outputs[o].state = .pulse) :
    let r := s.drv.outputs[o]
    let ends := max s.now r.due
    ∃ t, exec (.pulseEnd o) s = .next t ∧ t.now = ends ∧ DriverFrame s t ∧ t.claim = s.claim
      ∧ (∀ n : Slot, ∀ x : EjectDuty, r.attemptOpen = true → r.duty = some (.eject n) →
          s.cfg.outputs[o].role = .eject → s.drv.ejects[n] = some x → s.ejectHolds n = some x.kind →
          t.drv.drvPin o = false
            ∧ t.drv.outputs[o] = { r with state := .verify, due := ends + s.cfg.outputs[o].verify * Config.ms })
      ∧ (r.attemptOpen = true → r.duty = some .serve → s.cfg.outputs[o].role = .serve → s.serveHolds = true →
          t.drv.drvPin o = false
            ∧ t.drv.outputs[o] = { r with state := .verify, due := ends + s.cfg.outputs[o].verify * Config.ms })
      ∧ (r.attemptOpen = false ∨ r.duty = none ∨ (∀ id, r.duty = some id → s.cfg.verifies o id = false) →
          GoesOn s t o ∧ (0 < s.cfg.outputs[o].recycle → t.drv.drvPin o = false)) := by
  intro r ends
  have hclaim : (((s.advanceTo r.due).pulseEnds o).deriveDuties).refreshLamps.claim = s.claim := by
    rw [derived_claim, (claims_pulseEnds _ o).claim]
    rfl
  obtain ⟨hnow, hframe⟩ := driverFrame_of_tends (tends_derived_of (tends_pulseEnds (s.advanceTo r.due) o)) (by rw [hclaim])
  refine ⟨(((s.advanceTo r.due).pulseEnds o).deriveDuties).refreshLamps, exec_pulseEnd h, hnow, hframe, hclaim, fun n x ha hd hrole hx hh => ?_, fun ha hd hrole hs => ?_, fun hno => ?_⟩
  · have he : ¬(s.advanceTo r.due).Ended (.eject n) := not_ended_eject (u := s.advanceTo r.due) hx hh
    have hv := verifies_eject (s := s) hrole n
    exact verify_derived (s := s.advanceTo r.due) (r := r) (due := ends + s.cfg.outputs[o].verify * Config.ms) rfl ha hd hv (pulseEnds_not_ended he ha hd hv) rfl
  · have he : ¬(s.advanceTo r.due).Ended .serve := fun hn => Bool.false_ne_true (hn.symm.trans hs)
    have hv := verifies_serve (s := s) hrole
    exact verify_derived (s := s.advanceTo r.due) (r := r) (due := ends + s.cfg.outputs[o].verify * Config.ms) rfl ha hd hv (pulseEnds_not_ended he ha hd hv) rfl
  · obtain ⟨w, hw, hcfg, hreq⟩ := pulseEnds_unverified (s := s.advanceTo r.due) hno
    rw [hw]
    have hgo : GoesOn s (w.enterRecycle o).deriveDuties.refreshLamps o := goesOn_enterRecycle hcfg hreq
    exact ⟨hgo, fun h0 => drvPin_of_state (congrArg OutputRecord.state (hgo.1 h0)) nofun⟩

/-- R163: a request that the derivation at a recycle's end does not take back. -/
theorem leaveRecycle_not_givesUp {due : Nat} {q : Request}
    (h : (∃ n, q.duty = .scoop n) ∨ (q.duty = .serve ∧ s.serveHolds = true)
      ∨ ∃ n x, q.duty = .eject n ∧ s.drv.ejects[n] = some x ∧ s.ejectHolds n = some x.kind
        ∧ s.boundState n = some .present) :
    ¬((s.advanceTo due).leaveRecycle o).GivesUp q.duty := by
  rcases h with ⟨n, hd⟩ | ⟨hd, hs⟩ | ⟨n, x, hd, hx, hh, hb⟩
  · rw [hd]
    exact Derives.not_givesUp_scoop _ n
  · rw [hd]
    rintro (he | ⟨n, hn, -⟩)
    · exact Bool.false_ne_true (he.symm.trans hs)
    · cases hn
  · have hstand := stand_leaveRecycle (s.advanceTo due) o
    have he : ¬((s.advanceTo due).leaveRecycle o).Ended (.eject n) := by
      show ¬((s.advanceTo due).leaveRecycle o).drv.ejectKind n ≠ s.ejectHolds n
      rw [hstand.kinds, hh]
      exact not_not_intro (congrArg (Option.map EjectDuty.kind) hx)
    rw [hd]
    exact Derives.not_givesUp_eject he hb

/-- R163: what the end of a recycle does. -/
theorem recycleEnd_settles (h : s.drv.outputs[o].state = .recycle) :
    ∃ t, exec (.recycleEnd o) s = .next t ∧ t.now = max s.now s.drv.outputs[o].due ∧ DriverFrame s t ∧ t.claim = s.claim
      ∧ t.drv.outputs[o].state ≠ .recycle ∧ t.drv.outputs[o].state ≠ .verify
      ∧ ((s.drv.requests.map Request.output).Nodup →
          PassedOn t o
          ∧ (∀ q ∈ s.drv.requests, q.output = o →
              ((∃ n, q.duty = .scoop n) ∨ (q.duty = .serve ∧ s.serveHolds = true)
                ∨ ∃ n x, q.duty = .eject n ∧ s.drv.ejects[n] = some x ∧ s.ejectHolds n = some x.kind
                  ∧ s.boundState n = some .present) →
              t.drv.outputs[o].state ≠ .idle)) := by
  have hclaim : (((s.advanceTo s.drv.outputs[o].due).leaveRecycle o).deriveDuties).refreshLamps.claim = s.claim :=
    derived_claim _
  obtain ⟨hnow, hframe⟩ := driverFrame_of_tends
    (tends_derived_of (tends_leaveRecycle (s.advanceTo s.drv.outputs[o].due) o)) (by rw [hclaim])
  obtain ⟨hnr, hnv⟩ := derived_atRest (u := (s.advanceTo s.drv.outputs[o].due).leaveRecycle o)
    (atRest_leaveRecycle (s.advanceTo s.drv.outputs[o].due) o)
  refine ⟨((s.advanceTo s.drv.outputs[o].due).leaveRecycle o).deriveDuties.refreshLamps, exec_recycleEnd h, hnow, hframe, hclaim, hnr, hnv, fun hn => ?_⟩
  have hplaced := placed_leaveRecycle (s.advanceTo s.drv.outputs[o].due) o hn
  exact ⟨derived_passedOn hplaced, fun q hq ho hkeep =>
    derived_requested hplaced hq ho (leaveRecycle_not_givesUp hkeep)⟩

/-- Settles O48, by the two ends; an event without its condition changes nothing. -/
theorem pulseAndRecycleEnd : Obligations.PulseAndRecycleEnd := by
  unfold Obligations.PulseAndRecycleEnd
  exact fun o s => ⟨pulseEnd_settles, recycleEnd_settles, fun h => if_neg h, fun h => if_neg h⟩

end PulseAndRecycle

end Sys2Proof.Machine

namespace Sys2Proof.Machine

/-! ### VERIFY_TIMEOUT and the timers of the duties (R163, R167, R168, R170, R171) -/

section DutyTimerEnds

variable {s t u : State} {n : Slot} {o : Output} {x y : EjectDuty}

/-! #### What a result makes of an eject duty -/

/-- R167, R168: a result of the slot's eject duty, `x` before it and `y` behind it: beside the duty only the JAMMED that a
RELEASE asks for with its count at 3, and the launches. -/
structure EjectJudged (s u : State) (n : Slot) (x y : EjectDuty) : Prop where
  tends    : Tends s u
  eject    : u.drv.ejects[n] = some y
  kind     : y.kind = x.kind
  requests : u.drv.requests = s.drv.requests
  bounce   : u.drv.bounce = s.drv.bounce
  claim    : u.claim = { s.claim with queue := u.claim.queue, serial := u.claim.serial }
  queue    : ∀ c ∈ u.claim.queue, c ∈ s.claim.queue ∨ c.payload = .jammed n
  same     : x.kind ≠ .release ∨ y.count ≠ 3 → u.claim = s.claim

theorem updEject_eject (hx : s.drv.ejects[n] = some x) (f : EjectDuty → EjectDuty) :
    (s.updDrv fun d => d.updEject n f).drv.ejects[n] = some (f x) := by
  show (s.drv.updEject n f).ejects[n] = _
  rw [updEject_get, if_pos rfl, hx]
  rfl

/-- R167, R168: a result that asks for nothing. -/
theorem ejectJudged_updEject (hx : s.drv.ejects[n] = some x) {f : EjectDuty → EjectDuty} (hf : (f x).kind = x.kind) :
    EjectJudged s (s.updDrv fun d => d.updEject n f) n x (f x) where
  tends := tends_updDrv s _
  eject := updEject_eject hx f
  kind := hf
  requests := rfl
  bounce := rfl
  claim := rfl
  queue _ h := .inl h
  same _ := rfl

/-- R168: a failure, which may ask for a JAMMED. -/
theorem ejectJudged_jammedAfter (hx : s.drv.ejects[n] = some x) {f : EjectDuty → EjectDuty} (hf : (f x).kind = x.kind) :
    EjectJudged s ((s.updDrv fun d => d.updEject n f).jammedAfter n) n x (f x) := by
  have h1 := ejectJudged_updEject hx hf
  have hj := jamsOnly_jammedAfter (s.updDrv fun d => d.updEject n f) n
  refine ⟨h1.tends.trans (tends_jammedAfter _ n), ?_, hf, ?_, ?_, hj.claim, hj.queue, fun hno => ?_⟩
  · rw [hj.drv]
    exact h1.eject
  · rw [hj.drv]
    rfl
  · rw [hj.drv]
    rfl
  · rw [jammedAfter_eq fun z hz hk hc => ?_]
    · rfl
    · rw [h1.eject] at hz
      cases hz
      exact hno.elim (fun h => h (hf.symm.trans hk)) fun h => h hc

/-- R168: with its count at 3 a RELEASE has asked for its JAMMED. -/
theorem jammedAsked_of_failure {due : Nat} (hx : s.drv.ejects[n] = some x) {f : EjectDuty → EjectDuty}
    (hk : (f x).kind = .release) (hc : (f x).count = 3)
    (ht : t.claim = (((s.advanceTo due).updDrv fun d => d.updEject n f).jammedAfter n).claim) : JammedAsked s t n :=
  jammedAsked_of_claim ht (jammedAsked_jammedAfter (updEject_eject (s := s.advanceTo due) hx f) hk hc)

theorem EjectJudged.holds (h : EjectJudged s u n x y) : u.ejectHolds n = s.ejectHolds n :=
  ejectHolds_of_reject h.tends.kept (by rw [h.claim]) (by rw [h.bounce])

/-- R166: a result leaves the duty's condition. -/
theorem EjectJudged.not_ended (h : EjectJudged s u n x y) (hh : s.ejectHolds n = some x.kind) : ¬u.Ended (.eject n) :=
  not_ended_eject h.eject (by rw [h.holds, hh, h.kind])

/-! #### A failed eject (R167) -/

section Failed

variable (now : Nat) (await : Await) (retry : Option Nat)

theorem failed_kind (x : EjectDuty) : (x.failed now await retry).kind = x.kind := by
  unfold EjectDuty.failed
  split <;> rfl

theorem failed_count (x : EjectDuty) : (x.failed now await retry).count = min 3 (x.count + 1) := by
  unfold EjectDuty.failed
  split
  · next h => exact (Nat.min_eq_right h.le).symm
  · next h => exact (Nat.min_eq_left (Nat.not_lt.1 h)).symm

theorem failed_phase (x : EjectDuty) :
    (x.failed now await retry).phase = if x.count + 1 < 3 then x.phase else .retrying := by
  unfold EjectDuty.failed
  split <;> rfl

theorem failed_third (h : 3 ≤ x.count + 1) :
    (x.failed now await retry).count = 3 ∧ (x.failed now await retry).phase = .retrying
      ∧ (x.failed now await retry).retryDue = some (now + Config.retryTime) := by
  unfold EjectDuty.failed
  rw [if_neg (Nat.not_lt.2 h)]
  exact ⟨rfl, rfl, rfl⟩

end Failed

/-! #### VERIFY_TIMEOUT -/

/-- R167, R170: the result of the verification of an output, if it has a duty. -/
def State.verifyJudged (s : State) (o : Output) : State :=
  match s.drv.outputs[o].duty with
  | some id => s.verifyResult id
  | none => s

theorem verifyJudged_of_duty {id : DutyId} (h : s.drv.outputs[o].duty = some id) :
    s.verifyJudged o = s.verifyResult id := by
  unfold State.verifyJudged
  rw [h]

theorem exec_verifyTimeout (h : s.drv.outputs[o].state = .verify) :
    exec (.verifyTimeout o) s =
      .next ((((s.advanceTo s.drv.outputs[o].due).verifyJudged o).enterRecycle o).deriveDuties).refreshLamps := if_pos h

/-- R167: the eject duty behind the end of its verification. -/
theorem ejectJudged_verifyResult (hx : s.drv.ejects[n] = some x) :
    EjectJudged s (s.verifyResult (.eject n)) n x
      (if s.boundState n = some .absent then
        { x with count := 0, phase := .attempting, retryDue := none, want := false, await := .no }
      else x.failed s.now .afterFailure none) := by
  unfold State.verifyResult
  dsimp only
  split
  · exact ejectJudged_updEject hx rfl
  · exact ejectJudged_jammedAfter hx (failed_kind s.now .afterFailure none x)

/-- R170: a serve's failure touches the serve record and DRIVE. -/
theorem failServe_eq (s : State) :
    s.failServe.claim = s.claim ∧ s.failServe.drv.requests = s.drv.requests ∧ Tends s s.failServe := by
  unfold State.failServe
  split
  · exact ⟨rfl, rfl, tends_updDrv s _⟩
  · refine ⟨(claims_setFault _ _).claim, ?_, .driveOn (tends_updDrv s _)⟩
    rw [State.setFault, putFaults_drv]
    rfl

/-- R167, R170: what a result leaves, whatever duty it is of: the requests, and the claims but for an eject duty's JAMMED. -/
structure ResultLeaves (s u : State) : Prop where
  tends    : Tends s u
  requests : u.drv.requests = s.drv.requests
  claim    : u.claim = { s.claim with queue := u.claim.queue, serial := u.claim.serial }

/-- R168: of the claims a JAMMED alone may join. -/
theorem jamsOnly_failEject (s : State) (n : Slot) :
    ResultLeaves s (s.failEject n) ∧ ∀ c ∈ (s.failEject n).claim.queue, c ∈ s.claim.queue ∨ c.payload = .jammed n := by
  have hj := jamsOnly_jammedAfter (s.updDrv fun d => d.updEject n fun x => x.failed s.now .afterFailure none) n
  refine ⟨⟨tends_failEject s n, ?_, hj.claim⟩, hj.queue⟩
  unfold State.failEject
  rw [hj.drv]
  rfl

theorem resultLeaves_verifyJudged (s : State) (o : Output) : ResultLeaves s (s.verifyJudged o) := by
  unfold State.verifyJudged
  split
  · next id _ =>
    cases id with
    | eject n =>
      unfold State.verifyResult
      dsimp only
      split
      · exact ⟨tends_succeedEject s n, rfl, rfl⟩
      · exact (jamsOnly_failEject s n).1
    | serve =>
      obtain ⟨hc, hr, ht⟩ := failServe_eq s
      exact ⟨ht, hr, by rw [show (s.verifyResult .serve).claim = s.claim from hc]⟩
    | scoop n => exact ⟨.refl, rfl, rfl⟩
  · exact ⟨.refl, rfl, rfl⟩

/-- R168: a result of a duty that is no eject duty leaves the claims. -/
theorem verifyJudged_claim (h : ∀ n, s.drv.outputs[o].duty ≠ some (.eject n)) : (s.verifyJudged o).claim = s.claim := by
  unfold State.verifyJudged
  split
  · next id hid =>
    cases id with
    | eject n => exact absurd hid (h n)
    | serve => exact (failServe_eq s).1
    | scoop n => rfl
  · rfl

theorem verifyJudged_queue (h : s.drv.outputs[o].duty = some (.eject n)) :
    ∀ c ∈ (s.verifyJudged o).claim.queue, c ∈ s.claim.queue ∨ c.payload = .jammed n := by
  rw [verifyJudged_of_duty h]
  unfold State.verifyResult
  dsimp only
  split
  · exact fun c hc => .inl hc
  · exact (jamsOnly_failEject s n).2

/-- R170: the failures of a serve, and at the third DRIVE and the retry timer. -/
theorem failServe_short (h : s.drv.serve.failed + 1 < 3) : s.failServe.drv.serve.failed = s.drv.serve.failed + 1 := by
  unfold State.failServe
  rw [if_pos h]
  rfl

theorem failServe_third (h : 2 ≤ s.drv.serve.failed) :
    s.failServe.drv.serve.failed = 3 ∧ s.failServe.drv.serve.retryDue = some (s.now + Config.retryTime)
      ∧ s.failServe.hasFault .drive = true := by
  unfold State.failServe
  rw [if_neg (by omega)]
  refine ⟨?_, ?_, hasFault_setFault _ _⟩
  all_goals
    rw [State.setFault, putFaults_drv]
    rfl

theorem enterRecycle_ctl (s : State) (o : Output) : (s.enterRecycle o).ctl = s.ctl := by
  unfold State.enterRecycle
  split <;> rfl

/-- R163, R167: an eject duty behind its result, its output's recycle and the derivation. -/
theorem ejectStands_recycled (h : EjectJudged s u n x y) (hh : s.ejectHolds n = some x.kind) :
    ∃ z, (u.enterRecycle o).deriveDuties.refreshLamps.drv.ejects[n] = some z ∧ z.kind = y.kind ∧ z.count = y.count
      ∧ z.phase = y.phase
      ∧ (y.phase = .retrying → z.retryDue = y.retryDue ∨ z.retryDue = some (s.now + Config.retryTime)) := by
  obtain ⟨w, hw, hyw⟩ := (recycling_enterRecycle u o).eject u h.eject
  have he : ¬(u.enterRecycle o).Ended (.eject n) :=
    fun hend => h.not_ended hh fun hsame => hend (by
      rw [(stand_enterRecycle u o).kinds, hsame]
      exact (ejectHolds_congr (kept_enterRecycle u o) (claims_enterRecycle u o)
        (by rw [(recycling_enterRecycle u o).bounce])).symm)
  obtain ⟨z, hz, hs⟩ := derived_eject he hw
  have hnow : (u.enterRecycle o).now = s.now := (kept_enterRecycle u o).now.trans h.tends.kept.now
  refine ⟨z, hz, hs.kind.trans hyw.kind, hs.count.trans hyw.count, hs.phase.trans hyw.phase, fun hr => ?_⟩
  rcases hs.retry (hyw.phase.trans hr) with hd | ⟨-, hd⟩
  · rcases hyw.retry hr with hd' | ⟨-, hd'⟩
    · exact .inl (hd.trans hd')
    · exact .inr (hd.trans (hd'.trans (by rw [h.tends.kept.now])))
  · exact .inr (hd.trans (by rw [hnow]))

/-- R170: the serve record behind its result, its output's recycle and the derivation. -/
theorem serve_recycled (hs : u.serveHolds = true) :
    (u.enterRecycle o).deriveDuties.refreshLamps.drv.serve.failed = u.drv.serve.failed
      ∧ (u.enterRecycle o).deriveDuties.refreshLamps.drv.serve.retryDue = u.drv.serve.retryDue
      ∧ (u.hasFault .drive = true → (u.enterRecycle o).deriveDuties.refreshLamps.hasFault .drive = true) := by
  have hs' : (u.enterRecycle o).serveHolds = true := (serveHolds_of_kept (kept_enterRecycle u o)).trans hs
  obtain ⟨hf, hr, -⟩ := derived_serve hs'
  have hserve := (recycling_enterRecycle u o).serve
  refine ⟨hf.trans (by rw [hserve]), hr.trans (by rw [hserve]), fun hd => derived_drive hs' ?_⟩
  unfold State.hasFault
  rw [enterRecycle_ctl]
  exact hd

/-- R167, R168: the eject duty whose verification has ended. -/
theorem verifyTimeout_eject (hd : s.drv.outputs[o].duty = some (.eject n)) (hx : s.drv.ejects[n] = some x)
    (hh : s.ejectHolds n = some x.kind) {due : Nat}
    (ht : t = (((s.advanceTo due).verifyJudged o).enterRecycle o).deriveDuties.refreshLamps) :
    ∃ y, t.drv.ejects[n] = some y ∧ y.kind = x.kind
      ∧ (s.boundState n = some .absent → y.count = 0 ∧ y.phase = .attempting ∧ t.claim = s.claim)
      ∧ (s.boundState n ≠ some .absent →
          y.count = min 3 (x.count + 1) ∧ y.phase = (if x.count + 1 < 3 then x.phase else .retrying)
            ∧ (x.count + 1 < 3 ∨ x.kind ≠ .release → t.claim = s.claim)
            ∧ (3 ≤ x.count + 1 → y.retryDue = some (max s.now due + 5000 * Config.ms)
                ∧ (x.kind = .release → JammedAsked s t n))) := by
  have hj := ejectJudged_verifyResult (s := s.advanceTo due) hx
  rw [verifyJudged_of_duty (s := s.advanceTo due) hd] at ht
  have hclaim : t.claim = ((s.advanceTo due).verifyResult (.eject n)).claim := by
    rw [ht, derived_claim, (claims_enterRecycle _ o).claim]
  obtain ⟨y, hy, hkind, hcount, hphase, hretry⟩ := ejectStands_recycled (o := o) hj hh
  rw [← ht] at hy
  refine ⟨y, hy, hkind.trans hj.kind, fun hb => ?_, fun hb => ?_⟩
  · have hb : (s.advanceTo due).boundState n = some .absent := hb
    rw [if_pos hb] at hcount hphase hj
    exact ⟨hcount, hphase, hclaim.trans (hj.same (.inr (by nofun)))⟩
  · have hb : ¬(s.advanceTo due).boundState n = some .absent := hb
    rw [if_neg hb] at hcount hphase hretry hj
    refine ⟨hcount.trans (failed_count _ _ _ x), hphase.trans (failed_phase _ _ _ x), fun hno => ?_, fun h3 => ?_⟩
    · refine hclaim.trans (hj.same (hno.symm.imp_right fun hlt => ?_))
      rw [failed_count]
      omega
    · obtain ⟨hc3, hp3, hd3⟩ := failed_third (x := x) (s.advanceTo due).now .afterFailure none h3
      refine ⟨(hretry hp3).elim (fun h => h.trans hd3) id, fun hk => ?_⟩
      refine jammedAsked_of_failure (due := due) (f := fun x => x.failed (s.advanceTo due).now .afterFailure none) hx
        ((failed_kind _ _ _ x).trans hk) hc3 (hclaim.trans ?_)
      rw [State.verifyResult, if_neg hb]
      rfl

/-- R163, R167, R170: what the end of a verification does. -/
theorem verifyTimeout_settles (h : s.drv.outputs[o].state = .verify) :
    let r := s.drv.outputs[o]
    let ends := max s.now r.due
    ∃ t, exec (.verifyTimeout o) s = .next t ∧ t.now = ends ∧ DriverFrame s t ∧ GoesOn s t o
      ∧ ((∀ n, r.duty ≠ some (.eject n)) → t.claim = s.claim)
      ∧ (∀ n : Slot, r.duty = some (.eject n) → ∀ c ∈ t.claim.queue, c ∈ s.claim.queue ∨ c.payload = .jammed n)
      ∧ (∀ (n : Slot) (x : EjectDuty), r.duty = some (.eject n) → s.drv.ejects[n] = some x →
          s.ejectHolds n = some x.kind →
          ∃ y, t.drv.ejects[n] = some y ∧ y.kind = x.kind
            ∧ (s.boundState n = some .absent → y.count = 0 ∧ y.phase = .attempting ∧ t.claim = s.claim)
            ∧ (s.boundState n ≠ some .absent →
                y.count = min 3 (x.count + 1) ∧ y.phase = (if x.count + 1 < 3 then x.phase else .retrying)
                  ∧ (x.count + 1 < 3 ∨ x.kind ≠ .release → t.claim = s.claim)
                  ∧ (3 ≤ x.count + 1 → y.retryDue = some (ends + 5000 * Config.ms)
                      ∧ (x.kind = .release → JammedAsked s t n))))
      ∧ (r.duty = some .serve → s.serveHolds = true → s.drv.serve.failed + 1 < 3 →
          t.drv.serve.failed = s.drv.serve.failed + 1)
      ∧ (r.duty = some .serve → s.serveHolds = true → 2 ≤ s.drv.serve.failed →
          t.drv.serve.failed = 3 ∧ t.drv.serve.retryDue = some (ends + 5000 * Config.ms)
            ∧ t.hasFault .drive = true) := by
  intro r ends
  have hl := resultLeaves_verifyJudged (s.advanceTo r.due) o
  have hclaim : (((s.advanceTo r.due).verifyJudged o).enterRecycle o).deriveDuties.refreshLamps.claim
      = ((s.advanceTo r.due).verifyJudged o).claim := by
    rw [derived_claim, (claims_enterRecycle _ o).claim]
  obtain ⟨hnow, hframe⟩ := driverFrame_of_tends
    (tends_derived_of (hl.tends.trans (tends_enterRecycle _ o))) (by rw [hclaim]; exact hl.claim)
  have hgo : GoesOn s (((s.advanceTo r.due).verifyJudged o).enterRecycle o).deriveDuties.refreshLamps o :=
    goesOn_enterRecycle hl.tends.kept.cfg hl.requests
  have hserve : r.duty = some .serve → s.serveHolds = true → ((s.advanceTo r.due).verifyJudged o).serveHolds = true :=
    fun _ hs => (serveHolds_of_kept hl.tends.kept).trans hs
  refine ⟨(((s.advanceTo r.due).verifyJudged o).enterRecycle o).deriveDuties.refreshLamps, exec_verifyTimeout h, hnow,
    hframe, hgo, fun hno => ?_, fun n hd => ?_, fun n x hd hx hh => verifyTimeout_eject hd hx hh rfl,
    fun hd hs hlt => ?_, fun hd hs hle => ?_⟩
  · rw [hclaim]
    exact verifyJudged_claim (s := s.advanceTo r.due) hno
  · rw [hclaim]
    exact verifyJudged_queue (s := s.advanceTo r.due) hd
  · obtain ⟨hf, -, -⟩ := serve_recycled (o := o) (hserve hd hs)
    rw [hf, verifyJudged_of_duty (s := s.advanceTo r.due) hd]
    exact failServe_short (s := s.advanceTo r.due) hlt
  · obtain ⟨hf, hr, hdr⟩ := serve_recycled (o := o) (hserve hd hs)
    rw [verifyJudged_of_duty (s := s.advanceTo r.due) hd] at hf hr hdr ⊢
    obtain ⟨h3, hdue, hdrive⟩ := failServe_third (s := s.advanceTo r.due) hle
    exact ⟨hf.trans h3, hr.trans hdue, hdr hdrive⟩

/-- Settles O49, by the result of the duty verified, its output's recycle and the derivation. -/
theorem verifyTimeout : Obligations.VerifyTimeout := by
  unfold Obligations.VerifyTimeout
  exact fun o s => ⟨verifyTimeout_settles, fun h => if_neg h⟩

end DutyTimerEnds

end Sys2Proof.Machine

namespace Sys2Proof.Machine

/-! ### EJECT_RETRY_TIMER, SERVE_RETRY_TIMER and SCOOP_DWELL_END (R167, R168, R170, R171) -/

section DutyTimerEnds

variable {s t u : State} {n : Slot} {o : Output} {x y : EjectDuty}

/-! #### The retry timer of an eject duty -/

/-- R167, R168: what the retry timer of an eject duty makes of it before the derivation. -/
def State.retryJudged (s : State) (n : Slot) (x : EjectDuty) (o : Output) : State :=
  match x.phase with
  | .attempting => s.timedFailure n
  | .retrying => s.retryEnds n s.cfg.outputs[o].disabled

theorem exec_ejectRetryTimer {due : Nat} (hx : s.drv.ejects[n] = some x) (hd : x.retryDue = some due)
    (ho : s.cfg.ejectOutput n = some o) :
    exec (.ejectRetryTimer n) s = .next (((s.advanceTo due).retryJudged n x o).deriveDuties).refreshLamps := by
  show execEjectRetryTimer n s = _
  unfold execEjectRetryTimer
  rw [hx, ho]
  dsimp only
  rw [hd]
  rfl

/-- R167: the timer of a duty in ATTEMPTING counts one failed eject. -/
theorem retryJudged_attempting (h : x.phase = .attempting) :
    s.retryJudged n x o = (s.updDrv fun d => d.updEject n fun x =>
      x.failed s.now x.await (some (s.now + Config.retryTime))).jammedAfter n := by
  unfold State.retryJudged
  rw [h]
  rfl

/-- R168: the timer of a duty in RETRYING has its pulse wanted, with the channel PRESENT and the output enabled. -/
theorem retryJudged_wants (h : x.phase = .retrying) (hb : s.boundState n = some .present)
    (hd : s.cfg.outputs[o].disabled = false) :
    s.retryJudged n x o = s.updDrv fun d => d.updEject n fun x => { x with want := true, retryDue := none } := by
  unfold State.retryJudged State.retryEnds
  rw [h]
  dsimp only
  rw [if_neg (by rw [hd]; decide), hb]

/-- R168: with the channel ABSENT and the output enabled the timer restarts. -/
theorem retryJudged_absent (h : x.phase = .retrying) (hb : s.boundState n = some .absent)
    (hd : s.cfg.outputs[o].disabled = false) :
    s.retryJudged n x o = s.updDrv fun d => d.updEject n fun x =>
      { x with retryDue := some (s.now + Config.retryTime) } := by
  unfold State.retryJudged State.retryEnds
  rw [h]
  dsimp only
  rw [if_neg (by rw [hd]; decide), hb]

/-- R168: with the output disabled, or the channel UNKNOWN or FAULT, a failed retry restarts the timer. -/
theorem retryJudged_fails (h : x.phase = .retrying)
    (hno : s.cfg.outputs[o].disabled = true ∨ s.boundState n ≠ some .present ∧ s.boundState n ≠ some .absent) :
    s.retryJudged n x o = (s.updDrv fun d => d.updEject n fun x =>
      { x with retryDue := some (s.now + Config.retryTime) }).jammedAfter n := by
  unfold State.retryJudged State.retryEnds
  rw [h]
  dsimp only
  by_cases hd : s.cfg.outputs[o].disabled = true
  · rw [if_pos hd]
  · rw [if_neg hd]
    obtain ⟨hp, ha⟩ := hno.resolve_left hd
    split
    · next hb => exact absurd hb hp
    · next hb => exact absurd hb ha
    all_goals rfl

/-- R168: a duty in RETRYING goes on with its pulse wanted, or with its timer restarted. -/
theorem ejectJudged_retrying (hx : s.drv.ejects[n] = some x) (h : x.phase = .retrying) :
    (s.boundState n = some .present ∧ s.cfg.outputs[o].disabled = false
        ∧ EjectJudged s (s.retryJudged n x o) n x { x with want := true, retryDue := none }
        ∧ (s.retryJudged n x o).claim = s.claim)
      ∨ (s.boundState n ≠ some .present ∨ s.cfg.outputs[o].disabled = true)
        ∧ EjectJudged s (s.retryJudged n x o) n x { x with retryDue := some (s.now + Config.retryTime) } := by
  by_cases hd : s.cfg.outputs[o].disabled = true
  · rw [retryJudged_fails h (.inl hd)]
    exact .inr ⟨.inr hd, ejectJudged_jammedAfter hx rfl⟩
  · have hd' : s.cfg.outputs[o].disabled = false := Bool.eq_false_iff.2 hd
    by_cases hp : s.boundState n = some .present
    · rw [retryJudged_wants h hp hd']
      exact .inl ⟨hp, hd', ejectJudged_updEject hx rfl, rfl⟩
    · by_cases ha : s.boundState n = some .absent
      · rw [retryJudged_absent h ha hd']
        exact .inr ⟨.inl hp, ejectJudged_updEject hx rfl⟩
      · rw [retryJudged_fails h (.inr ⟨hp, ha⟩)]
        exact .inr ⟨.inl hp, ejectJudged_jammedAfter hx rfl⟩

/-- R167, R168: whatever the phase, the timer's end is one result of the duty. -/
theorem ejectJudged_retryJudged (hx : s.drv.ejects[n] = some x) (o : Output) :
    ∃ y, EjectJudged s (s.retryJudged n x o) n x y := by
  cases h : x.phase with
  | attempting =>
    rw [retryJudged_attempting h]
    exact ⟨_, ejectJudged_jammedAfter hx (failed_kind _ _ _ x)⟩
  | retrying =>
    rcases ejectJudged_retrying (o := o) hx h with ⟨-, -, hj, -⟩ | ⟨-, hj⟩
    · exact ⟨_, hj⟩
    · exact ⟨_, hj⟩

/-- R167: the duty in ATTEMPTING whose retry timer has ended. -/
theorem retryTimer_attempting {due : Nat} (hx : s.drv.ejects[n] = some x) (hp : x.phase = .attempting)
    (hh : s.ejectHolds n = some x.kind)
    (ht : t = ((s.advanceTo due).retryJudged n x o).deriveDuties.refreshLamps) :
    ∃ y, t.drv.ejects[n] = some y ∧ y.kind = x.kind
      ∧ y.count = min 3 (x.count + 1) ∧ y.phase = (if x.count + 1 < 3 then .attempting else .retrying)
      ∧ (x.kind = .release → 3 ≤ x.count + 1 → JammedAsked s t n) := by
  rw [retryJudged_attempting hp] at ht
  have hj := ejectJudged_jammedAfter (s := s.advanceTo due) hx (f := fun x =>
    x.failed (s.advanceTo due).now x.await (some ((s.advanceTo due).now + Config.retryTime))) (failed_kind _ _ _ x)
  obtain ⟨y, hy, hs⟩ := derived_eject (hj.not_ended hh) hj.eject
  have hclaim := derived_claim (((s.advanceTo due).updDrv fun d => d.updEject n fun x =>
    x.failed (s.advanceTo due).now x.await (some ((s.advanceTo due).now + Config.retryTime))).jammedAfter n)
  rw [← ht] at hy hclaim
  refine ⟨y, hy, hs.kind.trans hj.kind, hs.count.trans (failed_count _ _ _ x), hs.phase.trans ?_, fun hk h3 => ?_⟩
  · rw [failed_phase, hp]
  · exact jammedAsked_of_failure (due := due) hx ((failed_kind _ _ _ x).trans hk) (failed_third _ _ _ h3).1 hclaim

/-- R168: the duty in RETRYING whose retry timer has ended. -/
theorem retryTimer_retrying {due : Nat} (hx : s.drv.ejects[n] = some x) (hp : x.phase = .retrying)
    (hh : s.ejectHolds n = some x.kind)
    (ht : t = ((s.advanceTo due).retryJudged n x o).deriveDuties.refreshLamps) :
    ∃ y, t.drv.ejects[n] = some y ∧ y.kind = x.kind ∧ y.phase = .retrying
      ∧ (s.boundState n = some .present → s.cfg.outputs[o].disabled = false →
          y.retryDue = none ∧ t.Pursues y.want (.eject n))
      ∧ (s.boundState n ≠ some .present ∨ s.cfg.outputs[o].disabled = true →
          y.retryDue = some (max s.now due + 5000 * Config.ms)) := by
  have hb : ((s.advanceTo due).retryJudged n x o).boundState n = s.boundState n := by
    obtain ⟨y, hj⟩ := ejectJudged_retryJudged (s := s.advanceTo due) hx o
    exact hj.tends.kept.boundState n
  rcases ejectJudged_retrying (s := s.advanceTo due) (o := o) hx hp with ⟨hpr, hen, hj, -⟩ | ⟨hno, hj⟩
  · obtain ⟨y, hy, hs⟩ := derived_eject (hj.not_ended hh) hj.eject
    have hpr : s.boundState n = some .present := hpr
    have hwant := hs.want (hb.trans hpr) rfl
    rw [← ht] at hy hwant
    refine ⟨y, hy, hs.kind.trans hj.kind, hs.phase.trans hp, fun _ _ => ⟨?_, hwant⟩, fun h => ?_⟩
    · exact (hs.retry hp).resolve_right fun h => h.1 (hb.trans hpr)
    · exact h.elim (absurd hpr) fun h => absurd (h.symm.trans hen) (by decide)
  · obtain ⟨y, hy, hs⟩ := derived_eject (hj.not_ended hh) hj.eject
    have hnow : ((s.advanceTo due).retryJudged n x o).now = max s.now due := hj.tends.kept.now
    rw [← ht] at hy
    refine ⟨y, hy, hs.kind.trans hj.kind, hs.phase.trans hp, fun h1 h2 => ?_, fun _ => ?_⟩
    · exact hno.elim (fun h => absurd h1 h) fun h => absurd (h.symm.trans h2) (by decide)
    · rcases hs.retry hp with h | ⟨-, h⟩
      · exact h
      · rw [h, hnow]

/-- R167, R168: what the end of an eject duty's retry timer does. -/
theorem ejectRetryTimer_settles {due : Nat} (hx : s.drv.ejects[n] = some x) (hd : x.retryDue = some due)
    (ho : s.cfg.ejectOutput n = some o) :
    ∃ t, exec (.ejectRetryTimer n) s = .next t ∧ t.now = max s.now due ∧ DriverFrame s t
      ∧ (x.kind ≠ .release → t.claim = s.claim)
      ∧ (∀ c ∈ t.claim.queue, c ∈ s.claim.queue ∨ c.payload = .jammed n)
      ∧ (s.ejectHolds n = some x.kind →
        ∃ y, t.drv.ejects[n] = some y ∧ y.kind = x.kind
        ∧ (x.phase = .attempting →
            y.count = min 3 (x.count + 1) ∧ y.phase = (if x.count + 1 < 3 then .attempting else .retrying)
            ∧ (x.kind = .release → 3 ≤ x.count + 1 → JammedAsked s t n))
        ∧ (x.phase = .retrying → s.boundState n = some .present → s.cfg.outputs[o].disabled = false →
            y.phase = .retrying ∧ y.retryDue = none
              ∧ (y.want = true ∨ t.drv.hasRequest (.eject n) = true ∨ t.drv.hasOpenAttempt (.eject n) = true))
        ∧ (x.phase = .retrying → s.boundState n ≠ some .present ∨ s.cfg.outputs[o].disabled = true →
            y.phase = .retrying ∧ y.retryDue = some (max s.now due + 5000 * Config.ms))
        ∧ (x.phase = .retrying → x.kind = .release → x.count = 3 →
            s.boundState n = some .unknown ∨ s.boundState n = some .fault ∨ s.cfg.outputs[o].disabled = true →
            JammedAsked s t n)
        ∧ (x.phase = .retrying → s.boundState n = some .present ∨ s.boundState n = some .absent →
            s.cfg.outputs[o].disabled = false → t.claim = s.claim)) := by
  obtain ⟨z, hj⟩ := ejectJudged_retryJudged (s := s.advanceTo due) hx o
  have hclaim := derived_claim ((s.advanceTo due).retryJudged n x o)
  obtain ⟨hnow, hframe⟩ := driverFrame_of_tends (tends_derived_of hj.tends) (by rw [hclaim]; exact hj.claim)
  refine ⟨((s.advanceTo due).retryJudged n x o).deriveDuties.refreshLamps, exec_ejectRetryTimer hx hd ho, hnow, hframe,
    fun hk => hclaim.trans (hj.same (.inl hk)), by rw [hclaim]; exact hj.queue, fun hh => ?_⟩
  cases hp : x.phase with
  | attempting =>
    obtain ⟨y, hy, hkind, hres⟩ := retryTimer_attempting (t := ((s.advanceTo due).retryJudged n x o).deriveDuties.refreshLamps)
      hx hp hh rfl
    exact ⟨y, hy, hkind, fun _ => hres, nofun, nofun, nofun, nofun⟩
  | retrying =>
    obtain ⟨y, hy, hkind, hphase, hwants, hrestarts⟩ := retryTimer_retrying
      (t := ((s.advanceTo due).retryJudged n x o).deriveDuties.refreshLamps) hx hp hh rfl
    refine ⟨y, hy, hkind, nofun, fun _ hb hen => ⟨hphase, hwants hb hen⟩, fun _ h => ⟨hphase, hrestarts h⟩,
      fun _ hk hc hno => ?_, fun _ hb hen => ?_⟩
    · refine jammedAsked_of_failure (due := due) (f := fun x =>
        { x with retryDue := some ((s.advanceTo due).now + Config.retryTime) }) hx hk hc (hclaim.trans ?_)
      have hstate : (s.advanceTo due).boundState n = s.boundState n := rfl
      rw [retryJudged_fails (s := s.advanceTo due) hp]
      rcases hno with hb | hb | hdis
      · exact .inr (by rw [hstate, hb]; exact ⟨nofun, nofun⟩)
      · exact .inr (by rw [hstate, hb]; exact ⟨nofun, nofun⟩)
      · exact .inl hdis
    · rw [hclaim]
      rcases hb with hb | hb
      · rw [retryJudged_wants (s := s.advanceTo due) hp hb hen]
        rfl
      · rw [retryJudged_absent (s := s.advanceTo due) hp hb hen]
        rfl

/-! #### The retry timer of the SERVE duty and the dwell of a SCOOP_KICK -/

/-- R170: the retry timer of the SERVE duty has ended, and a retry is ready. -/
def State.serveReady (s : State) : State :=
  s.updDrv fun d => d.updServe fun v => { v with retryDue := none, retryReady := true }

theorem exec_serveRetryTimer {due : Nat} (hd : s.drv.serve.retryDue = some due) :
    exec .serveRetryTimer s = .next ((s.advanceTo due).serveReady.deriveDuties).refreshLamps := by
  show execServeRetryTimer s = _
  unfold execServeRetryTimer
  rw [hd]
  rfl

theorem serveRetryTimer_settles {due : Nat} (hd : s.drv.serve.retryDue = some due) :
    ∃ t, exec .serveRetryTimer s = .next t ∧ t.now = max s.now due ∧ DriverFrame s t ∧ t.claim = s.claim
      ∧ (s.serveHolds = true → t.drv.serve.retryDue = none
        ∧ (t.drv.serve.retryReady = true ∨ t.drv.hasRequest .serve = true ∨ t.drv.hasOpenAttempt .serve = true)) := by
  have htends : Tends (s.advanceTo due) (s.advanceTo due).serveReady := tends_updDrv _ _
  have hclaim : (s.advanceTo due).serveReady.deriveDuties.refreshLamps.claim = s.claim := derived_claim _
  obtain ⟨hnow, hframe⟩ := driverFrame_of_tends (tends_derived_of htends) (by rw [hclaim])
  refine ⟨(s.advanceTo due).serveReady.deriveDuties.refreshLamps, exec_serveRetryTimer hd, hnow, hframe, hclaim, fun hs => ?_⟩
  obtain ⟨-, hretry, hready⟩ := derived_serve (u := (s.advanceTo due).serveReady) hs
  exact ⟨hretry, hready rfl⟩

/-- R171: the dwell of a SCOOP_KICK has ended, and its pulse is wanted. -/
def State.dwellEnded (s : State) (n : Switch) : State :=
  s.updDrv fun d => d.updScoop n fun y => { y with dwellDue := none, want := true }

theorem exec_scoopDwellEnd {n : Switch} {x : ScoopDuty} {due : Nat} (hx : s.drv.scoops[n] = some x)
    (hd : x.dwellDue = some due) :
    exec (.scoopDwellEnd n) s = .next (((s.advanceTo due).dwellEnded n).deriveDuties).refreshLamps := by
  show execScoopDwellEnd n s = _
  unfold execScoopDwellEnd
  rw [hx]
  dsimp only
  rw [hd]
  rfl

theorem scoopDwellEnd_settles {n : Switch} {x : ScoopDuty} {due : Nat} (hx : s.drv.scoops[n] = some x)
    (hd : x.dwellDue = some due) :
    ∃ t, exec (.scoopDwellEnd n) s = .next t ∧ t.now = max s.now due ∧ DriverFrame s t ∧ t.claim = s.claim
      ∧ (x.await = false → ∃ y, t.drv.scoops[n] = some y ∧ y.dwellDue = none
        ∧ (y.want = true ∨ t.drv.hasRequest (.scoop n) = true ∨ x.pulses < y.pulses)) := by
  have htends : Tends (s.advanceTo due) ((s.advanceTo due).dwellEnded n) := tends_updDrv _ _
  have hclaim : ((s.advanceTo due).dwellEnded n).deriveDuties.refreshLamps.claim = s.claim := derived_claim _
  obtain ⟨hnow, hframe⟩ := driverFrame_of_tends (tends_derived_of htends) (by rw [hclaim])
  refine ⟨((s.advanceTo due).dwellEnded n).deriveDuties.refreshLamps, exec_scoopDwellEnd hx hd, hnow, hframe, hclaim,
    fun ha => ?_⟩
  have hended : ((s.advanceTo due).dwellEnded n).drv.scoops[n] = some { x with dwellDue := none, want := true } := by
    show (s.drv.updScoop n _).scoops[n] = _
    rw [updScoop_get, if_pos rfl, hx]
    rfl
  obtain ⟨y, hy, hdwell, hwant⟩ := derived_scoop hended ha
  exact ⟨y, hy, hdwell, hwant rfl⟩

/-! #### A timer that does not run -/

theorem exec_serveRetryTimer_none (h : s.drv.serve.retryDue = none) : exec .serveRetryTimer s = .next s := by
  show execServeRetryTimer s = _
  unfold execServeRetryTimer
  rw [h]

theorem exec_ejectRetryTimer_none (h : s.drv.ejects[n] = none) : exec (.ejectRetryTimer n) s = .next s := by
  show execEjectRetryTimer n s = _
  unfold execEjectRetryTimer
  rw [h]

theorem exec_scoopDwellEnd_none {n : Switch} (h : s.drv.scoops[n] = none) : exec (.scoopDwellEnd n) s = .next s := by
  show execScoopDwellEnd n s = _
  unfold execScoopDwellEnd
  rw [h]

/-- Settles O50, by what each timer's end makes of its duty, and what the derivation leaves of it. -/
theorem dutyTimers : Obligations.DutyTimers := by
  unfold Obligations.DutyTimers
  exact fun s => ⟨fun _ _ _ _ => ejectRetryTimer_settles, fun _ => serveRetryTimer_settles, fun _ _ _ => scoopDwellEnd_settles,
    exec_serveRetryTimer_none, fun _ => exec_ejectRetryTimer_none, fun _ => exec_scoopDwellEnd_none⟩

end DutyTimerEnds

end Sys2Proof.Machine

namespace Sys2Proof.Machine

/-! ### The timers' claims, built at an event of their own (R134, R135) -/

section TimersClaims

variable {s : State}

/-- R128: a claim that is no LAUNCHED joins the queue, and nothing else changes. -/
theorem addClaim_eq {p : Payload} (o : Origin) (hp : p ≠ .launched) :
    s.addClaim p o =
      { s with
        claim := { s.claim with
          queue := insertClaim (s.newClaim p o) s.claim.queue
          serial := s.claim.serial + 1 } } := by
  have hl : launchedClaims (insertClaim (s.newClaim p o) s.claim.queue) = launchedClaims s.claim.queue :=
    launchedClaims_insertClaim (c := s.newClaim p o) hp
  unfold State.addClaim State.setQueue
  rw [hl, Nat.sub_self, Nat.sub_zero]
  rfl

/-- R130: with room a claim that the station may build joins the queue. -/
theorem build_room {p : Payload} (o : Origin) (hm : s.mayBuild p.kind = true) (hl : s.claim.queue.length < 8) :
    s.build p o = s.addClaim p o := by
  unfold State.build State.enterClaim
  rw [if_pos hm, if_pos (show s.claim.queue.length < Config.claimCapacity from hl)]

/-- R130: what bars a MEMBER from building. -/
theorem build_of_not_free {p : Payload} (o : Origin) (h : ¬s.FreeMember) (hm : s.ctl.state = .member) :
    s.build p o = s := by
  refine if_neg fun hb => h ?_
  unfold State.mayBuild at hb
  simp only [Bool.and_eq_true, Bool.not_eq_true'] at hb
  obtain ⟨⟨⟨hlis, hmut⟩, hv⟩, -⟩ := hb
  exact ⟨hm, hlis, hmut, hv⟩

theorem hasClaim_eq_false {p : Payload → Bool} : s.hasClaim p = false ↔ ∀ c ∈ s.claim.queue, p c.payload = false := by
  simp [State.hasClaim]

theorem exec_tickTimerExpiry {due : Nat} (h : s.claim.tickTimer = .running due) :
    exec .tickTimerExpiry s =
      .next { atTime s (max s.now due) with claim := { s.claim with tickTimer := .expired } } := by
  show execTickTimerExpiry s = _
  unfold execTickTimerExpiry
  rw [h]
  rfl

theorem exec_tickTimerExpiry_not (h : ∀ due, s.claim.tickTimer ≠ .running due) :
    exec .tickTimerExpiry s = .next s := by
  show execTickTimerExpiry s = _
  unfold execTickTimerExpiry
  split
  · next due hd => exact absurd hd (h due)
  · rfl
  · rfl

/-- R134: an EXPIRED timer's TICK is built at a moment that allows it. -/
theorem buildTick_eq (ht : s.claim.tickTimer = .expired) (hf : s.FreeMember) (hl : s.claim.queue.length < 8)
    (hno : s.hasClaim Payload.isTick = false) : s.buildTick = s.addClaim (.tick (s.table.tick + 1#16)) .timer :=
  (if_pos (tickClaimReady_iff.2 ⟨ht, hf.member, hno, hl⟩)).trans (build_room _ (hf.mayBuild nofun) hl)

/-- R134: and at no other. -/
theorem buildTick_not (h : s.claim.tickTimer ≠ .expired ∨ ¬(s.FreeMember ∧ s.claim.queue.length < 8)
    ∨ s.hasClaim Payload.isTick = true) : s.buildTick = s := by
  unfold State.buildTick
  split
  · next hr =>
    obtain ⟨ht, hm, hno, hl⟩ := tickClaimReady_iff.1 hr
    rcases h with h | h | h
    · exact absurd ht h
    · exact build_of_not_free _ (fun hf => h ⟨hf, hl⟩) hm
    · exact absurd (h.symm.trans hno) (by decide)
  · rfl

/-- R135: a full presence count's PRESENCE is built at a moment that allows it. -/
theorem buildPresence_eq {ordinal : Word32} {digest : Word16} (hp : s.claim.presence = 10) (hf : s.FreeMember)
    (hl : s.claim.queue.length < 8) (hno : s.hasClaim Payload.isPresence = false)
    (hh : s.eng.history.getLast? = some (ordinal, digest)) :
    s.buildPresence = s.addClaim (.presence (ordinal.truncate 16) digest s.ctl.faults) .timer := by
  unfold State.buildPresence
  rw [hh]
  exact (if_pos (presenceClaimReady_iff.2 ⟨hp, hf.member, hno, hl⟩)).trans (build_room _ (hf.mayBuild nofun) hl)

/-- R135: and at no other. -/
theorem buildPresence_not (h : s.claim.presence ≠ 10 ∨ ¬(s.FreeMember ∧ s.claim.queue.length < 8)
    ∨ s.hasClaim Payload.isPresence = true ∨ s.eng.history = []) : s.buildPresence = s := by
  unfold State.buildPresence
  split
  · next e hlast =>
    split
    · next hr =>
      obtain ⟨hp, hm, hno, hl⟩ := presenceClaimReady_iff.1 hr
      rcases h with h | h | h | h
      · exact absurd hp h
      · exact build_of_not_free _ (fun hf => h ⟨hf, hl⟩) hm
      · exact absurd (h.symm.trans hno) (by decide)
      · rw [h] at hlast
        cases hlast
    · rfl
  · rfl

/-- R130: the station may build and has room, in the words of the statement. -/
theorem freeMember_room_iff :
    (s.FreeMember ∧ s.claim.queue.length < 8) ↔
      s.ctl.state = .member ∧ s.ctl.listener = false ∧ s.bus.muted = false ∧ s.isValid = true
        ∧ s.claim.queue.length < 8 :=
  ⟨fun ⟨hf, hl⟩ => ⟨hf.member, hf.listener, hf.muted, hf.valid, hl⟩,
    fun ⟨hm, hli, hmu, hv, hl⟩ => ⟨⟨hm, hli, hmu, hv⟩, hl⟩⟩

/-- Settles O41, by the two timers' claims at a moment that allows them and at any other. -/
theorem timersClaims : Obligations.TimersClaims := by
  unfold Obligations.TimersClaims
  intro s entered free
  refine ⟨fun _ => exec_tickTimerExpiry, exec_tickTimerExpiry_not, fun ht hfree hno => ?_, fun h => ?_,
    fun ordinal digest hp hfree hno hh => ?_, fun h => ?_⟩
  · obtain ⟨hf, hl⟩ := freeMember_room_iff.2 hfree
    exact congrArg Host.Outcome.next ((buildTick_eq ht hf hl (hasClaim_eq_false.2 hno)).trans (addClaim_eq _ nofun))
  · exact congrArg Host.Outcome.next (buildTick_not
      (h.imp_right (Or.imp freeMember_room_iff.not.2 hasClaim_iff.2)))
  · obtain ⟨hf, hl⟩ := freeMember_room_iff.2 hfree
    exact congrArg Host.Outcome.next
      ((buildPresence_eq hp hf hl (hasClaim_eq_false.2 hno) hh).trans (addClaim_eq _ nofun))
  · exact congrArg Host.Outcome.next (buildPresence_not
      (h.imp_right (Or.imp freeMember_room_iff.not.2 (Or.imp_left hasClaim_iff.2))))

end TimersClaims

end Sys2Proof.Machine

namespace Sys2Proof.Machine

/-! ### Attempts that close together (R163, R167, R169, R170) -/

section AttemptsClose

variable {s t u : State} {n : Slot} {o : Output} {id : DutyId}

/-- Turns under a guard that the turns of others leave alone are the turns of those that it lets in at the start. -/
theorem foldl_guarded {α β : Type} {c : β → α → Prop} [∀ s a, Decidable (c s a)] {g : β → α → β}
    (hc : ∀ s a b, b ≠ a → (c (g s a) b ↔ c s b)) {l : List α} (hl : l.Nodup) (s : β) :
    l.foldl (fun s a => if c s a then g s a else s) s = (l.filter fun a => decide (c s a)).foldl g s := by
  induction l generalizing s with
  | nil => rfl
  | cons a l ih =>
    obtain ⟨ha, hl⟩ := List.nodup_cons.1 hl
    rw [List.foldl_cons, List.filter_cons]
    by_cases h : c s a
    · rw [if_pos h, if_pos (decide_eq_true h), List.foldl_cons, ih hl]
      refine congrArg (List.foldl g (g s a)) (List.filter_congr fun b hb => ?_)
      exact decide_eq_decide.2 (hc s a b fun hba => ha (hba ▸ hb))
    · rw [if_neg h, if_neg (by simpa using h), ih hl]

theorem nodup_indices (n : Nat) : (indices n).Nodup := List.nodup_finRange n

/-- R163: the attempt of output `o` has closed between `d` and `e`: a pulse runs on, a verification recycles, and a recycle
of 0 passes straight on. -/
structure AttemptShut (c : StationConfig) (now : Nat) (o : Output) (d e : DriverUnit) : Prop where
  closed   : e.outputs[o].attemptOpen = false
  pulse    : d.outputs[o].state = .pulse → e.outputs[o] = { d.outputs[o] with attemptOpen := false }
  recycles : d.outputs[o].state = .verify → 0 < c.outputs[o].recycle → e.outputs[o] =
    { state := .recycle, duty := none, attemptOpen := false, due := now + c.outputs[o].recycle * Config.ms }
  passes   : d.outputs[o].state = .verify → c.outputs[o].recycle = 0 → (d.requests.map Request.output).Nodup → Placed e o

/-- R163: between `d` and `e` the attempts of the outputs of `l` have closed, and nothing has come of it for the requests
and the other outputs. -/
structure AttemptsShut (c : StationConfig) (now : Nat) (l : List Output) (d e : DriverUnit) : Prop where
  requests : e.requests = d.requests
  others   : ∀ k : Output, k ∉ l → e.outputs[k] = d.outputs[k]
  shut     : ∀ o ∈ l, AttemptShut c now o d e

variable {c : StationConfig} {now : Nat} {d e f : DriverUnit}

/-- What has closed stays so while the requests and the output stay. -/
theorem AttemptShut.after (h : AttemptShut c now o d e) (hr : f.requests = e.requests) (ho : f.outputs[o] = e.outputs[o]) :
    AttemptShut c now o d f where
  closed := ho ▸ h.closed
  pulse hp := ho.trans (h.pulse hp)
  recycles hv hc := ho.trans (h.recycles hv hc)
  passes hv hc hn := by
    have hp := h.passes hv hc hn
    refine ⟨hr ▸ hp.nodup, ho ▸ h.closed, ?_⟩
    rw [ho, hr]
    exact hp.place

/-- What closes later closes from the same start. -/
theorem AttemptShut.before (h : AttemptShut c now o e f) (hr : e.requests = d.requests) (ho : e.outputs[o] = d.outputs[o]) :
    AttemptShut c now o d f where
  closed := h.closed
  pulse hp := by rw [← ho] at hp ⊢; exact h.pulse hp
  recycles hv := h.recycles (ho ▸ hv)
  passes hv hc hn := h.passes (ho ▸ hv) hc (hr ▸ hn)

namespace AttemptsShut

theorem nil (hr : e.requests = d.requests) (ho : e.outputs = d.outputs) : AttemptsShut c now [] d e :=
  ⟨hr, fun k _ => by rw [ho], nofun⟩

theorem cons {l : List Output} (h : AttemptsShut c now [o] d e) (g : AttemptsShut c now l e f) (ho : o ∉ l) :
    AttemptsShut c now (o :: l) d f where
  requests := g.requests.trans h.requests
  others k hk := by
    obtain ⟨hko, hkl⟩ := not_or.1 (List.mem_cons.not.1 hk)
    exact (g.others k hkl).trans (h.others k (by simpa using hko))
  shut k hk := by
    rcases List.mem_cons.1 hk with rfl | hk
    · exact (h.shut k (List.mem_singleton_self k)).after g.requests (g.others k ho)
    · have hko : k ∉ [o] := fun hmem => ho (List.mem_singleton.1 hmem ▸ hk)
      exact (g.shut k hk).before h.requests (h.others k hko)

/-- Outputs whose attempts close one after another. -/
theorem foldl {g : State → Output → State} (hk : ∀ s o, Kept s (g s o))
    (hg : ∀ s o, AttemptsShut s.cfg s.now [o] s.drv (g s o).drv) {l : List Output} (hl : l.Nodup) (s : State) :
    AttemptsShut s.cfg s.now l s.drv (l.foldl g s).drv := by
  induction l generalizing s with
  | nil => exact nil rfl rfl
  | cons o l ih =>
    obtain ⟨ho, hl⟩ := List.nodup_cons.1 hl
    have h := ih hl (g s o)
    rw [(hk s o).cfg, (hk s o).now] at h
    exact (hg s o).cons h ho

end AttemptsShut

theorem enterRecycle_output (h : 0 < s.cfg.outputs[o].recycle) : (s.enterRecycle o).drv.outputs[o] =
    { state := .recycle, duty := none, attemptOpen := false, due := s.now + s.cfg.outputs[o].recycle * Config.ms } := by
  unfold State.enterRecycle
  rw [if_neg (Nat.ne_of_gt h)]
  exact (updOutput_get s.drv o o _).trans (if_pos rfl)

theorem enterRecycle_passes (h : s.cfg.outputs[o].recycle = 0) : s.enterRecycle o = s.leaveRecycle o := if_pos h

theorem enterRecycle_closed (s : State) (o : Output) : (s.enterRecycle o).drv.outputs[o].attemptOpen = false := by
  rcases Nat.eq_zero_or_pos s.cfg.outputs[o].recycle with h | h
  · rw [enterRecycle_passes h, leaveRecycle_output]
  · rw [enterRecycle_output h]

theorem closeAttempt_verify (h : s.drv.outputs[o].state = .verify) : s.closeAttempt o = s.enterRecycle o := if_pos h

theorem closeAttempt_output (h : s.drv.outputs[o].state ≠ .verify) :
    (s.closeAttempt o).drv.outputs[o] = { s.drv.outputs[o] with attemptOpen := false } := by
  unfold State.closeAttempt
  rw [if_neg h]
  exact (updOutput_get s.drv o o _).trans (if_pos rfl)

/-- R163: one attempt closes. -/
theorem attemptsShut_closeAttempt (s : State) (o : Output) :
    AttemptsShut s.cfg s.now [o] s.drv (s.closeAttempt o).drv := by
  have hr := recycling_closeAttempt s o
  refine ⟨hr.requests, fun k hk => hr.outputs k (by simpa using hk), fun k hk => ?_⟩
  obtain rfl := List.mem_singleton.1 hk
  by_cases hv : s.drv.outputs[k].state = .verify
  · rw [closeAttempt_verify hv]
    refine ⟨enterRecycle_closed s k, fun hp => absurd (hp.symm.trans hv) nofun, fun _ => enterRecycle_output,
      fun _ hc hn => ?_⟩
    rw [enterRecycle_passes hc]
    exact placed_leaveRecycle s k hn
  · have ho := closeAttempt_output hv
    exact ⟨by rw [ho], fun _ => ho, fun h => absurd h hv, fun h => absurd h hv⟩

/-- The outputs with an open attempt of the duty. -/
def State.attemptsOf (s : State) (id : DutyId) : List Output :=
  (indices 8).filter fun o => decide (s.drv.outputs[o].attemptOpen = true ∧ s.drv.outputs[o].duty = some id)

theorem mem_attemptsOf : o ∈ s.attemptsOf id ↔ s.drv.outputs[o].attemptOpen = true ∧ s.drv.outputs[o].duty = some id := by
  simp [State.attemptsOf]

theorem nodup_attemptsOf (s : State) (id : DutyId) : (s.attemptsOf id).Nodup := (nodup_indices 8).filter _

/-- R169, R170: the open attempts of a duty close. -/
theorem closeAttempts_eq {l : List Output} (hl : l.Nodup) (s : State) (id : DutyId) :
    l.foldl (fun s o =>
      if s.drv.outputs[o].attemptOpen ∧ s.drv.outputs[o].duty = some id then s.closeAttempt o else s) s
      = (l.filter fun o => decide (s.drv.outputs[o].attemptOpen = true ∧ s.drv.outputs[o].duty = some id)).foldl
          State.closeAttempt s := by
  refine foldl_guarded (g := State.closeAttempt)
    (c := fun (s : State) o => s.drv.outputs[o].attemptOpen = true ∧ s.drv.outputs[o].duty = some id)
    (fun s a b hb => ?_) hl s
  rw [(recycling_closeAttempt s a).outputs b hb]

theorem attemptsShut_attemptsOf (s : State) (id : DutyId) :
    AttemptsShut s.cfg s.now (s.attemptsOf id) s.drv ((s.attemptsOf id).foldl State.closeAttempt s).drv :=
  .foldl kept_closeAttempt attemptsShut_closeAttempt (nodup_attemptsOf s id) s

theorem endDuty_eq (s : State) (id : DutyId) :
    s.endDuty id = ((s.updDrv fun d => d.dropRequest id).attemptsOf id).foldl State.closeAttempt
      (s.updDrv fun d => d.dropRequest id) := closeAttempts_eq (nodup_indices 8) _ id

theorem confirmServe_eq (s : State) : s.confirmServe = (s.attemptsOf .serve).foldl State.closeAttempt s :=
  closeAttempts_eq (nodup_indices 8) s .serve

/-- R169: behind a duty's end no request and no attempt of it is left. -/
theorem endDuty_leaves_none (s : State) (id : DutyId) : ¬RequestWaits (s.endDuty id) id ∧ ¬AttemptOpen (s.endDuty id) id := by
  have h := attemptsShut_attemptsOf (s.updDrv fun d => d.dropRequest id) id
  rw [← endDuty_eq] at h
  refine ⟨fun ⟨q, hq, hid⟩ => ?_, fun ⟨o, ho, hid⟩ => ?_⟩
  · rw [h.requests] at hq
    exact (mem_dropRequest.1 hq).2 hid
  · by_cases hm : o ∈ (s.updDrv fun d => d.dropRequest id).attemptsOf id
    · rw [(h.shut o hm).closed] at ho
      cases ho
    · rw [h.others o hm] at ho hid
      exact hm (mem_attemptsOf.2 ⟨ho, hid⟩)

/-- R163: an attempt that has closed, behind a derivation. -/
theorem AttemptShut.derived (h : AttemptShut s.cfg s.now o s.drv u.drv) (hc : u.cfg = s.cfg) (hn : u.now = s.now) :
    (s.drv.outputs[o].state = .pulse →
        u.deriveDuties.refreshLamps.drv.outputs[o] = { s.drv.outputs[o] with attemptOpen := false })
      ∧ (s.drv.outputs[o].state = .verify → GoesOn s u.deriveDuties.refreshLamps o) := by
  have hk := kept_derived u (.refl u)
  refine ⟨fun hp => ?_, fun hv => ⟨fun h0 => ?_, fun h0 hnodup => derived_passedOn (h.passes hv h0 hnodup)⟩⟩
  · have ho := h.pulse hp
    refine (derived_output ?_ ?_ ?_).trans ho
    · rw [ho, hp]
      nofun
    · rw [ho, hp]
      nofun
    · rw [h.closed]
      nofun
  · have ho := h.recycles hv h0
    unfold Recycles
    rw [hk.now, hk.cfg, hc, hn]
    refine (derived_output ?_ ?_ ?_).trans ho
    · rw [ho]
      nofun
    · rw [ho]
      nofun
    · rw [h.closed]
      nofun

end AttemptsClose

end Sys2Proof.Machine

namespace Sys2Proof.Machine

/-! ### A SCOOP_KICK that asks for nothing, through a derivation (R166, R171) -/

section ScoopRests

/-- R171: the SCOOP_KICK of a switch, if there is one, neither wants its pulse nor waits for its output, and no request and
no attempt of it is left. -/
structure DriverUnit.ScoopRests (d : DriverUnit) (n : Switch) : Prop where
  still    : ∀ x, d.scoops[n] = some x → x.want = false ∧ x.await = false
  requests : ∀ q ∈ d.requests, q.duty ≠ .scoop n
  attempts : ∀ o : Output, d.outputs[o].attemptOpen = true → d.outputs[o].duty ≠ some (.scoop n)

/-- From `s` to `t` a SCOOP_KICK that asks for nothing stays as it is. -/
def RestsOn (n : Switch) (s t : State) : Prop :=
  s.drv.ScoopRests n → t.drv.ScoopRests n ∧ t.drv.scoops[n] = s.drv.scoops[n]

namespace RestsOn

variable {n : Switch} {s t u : State}

theorem refl : RestsOn n s s := fun h => ⟨h, rfl⟩

theorem trans (h : RestsOn n s t) (g : RestsOn n t u) : RestsOn n s u := fun hs =>
  have ⟨ht, he⟩ := h hs
  have ⟨hu, he'⟩ := g ht
  ⟨hu, he'.trans he⟩

theorem ite {p : Prop} [Decidable p] (h : RestsOn n s t) (g : RestsOn n s u) : RestsOn n s (if p then t else u) := by
  split <;> assumption

theorem foldl {α : Type} {f : State → α → State} (hf : ∀ s a, RestsOn n s (f s a)) (l : List α) (s : State) :
    RestsOn n s (l.foldl f s) := by
  induction l generalizing s with
  | nil => exact refl
  | cons a l ih => exact (hf s a).trans (ih (f s a))

/-- What enters no request of the SCOOP_KICK, opens no attempt of it and leaves its record leaves it at rest. -/
theorem of_driver (hs : s.drv.ScoopRests n → t.drv.scoops[n] = s.drv.scoops[n])
    (hr : ∀ q ∈ t.drv.requests, q ∈ s.drv.requests ∨ q.duty ≠ .scoop n)
    (ho : s.drv.ScoopRests n → ∀ o : Output, t.drv.outputs[o].attemptOpen = true →
      t.drv.outputs[o].duty ≠ some (.scoop n)) : RestsOn n s t := fun h =>
  ⟨⟨fun x hx => h.still x ((hs h).symm.trans hx), fun q hq => (hr q hq).elim (h.requests q) id, ho h⟩, hs h⟩

/-- What leaves the outputs, the requests and the SCOOP_KICKs. -/
theorem of_same (ho : t.drv.outputs = s.drv.outputs) (hr : t.drv.requests = s.drv.requests)
    (hs : t.drv.scoops = s.drv.scoops) : RestsOn n s t :=
  of_driver (fun _ => by rw [hs]) (fun q hq => .inl (hr ▸ hq)) fun h => ho ▸ h.attempts

end RestsOn

variable (n : Switch) (s : State)

theorem rests_putFaults (x : Byte) : RestsOn n s (s.putFaults x) := by
  rw [putFaults_eq]
  exact .of_same rfl rfl rfl

theorem rests_updServe (f : ServeRecord → ServeRecord) : RestsOn n s (s.updDrv fun d => d.updServe f) :=
  .of_same rfl rfl rfl
theorem rests_updEject (k : Slot) (f : EjectDuty → EjectDuty) : RestsOn n s (s.updDrv fun d => d.updEject k f) :=
  .of_same rfl rfl rfl
theorem rests_setEject (k : Slot) (x : Option EjectDuty) : RestsOn n s (s.updDrv fun d => d.setEject k x) :=
  .of_same rfl rfl rfl

theorem rests_settleBounce (k : Slot) : RestsOn n s (s.settleBounce k) := RestsOn.ite .refl (.of_same rfl rfl rfl)

theorem rests_dropRequest (id : DutyId) : RestsOn n s (s.updDrv fun d => d.dropRequest id) := by
  refine .of_driver (fun _ => rfl) (fun q hq => .inl (mem_dropRequest.1 hq).1) fun h o => ?_
  show (s.drv.dropRequest id).outputs[o].attemptOpen = true → (s.drv.dropRequest id).outputs[o].duty ≠ _
  rw [dropRequest_output]
  split
  · exact h.attempts o
  · exact h.attempts o

/-- R164: a request of another duty is entered. -/
theorem rests_enterRequest (o : Output) {id : DutyId} (hid : id ≠ .scoop n) :
    RestsOn n s (s.updDrv fun d => d.enterRequest o id) := by
  refine .of_driver (fun _ => rfl) (fun q hq => (mem_enterRequest.1 hq).imp_right fun he => by rwa [he]) fun h k => ?_
  show (s.drv.enterRequest o id).outputs[k].attemptOpen = true → (s.drv.enterRequest o id).outputs[k].duty ≠ _
  rw [enterRequest_output]
  split
  · exact h.attempts k
  · exact h.attempts k

theorem updScoop_other {k : Switch} (hk : n ≠ k) (f : ScoopDuty → ScoopDuty) :
    RestsOn n s (s.updDrv fun d => d.updScoop k f) :=
  .of_driver (fun _ => (updScoop_get s.drv k n f).trans (if_neg hk)) (fun _ hq => .inl hq) fun h => h.attempts

variable {n s} in
/-- R171: the end of an output's recycle moves the SCOOP_KICK that waits for it alone. -/
theorem closeAttempt_scoop (o : Output) (h : ∀ x, s.drv.scoops[n] = some x → x.await = false) :
    (s.closeAttempt o).drv.scoops[n] = s.drv.scoops[n] := by
  cases hx : s.drv.scoops[n] with
  | some x => exact (recycling_closeAttempt s o).scoops n x hx (h x hx)
  | none =>
    have hleave : (s.leaveRecycle o).drv.scoops[n] = none := by
      refine (vmap_get_fin _ s.drv.scoops n).trans ?_
      rw [hx]
    unfold State.closeAttempt State.enterRecycle
    split
    · split
      · exact hleave
      · exact hx
    · exact hx

theorem rests_closeAttempt (o : Output) : RestsOn n s (s.closeAttempt o) := by
  have hshut := attemptsShut_closeAttempt s o
  refine .of_driver (fun h => closeAttempt_scoop o fun x hx => (h.still x hx).2) (fun q hq => .inl (hshut.requests ▸ hq))
    fun h k hk => ?_
  by_cases ho : k = o
  · subst ho
    rw [(hshut.shut k (List.mem_singleton_self k)).closed] at hk
    cases hk
  · rw [hshut.others k (by simpa using ho)] at hk ⊢
    exact h.attempts k hk

theorem rests_endDuty (id : DutyId) : RestsOn n s (s.endDuty id) := by
  rw [endDuty_eq]
  exact (rests_dropRequest n s id).trans (.foldl (rests_closeAttempt n) _ _)

theorem rests_settleEject (k : Slot) : RestsOn n s (s.settleEject k) := by
  have h0 := rests_settleBounce n s k
  exact RestsOn.ite h0 ((RestsOn.ite (h0.trans (rests_endDuty n _ _)) h0).trans (rests_setEject n _ k _))

theorem rests_settleServe : RestsOn n s s.settleServe := by
  have h1 := RestsOn.ite (p := (s.isValid && s.table.isTrough s.ctl.station) = true) .refl
    (rests_updServe n s fun v => { v with launches := 0 })
  have h2 := (h1.trans (rests_endDuty n _ .serve)).trans (rests_updServe n _ fun v =>
    { v with holds := false, failed := 0, retryDue := none, retryReady := false, await := false })
  have h3 := h1.trans (rests_updServe n _ fun v => { v with holds := true })
  exact RestsOn.ite (RestsOn.ite (h3.trans (rests_putFaults n _ _)) h3)
    (RestsOn.ite (RestsOn.ite (h2.trans (rests_putFaults n _ _)) h2) h1)

theorem rests_tendEject (k : Slot) : RestsOn n s (s.tendEject k) := by
  have h0 := RestsOn.ite (p := s.boundState k = some .present) .refl (rests_dropRequest n s (.eject k))
  unfold State.tendEject
  split
  · dsimp only
    split
    · exact h0.trans (rests_updEject n _ k _)
    · exact RestsOn.ite (h0.trans (rests_updEject n _ k _)) h0
  · exact .refl

theorem rests_askEject (k : Slot) : RestsOn n s (s.askEject k) := by
  unfold State.askEject
  split
  · next o _ _ =>
    exact RestsOn.ite ((rests_enterRequest n s o (id := .eject k) nofun).trans (rests_updEject n _ k _)) .refl
  · exact .refl

theorem rests_askServe : RestsOn n s s.askServe := by
  unfold State.askServe
  split
  · exact .refl
  · next o _ =>
    exact RestsOn.ite ((rests_enterRequest n s o (id := .serve) nofun).trans (rests_updServe n _ _)) .refl

/-- R171: a SCOOP_KICK that wants no pulse asks for none. -/
theorem askScoop_of_still (h : ∀ x, s.drv.scoops[n] = some x → x.want = false) : s.askScoop n = s := by
  unfold State.askScoop
  split
  · next x hx => exact if_neg fun hw => Bool.false_ne_true ((h x hx).symm.trans hw.1)
  · rfl

theorem rests_askScoop (k : Switch) : RestsOn n s (s.askScoop k) := by
  by_cases hk : n = k
  · subst hk
    intro h
    rw [askScoop_of_still n s fun x hx => (h.still x hx).1]
    exact ⟨h, rfl⟩
  · unfold State.askScoop
    split
    · next x _ =>
      exact RestsOn.ite ((rests_enterRequest n s x.driver (id := .scoop k) fun he => hk (DutyId.scoop.inj he).symm).trans
        (updScoop_other n _ hk _)) .refl
    · exact .refl

/-- R165: the arbiter's walk leaves the SCOOP_KICK of a switch with no request. -/
theorem walk_scoop_other (c : StationConfig) (now : Nat) (rest kept : List Request) (d : DriverUnit)
    (h : ∀ q ∈ rest, q.duty ≠ .scoop n) : (DriverUnit.walk c now kept rest d).scoops[n] = d.scoops[n] := by
  induction rest generalizing kept d with
  | nil => rfl
  | cons r rest ih =>
    unfold DriverUnit.walk
    split
    · rw [ih _ _ fun q hq => h q (List.mem_cons_of_mem r hq), grant_scoop, if_neg (h r List.mem_cons_self)]
    · exact ih _ _ fun q hq => h q (List.mem_cons_of_mem r hq)

theorem rests_arbiter : RestsOn n s s.arbiter := by
  refine .of_driver (fun h => walk_scoop_other n s.cfg s.now _ [] s.drv h.requests)
    (fun q hq => .inl ((walk_requests_sublist s.cfg s.now s.drv.requests [] s.drv).subset hq)) fun h o => ?_
  rcases walk_output s.cfg s.now s.drv.requests [] s.drv o with hsame | ⟨-, r, hr, -, hpulse⟩
  · rw [show s.arbiter.drv.outputs[o] = s.drv.outputs[o] from hsame]
    exact h.attempts o
  · rw [show s.arbiter.drv.outputs[o] = pulseOf s.cfg s.now r from hpulse]
    exact fun _ he => h.requests r hr (Option.some.inj he)

theorem rests_dutiesAsked : RestsOn n s s.dutiesAsked := by
  have h1 := (RestsOn.foldl (rests_settleEject n) (indices 8) s).trans (rests_settleServe n _)
  have h2 := h1.trans (.foldl (rests_tendEject n) (indices 8) _)
  have h3 := (h2.trans (.foldl (rests_askEject n) (indices 8) _)).trans (rests_askServe n _)
  exact h3.trans (.foldl (rests_askScoop n) (indices 32) _)

theorem rests_refreshLamps : RestsOn n s s.refreshLamps := .of_same rfl rfl rfl

/-- R166: a derivation leaves a SCOOP_KICK that asks for nothing. -/
theorem rests_derived : RestsOn n s s.deriveDuties.refreshLamps := by
  rw [deriveDuties_eq]
  exact ((rests_dutiesAsked n s).trans (rests_arbiter n _)).trans (rests_refreshLamps n _)

theorem setScoop_get (d : DriverUnit) (n k : Switch) (x : Option ScoopDuty) :
    (d.setScoop n x).scoops[k] = if k = n then x else d.scoops[k] := vmap_get_fin _ _ k

/-- R169, R171: a SCOOP_KICK that is ended and put as `x`. -/
def State.scoopPut (s : State) (n : Switch) (x : Option ScoopDuty) : State :=
  (s.endDuty (.scoop n)).updDrv fun d => d.setScoop n x

theorem scoopPut_scoop (x : Option ScoopDuty) : (s.scoopPut n x).drv.scoops[n] = x :=
  (setScoop_get _ n n x).trans (if_pos rfl)

variable {n s}

theorem scoopRests_setScoop {x : Option ScoopDuty} (hr : ¬RequestWaits s (.scoop n)) (ha : ¬AttemptOpen s (.scoop n))
    (hx : ∀ y, x = some y → y.want = false ∧ y.await = false) : (s.drv.setScoop n x).ScoopRests n := by
  refine ⟨fun y hy => hx y ?_, fun q hq hd => hr ⟨q, hq, hd⟩, fun o ho hd => ha ⟨o, ho, hd⟩⟩
  rwa [setScoop_get, if_pos rfl] at hy

theorem scoopRests_scoopPut {x : Option ScoopDuty} (hx : ∀ y, x = some y → y.want = false ∧ y.await = false) :
    (s.scoopPut n x).drv.ScoopRests n := by
  obtain ⟨hnoreq, hnoatt⟩ := endDuty_leaves_none s (.scoop n)
  exact scoopRests_setScoop hnoreq hnoatt hx

theorem DriverUnit.ScoopRests.none_left {t : State} (h : t.drv.ScoopRests n) :
    ¬RequestWaits t (.scoop n) ∧ ¬AttemptOpen t (.scoop n) :=
  ⟨fun ⟨q, hq, hd⟩ => h.requests q hq hd, fun ⟨o, ho, hd⟩ => h.attempts o ho hd⟩

/-- R171: behind the derivation it stands as it was put, and nothing of an earlier one is left. -/
theorem scoopPut_derived {x : Option ScoopDuty} (hx : ∀ y, x = some y → y.want = false ∧ y.await = false) :
    (s.scoopPut n x).deriveDuties.refreshLamps.drv.scoops[n] = x
      ∧ ¬RequestWaits (s.scoopPut n x).deriveDuties.refreshLamps (.scoop n)
      ∧ ¬AttemptOpen (s.scoopPut n x).deriveDuties.refreshLamps (.scoop n) := by
  obtain ⟨hrest, hsame⟩ := rests_derived n (s.scoopPut n x) (scoopRests_scoopPut hx)
  exact ⟨hsame.trans (scoopPut_scoop n s x), hrest.none_left⟩

end ScoopRests

end Sys2Proof.Machine

namespace Sys2Proof.Machine

/-! ### A launch confirm: the serve attempts, the serve record and DRIVE (R169, R170) -/

section LaunchConfirm

/-- Station Control, the count of failed serves and the serve retry timer are as they were. -/
structure ServeStands (s t : State) : Prop where
  ctl    : t.ctl = s.ctl
  failed : t.drv.serve.failed = s.drv.serve.failed
  retry  : t.drv.serve.retryDue = s.drv.serve.retryDue

namespace ServeStands

variable {s t u : State}

theorem refl (s : State) : ServeStands s s := ⟨rfl, rfl, rfl⟩

theorem trans (h : ServeStands s t) (g : ServeStands t u) : ServeStands s u :=
  ⟨g.ctl.trans h.ctl, g.failed.trans h.failed, g.retry.trans h.retry⟩

theorem ite {p : Prop} [Decidable p] (h : ServeStands s t) (g : ServeStands s u) : ServeStands s (if p then t else u) := by
  split <;> assumption

theorem foldl {α : Type} {f : State → α → State} (hf : ∀ s a, ServeStands s (f s a)) (l : List α) (s : State) :
    ServeStands s (l.foldl f s) := by
  induction l generalizing s with
  | nil => exact refl s
  | cons a l ih => exact (hf s a).trans (ih (f s a))

/-- What leaves the whole serve record. -/
theorem of_serve (hc : t.ctl = s.ctl) (hs : t.drv.serve = s.drv.serve) : ServeStands s t :=
  ⟨hc, by rw [hs], by rw [hs]⟩

end ServeStands

variable (s : State)

theorem serves_closeAttempt (o : Output) : ServeStands s (s.closeAttempt o) := by
  have h := (recycling_closeAttempt s o).serve
  exact ⟨closeAttempt_ctl s o, by rw [h], by rw [h]⟩

theorem serves_dropRequest (id : DutyId) : ServeStands s (s.updDrv fun d => d.dropRequest id) := .of_serve rfl rfl

theorem serves_endDuty (id : DutyId) : ServeStands s (s.endDuty id) := by
  rw [endDuty_eq]
  exact (serves_dropRequest s id).trans (.foldl serves_closeAttempt _ _)

theorem serves_updEject (n : Slot) (f : EjectDuty → EjectDuty) : ServeStands s (s.updDrv fun d => d.updEject n f) :=
  .of_serve rfl rfl
theorem serves_setEject (n : Slot) (x : Option EjectDuty) : ServeStands s (s.updDrv fun d => d.setEject n x) :=
  .of_serve rfl rfl

theorem serves_settleEject (n : Slot) : ServeStands s (s.settleEject n) := by
  have h0 : ServeStands s (s.settleBounce n) := ServeStands.ite (.refl s) (.of_serve rfl rfl)
  exact ServeStands.ite h0 ((ServeStands.ite (h0.trans (serves_endDuty _ _)) h0).trans (serves_setEject _ n _))

theorem serves_tendEject (n : Slot) : ServeStands s (s.tendEject n) := by
  have h0 := ServeStands.ite (p := s.boundState n = some .present) (.refl s) (serves_dropRequest s (.eject n))
  unfold State.tendEject
  split
  · dsimp only
    split
    · exact h0.trans (serves_updEject _ n _)
    · exact ServeStands.ite (h0.trans (serves_updEject _ n _)) h0
  · exact .refl s

theorem serves_askEject (n : Slot) : ServeStands s (s.askEject n) := by
  unfold State.askEject
  split
  · exact ServeStands.ite (.of_serve rfl rfl) (.refl s)
  · exact .refl s

theorem serves_askServe : ServeStands s s.askServe := by
  unfold State.askServe
  split
  · exact .refl s
  · exact ServeStands.ite ⟨rfl, rfl, rfl⟩ (.refl s)

theorem serves_askScoop (n : Switch) : ServeStands s (s.askScoop n) := by
  unfold State.askScoop
  split
  · exact ServeStands.ite (.of_serve rfl rfl) (.refl s)
  · exact .refl s

theorem serves_arbiter : ServeStands s s.arbiter :=
  .of_serve rfl (walk_stand s.cfg s.now s.drv.requests [] s.drv).1

theorem serves_refreshLamps : ServeStands s s.refreshLamps := .of_serve rfl rfl

/-- Behind the settling of the SERVE duty a derivation leaves its failures, its retry timer and the faults. -/
theorem serves_derived :
    ServeStands ((indices 8).foldl State.settleEject s).settleServe s.deriveDuties.refreshLamps := by
  have h1 := ServeStands.foldl serves_tendEject (indices 8) ((indices 8).foldl State.settleEject s).settleServe
  have h2 := (h1.trans (.foldl serves_askEject (indices 8) _)).trans (serves_askServe _)
  exact ((h2.trans (.foldl serves_askScoop (indices 32) _)).trans (serves_arbiter _)).trans (serves_refreshLamps _)

/-- R170: no serve has failed, the retry timer does not run, and DRIVE is reported for nothing but a SERVE duty that holds
with no usable output. -/
structure State.ServeCalm (s : State) : Prop where
  failed : s.drv.serve.failed = 0
  retry  : s.drv.serve.retryDue = none
  drive  : s.hasFault .drive = true → s.serveHolds = true ∧ s.cfg.serveOutput = none

variable {s} {t : State}

theorem ServeStands.hasFault (h : ServeStands s t) (f : StationFault) : t.hasFault f = s.hasFault f := by
  unfold State.hasFault
  rw [h.ctl]

theorem State.ServeCalm.stands (hs : s.ServeCalm) (hk : Kept s t) (h : ServeStands s t) : t.ServeCalm := by
  refine ⟨h.failed.trans hs.failed, h.retry.trans hs.retry, fun hd => ?_⟩
  rw [serveHolds_of_kept hk, hk.cfg]
  exact hs.drive ((h.hasFault .drive).symm.trans hd)

theorem serves_launchesJudged (s : State) : ServeStands s s.launchesJudged := ServeStands.ite (.refl s) ⟨rfl, rfl, rfl⟩

theorem putFaults_serve (s : State) (x : Byte) : (s.putFaults x).drv.serve = s.drv.serve := by
  rw [putFaults_drv]

theorem calm_setFault (hf : s.drv.serve.failed = 0) (hr : s.drv.serve.retryDue = none) (hh : s.serveHolds = true)
    (ho : s.cfg.serveOutput = none) : (s.setFault .drive).ServeCalm := by
  have hk := kept_setFault s .drive
  refine ⟨?_, ?_, fun _ => ⟨(serveHolds_of_kept hk).trans hh, by rw [hk.cfg, ho]⟩⟩
  · rw [State.setFault, putFaults_serve, hf]
  · rw [State.setFault, putFaults_serve, hr]

theorem calm_clearFault (hf : s.drv.serve.failed = 0) (hr : s.drv.serve.retryDue = none) :
    (s.clearFault .drive).ServeCalm := by
  refine ⟨?_, ?_, fun hd => absurd ((hasFault_clearFault s .drive).symm.trans hd) Bool.false_ne_true⟩
  · rw [State.clearFault, putFaults_serve, hf]
  · rw [State.clearFault, putFaults_serve, hr]

/-- R169, R170: the serve record of a SERVE duty that has ended. -/
def State.serveCleared (s : State) : State :=
  s.updDrv fun d => d.updServe fun v =>
    { v with holds := false, failed := 0, retryDue := none, retryReady := false, await := false }

theorem serves_serveCleared (h : s.ServeCalm) : ServeStands s s.serveCleared := ⟨rfl, h.failed.symm, h.retry.symm⟩

theorem kept_serveCleared (s : State) : Kept s s.serveCleared := kept_updDrv s _

/-- R166: the SERVE duty holds. -/
def State.serveHeld (s : State) : State := s.updDrv fun d => d.updServe fun v => { v with holds := true }

theorem serves_serveHeld (s : State) : ServeStands s s.serveHeld := ⟨rfl, rfl, rfl⟩

theorem kept_serveHeld (s : State) : Kept s s.serveHeld := kept_updDrv s _

theorem kept_launchesJudged (s : State) : Kept s s.launchesJudged := Kept.ite (.refl s) (kept_updDrv s _)

/-- R166: the settling of the SERVE duty, by whether it holds and has a usable output. -/
theorem settleServe_holds (h : s.serveHolds = true) :
    s.settleServe = if s.cfg.serveOutput = none then s.launchesJudged.serveHeld.setFault .drive
      else s.launchesJudged.serveHeld := by
  rw [settleServe_eq]
  exact if_pos h

theorem settleServe_ends (h : s.serveHolds = false) :
    s.settleServe = if s.drv.serve.holds then
        if s.cfg.serveOutput = none then (s.launchesJudged.endDuty .serve).serveCleared.clearFault .drive
        else (s.launchesJudged.endDuty .serve).serveCleared
      else s.launchesJudged := by
  rw [settleServe_eq]
  exact if_neg (by rw [h]; decide)

/-- R166, R169, R170: the settling of the SERVE duty, in a state where no serve has failed. -/
theorem calm_settleServe (hs : s.ServeCalm) :
    s.settleServe.ServeCalm
      ∧ (s.serveHolds = true → s.cfg.serveOutput = none → s.settleServe.hasFault .drive = true) := by
  have hk := kept_launchesJudged s
  have hj := hs.stands hk (serves_launchesJudged s)
  cases hh : s.serveHolds with
  | true =>
    have hc := hj.stands (kept_serveHeld _) (serves_serveHeld _)
    have hkh := hk.trans (kept_serveHeld _)
    rw [settleServe_holds hh]
    by_cases ho : s.cfg.serveOutput = none
    · rw [if_pos ho]
      exact ⟨calm_setFault hc.failed hc.retry ((serveHolds_of_kept hkh).trans hh) (by rw [hkh.cfg, ho]),
        fun _ _ => hasFault_setFault _ _⟩
    · rw [if_neg ho]
      exact ⟨hc, fun _ h => absurd h ho⟩
  | false =>
    have he := hj.stands (kept_endDuty _ .serve) (serves_endDuty _ .serve)
    have hc := he.stands (kept_serveCleared _) (serves_serveCleared he)
    rw [settleServe_ends hh]
    refine ⟨?_, nofun⟩
    split
    · split
      · exact calm_clearFault hc.failed hc.retry
      · exact hc
    · exact hj

/-- R170: behind a derivation no serve has failed, and DRIVE is reported exactly where the duty holds with no usable
output. -/
theorem calm_derived (hs : s.ServeCalm) :
    s.deriveDuties.refreshLamps.ServeCalm
      ∧ (s.serveHolds = true → s.cfg.serveOutput = none → s.deriveDuties.refreshLamps.hasFault .drive = true) := by
  have hk := Kept.foldl kept_settleEject (indices 8) s
  obtain ⟨hc, hd⟩ := calm_settleServe (hs.stands hk (.foldl serves_settleEject (indices 8) s))
  have hstand := serves_derived s
  have hcalm : s.deriveDuties.refreshLamps.drv.serve.failed = 0 ∧ s.deriveDuties.refreshLamps.drv.serve.retryDue = none :=
    ⟨hstand.failed.trans hc.failed, hstand.retry.trans hc.retry⟩
  have hkd := kept_derived s (.refl s)
  have hks := hk.trans (kept_settleServe _)
  refine ⟨⟨hcalm.1, hcalm.2, fun hf => ?_⟩, fun hh ho => ?_⟩
  · rw [hstand.hasFault] at hf
    obtain ⟨hh, ho⟩ := hc.drive hf
    exact ⟨(serveHolds_of_kept hkd).trans ((serveHolds_of_kept hks).symm.trans hh), by rw [hkd.cfg, ← hks.cfg, ho]⟩
  · rw [hstand.hasFault]
    exact hd ((serveHolds_of_kept hk).trans hh) (by rw [hk.cfg, ho])

/-! #### The launch confirm -/

/-- R170: the serve record at a launch confirm. -/
def State.launchCounted (s : State) (entered : Bool) : State :=
  s.updDrv fun d => d.updServe fun v =>
    { v with
      launches := if entered then min 8 (v.launches + 1) else v.launches
      failed := 0, retryDue := none, retryReady := false }

/-- R170: a launch confirm before its derivation. -/
def State.launchConfirmed (s : State) (entered : Bool) : State :=
  if s.serveHolds ∧ s.cfg.serveOutput = none then (s.launchCounted entered).confirmServe
  else (s.launchCounted entered).confirmServe.clearFault .drive

theorem launchHandOn_eq (s : State) (entered : Bool) : s.launchHandOn entered = (s.launchConfirmed entered).deriveDuties :=
  rfl

theorem kept_launchConfirmed (s : State) (entered : Bool) : Kept s (s.launchConfirmed entered) := by
  have h : Kept s (s.launchCounted entered).confirmServe := (kept_updDrv s _).trans (kept_confirmServe _)
  exact Kept.ite h (h.trans (kept_clearFault _ _))

theorem launchConfirmed_drv (s : State) (entered : Bool) :
    (s.launchConfirmed entered).drv = (s.launchCounted entered).confirmServe.drv := by
  unfold State.launchConfirmed
  split
  · rfl
  · exact putFaults_drv _ _

theorem claims_confirmServe (s : State) : ClaimsKept s s.confirmServe := by
  rw [confirmServe_eq]
  exact .foldl claims_closeAttempt _ _

theorem claims_launchConfirmed (s : State) (entered : Bool) : ClaimsKept s (s.launchConfirmed entered) := by
  have h : ClaimsKept s (s.launchCounted entered).confirmServe :=
    (claims_updDrv s _).trans (claims_confirmServe (s.launchCounted entered))
  exact ClaimsKept.ite h (h.trans (claims_clearFault _ _))

/-- R170: the open serve attempts have closed. -/
theorem attemptsShut_launchConfirmed (s : State) (entered : Bool) :
    AttemptsShut s.cfg s.now (s.attemptsOf .serve) s.drv (s.launchConfirmed entered).drv := by
  have h := attemptsShut_attemptsOf (s.launchCounted entered) .serve
  rw [← confirmServe_eq, ← launchConfirmed_drv] at h
  exact ⟨h.requests, h.others, fun o ho => (h.shut o ho).before rfl rfl⟩

theorem launchConfirmed_launches (s : State) (entered : Bool) :
    (s.launchConfirmed entered).drv.serve.launches =
      if entered then min 8 (s.drv.serve.launches + 1) else s.drv.serve.launches := by
  rw [launchConfirmed_drv, confirmServe_eq]
  exact (KindsStand.foldl stand_closeAttempt _ (s.launchCounted entered)).launches

theorem calm_launchConfirmed (s : State) (entered : Bool) : (s.launchConfirmed entered).ServeCalm := by
  have hserve : ServeStands (s.launchCounted entered) (s.launchCounted entered).confirmServe := by
    rw [confirmServe_eq]
    exact .foldl serves_closeAttempt _ _
  have hk : Kept s (s.launchCounted entered).confirmServe := (kept_updDrv s _).trans (kept_confirmServe _)
  unfold State.launchConfirmed
  generalize (s.launchCounted entered).confirmServe = w at hserve hk
  have hf : w.drv.serve.failed = 0 := hserve.failed
  have hr : w.drv.serve.retryDue = none := hserve.retry
  split
  · next h => exact ⟨hf, hr, fun _ => ⟨(serveHolds_of_kept hk).trans h.1, by rw [hk.cfg, h.2]⟩⟩
  · exact calm_clearFault hf hr

theorem serveOutput_eq_none {c : StationConfig} :
    c.serveOutput = none ↔ ∀ o : Output, c.outputs[o].role ≠ .serve ∨ c.outputs[o].disabled = true := by
  unfold StationConfig.serveOutput
  simp [List.find?_eq_none, or_iff_not_imp_left]

theorem serveHolds_iff : s.serveHolds = true ↔ TroughMember s ∧ 0 < s.table.servePending := by
  rw [troughMember_iff]
  unfold State.serveHolds
  rw [Bool.and_eq_true, decide_eq_true_iff]

/-- R170: what a launch confirm makes of the serve record, DRIVE and the serve attempts. -/
structure Confirms (s t : State) (entered : Bool) : Prop where
  launches : t.drv.serve.launches =
    if TroughMember s then if entered then min 8 (s.drv.serve.launches + 1) else s.drv.serve.launches else 0
  failed   : t.drv.serve.failed = 0
  retry    : t.drv.serve.retryDue = none
  drive    : t.hasFault .drive = true ↔ TroughMember s ∧ 0 < s.table.servePending
    ∧ ∀ o : Output, s.cfg.outputs[o].role ≠ .serve ∨ s.cfg.outputs[o].disabled = true
  attempts : ∀ o : Output, s.drv.outputs[o].attemptOpen = true → s.drv.outputs[o].duty = some .serve →
    (s.drv.outputs[o].state = .pulse → t.drv.outputs[o] = { s.drv.outputs[o] with attemptOpen := false })
      ∧ (s.drv.outputs[o].state = .verify → GoesOn s t o)

/-- R170: a launch confirm and its derivation. -/
theorem launchHandOn_confirms (s : State) (entered : Bool) :
    Confirms s (s.launchHandOn entered).refreshLamps entered := by
  have hk := kept_launchConfirmed s entered
  have hl := launchConfirmed_launches s entered
  have hs := attemptsShut_launchConfirmed s entered
  obtain ⟨hc, hd⟩ := calm_derived (calm_launchConfirmed s entered)
  have hkd := kept_derived s hk
  rw [launchHandOn_eq]
  generalize s.launchConfirmed entered = w at hk hl hs hc hd hkd
  refine ⟨?_, hc.failed, hc.retry, ?_, fun o ha hduty => ?_⟩
  · rw [derived_launches, hk.isValid, hk.table, hk.station, hl]
    exact if_congr troughMember_iff.symm rfl rfl
  · rw [← serveOutput_eq_none, ← and_assoc, ← serveHolds_iff]
    refine ⟨fun h => ?_, fun ⟨hh, ho⟩ => hd ((serveHolds_of_kept hk).trans hh) (by rw [hk.cfg, ho])⟩
    obtain ⟨hh, ho⟩ := hc.drive h
    exact ⟨(serveHolds_of_kept hkd).symm.trans hh, by rw [← hkd.cfg, ho]⟩
  · exact (hs.shut o (mem_attemptsOf.2 ⟨ha, hduty⟩)).derived hk.cfg hk.now

end LaunchConfirm

end Sys2Proof.Machine

namespace Sys2Proof.Machine

/-! ### Claims entered in their turn (R129, R131) -/

section ClaimsEntered

variable {s t u : State} {q : List Claim} {c d : Claim} {cls : FrameClass}

/-- R129: the claim may give way to one of the class. -/
def GivesWay (cls : FrameClass) (c : Claim) : Prop := c.isWaiting = true ∧ cls.code < c.cls.code

/-- One step of the search for the newest claim that gives way. -/
def newerDisplaceable (cls : FrameClass) (best : Option Claim) (c : Claim) : Option Claim :=
  if c.isWaiting ∧ cls.code < c.cls.code then
    match best with
    | none => some c
    | some b => if b.created < c.created then some c else some b
  else best

theorem newestDisplaceable_eq (cls : FrameClass) (q : List Claim) :
    newestDisplaceable cls q = q.foldl (newerDisplaceable cls) none := rfl

/-- The claim found is no older than `d`. -/
def NotOlder (d : Claim) (best : Option Claim) : Prop := ∃ c, best = some c ∧ d.created ≤ c.created

theorem notOlder_step {best : Option Claim} (h : NotOlder d best) (c : Claim) :
    NotOlder d (newerDisplaceable cls best c) := by
  obtain ⟨b, rfl, hb⟩ := h
  unfold newerDisplaceable
  split
  · dsimp only
    split
    · next hlt => exact ⟨c, rfl, hb.trans hlt.le⟩
    · exact ⟨b, rfl, hb⟩
  · exact ⟨b, rfl, hb⟩

theorem notOlder_taken (best : Option Claim) (h : GivesWay cls d) : NotOlder d (newerDisplaceable cls best d) := by
  unfold newerDisplaceable
  rw [if_pos (show d.isWaiting = true ∧ cls.code < d.cls.code from h)]
  split
  · exact ⟨d, rfl, le_refl _⟩
  · next b =>
    split
    · exact ⟨d, rfl, le_refl _⟩
    · next hlt => exact ⟨b, rfl, Nat.le_of_not_lt hlt⟩

theorem notOlder_foldl {best : Option Claim} (h : NotOlder d best ∨ d ∈ q ∧ GivesWay cls d) :
    NotOlder d (q.foldl (newerDisplaceable cls) best) := by
  induction q generalizing best with
  | nil => exact h.resolve_right fun h => absurd h.1 List.not_mem_nil
  | cons c q ih =>
    refine ih ?_
    rcases h with h | ⟨hm, hg⟩
    · exact .inl (notOlder_step h c)
    · rcases List.mem_cons.1 hm with rfl | hm
      · exact .inl (notOlder_taken best hg)
      · exact .inr ⟨hm, hg⟩

/-- R129: the claim found is the newest of those that give way, and one is found where one gives way. -/
theorem newestDisplaceable_notOlder (hd : d ∈ q) (hg : GivesWay cls d) : NotOlder d (newestDisplaceable cls q) := by
  rw [newestDisplaceable_eq]
  exact notOlder_foldl (.inr ⟨hd, hg⟩)

theorem isWaiting_iff : c.isWaiting = true ↔ c.state = .waiting := beq_iff_eq

/-- R129: the CLAIM_LOST of a claim that is lost. -/
def lostNotice (x : Claim × LostCause) : NoticeBody :=
  .claimLost x.1.payload.kind x.1.payload.argument x.1.origin x.2

/-- R129, R182: from `s` to `t` the losses of `lost` have been reported, where the port has room. -/
structure LostTold (s t : State) (lost : List (Claim × LostCause)) : Prop where
  enabled : t.rpt.enabled = s.rpt.enabled
  fifo    : s.rpt.enabled = true → s.rpt.fifo.length + lost.length ≤ 32 →
    ∃ ms, t.rpt.fifo = s.rpt.fifo ++ ms ∧ ms.map Notice.body = lost.map lostNotice

namespace LostTold

theorem of_rpt (h : t.rpt = s.rpt) : LostTold s t [] :=
  ⟨by rw [h], fun _ _ => ⟨[], by rw [h, List.append_nil], rfl⟩⟩

theorem trans {l m : List (Claim × LostCause)} (h : LostTold s t l) (g : LostTold t u m) : LostTold s u (l ++ m) := by
  refine ⟨g.enabled.trans h.enabled, fun he hl => ?_⟩
  rw [List.length_append] at hl
  obtain ⟨ms, hms, hm⟩ := h.fifo he (by omega)
  have hlen : ms.length = l.length := by simpa using congrArg List.length hm
  obtain ⟨ns, hns, hn⟩ := g.fifo (h.enabled.trans he) (by rw [hms, List.length_append]; omega)
  exact ⟨ms ++ ns, by rw [hns, hms, List.append_assoc], by rw [List.map_append, List.map_append, hm, hn]⟩

theorem claimLost (s : State) (x : Claim × LostCause) : LostTold s (s.claimLost x.1.payload x.1.origin x.2) [x] := by
  refine ⟨create_enabled _ _ _, fun he hl => ?_⟩
  have hn := notify_fifo (b := lostNotice x) he (Nat.lt_of_succ_le hl)
  exact ⟨_, congrArg ReportPort.fifo hn, rfl⟩

end LostTold

/-- R129: one claim is entered. -/
structure EntersOne (s : State) (p : Payload) (o : Origin) (first : Option (Claim × LostCause)) : Prop where
  entered : Entered s.claim.queue (s.newClaim p o) (s.enterClaim p o).claim.queue first
  serial  : (s.enterClaim p o).claim.serial =
    if first.map Prod.snd = some .discarded then s.claim.serial else s.claim.serial + 1
  told    : LostTold s (s.enterClaim p o) first.toList
  placed  : s.hasPlaceFor p = true ↔ first.map Prod.snd ≠ some .discarded

theorem hasPlaceFor_iff {p : Payload} :
    s.hasPlaceFor p = true ↔ s.claim.queue.length < 8 ∨ (newestDisplaceable p.cls s.claim.queue).isSome = true := by
  unfold State.hasPlaceFor
  rw [Bool.or_eq_true, decide_eq_true_iff]

theorem enterClaim_room {p : Payload} (o : Origin) (h : s.claim.queue.length < 8) : s.enterClaim p o = s.addClaim p o :=
  if_pos h

/-- R129: with no room the newest claim that gives way is displaced. -/
theorem enterClaim_displaces {p : Payload} (o : Origin) (h : ¬s.claim.queue.length < 8)
    (hc : newestDisplaceable p.cls s.claim.queue = some c) :
    s.enterClaim p o = ((s.setQueue (removeClaim c s.claim.queue)).claimLost c.payload c.origin .displaced).addClaim p o := by
  unfold State.enterClaim
  rw [if_neg h, hc]

theorem enterClaim_discards {p : Payload} (o : Origin) (h : ¬s.claim.queue.length < 8)
    (hc : newestDisplaceable p.cls s.claim.queue = none) : s.enterClaim p o = s.claimLost p o .discarded := by
  unfold State.enterClaim
  rw [if_neg h, hc]

/-- R129: entering a claim, by its three ways. -/
theorem entersOne (s : State) (p : Payload) (o : Origin) : ∃ first, EntersOne s p o first := by
  by_cases hroom : s.claim.queue.length < 8
  · have he := enterClaim_room (p := p) o hroom
    refine ⟨none, .inl ⟨hroom, fun d => ?_, rfl⟩, ?_, ?_, ?_⟩
    · rw [he, addClaim_queue, mem_insertClaim, or_comm]
    · rw [he]
      rfl
    · rw [he]
      exact .of_rpt rfl
    · exact ⟨fun _ => nofun, fun _ => hasPlaceFor_iff.2 (.inl hroom)⟩
  · have hfull : 8 ≤ s.claim.queue.length := Nat.le_of_not_lt hroom
    cases hc : newestDisplaceable p.cls s.claim.queue with
    | some v =>
      obtain ⟨hm, hw, hcode⟩ := newestDisplaceable_spec hc
      have he := enterClaim_displaces o hroom hc
      refine ⟨some (v, .displaced), .inr (.inl ⟨hfull, v, hm, isWaiting_iff.1 hw, hcode, fun d hd hdw hdc => ?_,
        fun d => ?_, rfl⟩), ?_, ?_, ?_⟩
      · obtain ⟨b, hb, hle⟩ := newestDisplaceable_notOlder hd ⟨isWaiting_iff.2 hdw, hdc⟩
        cases hc.symm.trans hb
        exact hle
      · rw [he, addClaim_queue, mem_insertClaim, or_comm]
        exact or_congr_left mem_removeClaim
      · rw [he]
        rfl
      · rw [he]
        have h1 : LostTold s (s.setQueue (removeClaim v s.claim.queue)) [] := .of_rpt rfl
        exact (h1.trans (.claimLost _ (v, .displaced))).trans (.of_rpt rfl)
      · exact ⟨fun _ => nofun, fun _ => hasPlaceFor_iff.2 (.inr (by rw [hc]; rfl))⟩
    | none =>
      have he := enterClaim_discards o hroom hc
      refine ⟨some (s.newClaim p o, .discarded), .inr (.inr ⟨hfull, fun d hd hdw => ?_, ?_, rfl⟩), ?_, ?_, ?_⟩
      · refine Nat.le_of_not_lt fun hlt => ?_
        obtain ⟨b, hb, -⟩ := newestDisplaceable_notOlder hd ⟨isWaiting_iff.2 hdw, hlt⟩
        cases hc.symm.trans hb
      · rw [he]
        rfl
      · rw [he]
        rfl
      · rw [he]
        exact .claimLost s (s.newClaim p o, .discarded)
      · refine ⟨fun h => ?_, fun h => absurd rfl h⟩
        rcases hasPlaceFor_iff.1 h with h | h
        · exact absurd h hroom
        · rw [hc] at h
          cases h

/-- R131: claims are entered in their turn. -/
def State.enterAll (s : State) (o : Origin) (ps : List Payload) : State := ps.foldl (fun s p => s.enterClaim p o) s

theorem enterAll_cons (s : State) (o : Origin) (p : Payload) (ps : List Payload) :
    s.enterAll o (p :: ps) = (s.enterClaim p o).enterAll o ps := rfl

theorem enteredAll_enterAll (o : Origin) (ps : List Payload) (s : State) :
    ∃ lost, EnteredAll o ps s.claim.queue s.claim.serial (s.enterAll o ps).claim.queue lost
      ∧ LostTold s (s.enterAll o ps) lost := by
  induction ps generalizing s with
  | nil => exact ⟨[], ⟨rfl, rfl⟩, .of_rpt rfl⟩
  | cons p ps ih =>
    obtain ⟨first, hfirst⟩ := entersOne s p o
    obtain ⟨rest, hrest, htold⟩ := ih (s.enterClaim p o)
    rw [hfirst.serial] at hrest
    exact ⟨first.toList ++ rest, ⟨_, first, rest, hfirst.entered, hrest, rfl⟩, hfirst.told.trans htold⟩

/-- R131: the claim of an event that builds one alone. -/
theorem entersOne_enterAll (s : State) (p : Payload) (o : Origin) :
    ∃ lost, EnteredAll o [p] s.claim.queue s.claim.serial (s.enterAll o [p]).claim.queue lost
      ∧ LostTold s (s.enterAll o [p]) lost ∧ (s.hasPlaceFor p = true ↔ ∀ x ∈ lost, x.2 ≠ .discarded) := by
  obtain ⟨first, hfirst⟩ := entersOne s p o
  refine ⟨first.toList, ⟨_, first, [], hfirst.entered, ⟨rfl, rfl⟩, (List.append_nil _).symm⟩, hfirst.told, ?_⟩
  rw [hfirst.placed]
  cases first with
  | none => exact ⟨fun _ _ => nofun, fun _ => nofun⟩
  | some x => simp

/-- R131: with room for all, each claim is entered, WAITING. -/
theorem enterAll_room (o : Origin) {ps : List Payload} (hl : s.claim.queue.length + ps.length ≤ 8) :
    (∀ p : Payload, ((s.enterAll o ps).claim.queue.map Claim.payload).count p
        = (s.claim.queue.map Claim.payload).count p + ps.count p)
      ∧ ∀ c ∈ (s.enterAll o ps).claim.queue, c ∈ s.claim.queue
        ∨ (c.payload ∈ ps ∧ c.state = .waiting ∧ c.attempts = 0 ∧ c.origin = o) := by
  induction ps generalizing s with
  | nil => exact ⟨fun _ => rfl, fun _ => .inl⟩
  | cons p ps ih =>
    rw [List.length_cons] at hl
    have hq : (s.enterClaim p o).claim.queue = insertClaim (s.newClaim p o) s.claim.queue := by
      rw [enterClaim_room o (by omega), addClaim_queue]
    obtain ⟨hcount, hmem⟩ := ih (s := s.enterClaim p o) (by rw [hq, insertClaim_length]; omega)
    rw [enterAll_cons]
    refine ⟨fun r => ?_, fun c hc => ?_⟩
    · have hins : ((insertClaim (s.newClaim p o) s.claim.queue).map Claim.payload).count r
          = (s.claim.queue.map Claim.payload).count r + [p].count r := by
        rw [List.count, List.countP_map, countP_insertClaim, ← List.countP_map, List.map_cons, ← List.singleton_append,
          List.countP_append, Nat.add_comm]
        rfl
      have hcons : (p :: ps).count r = [p].count r + ps.count r := List.count_append (l₁ := [p])
      rw [hcount, hq, hins, hcons, Nat.add_assoc]
    · rcases hmem c hc with hm | ⟨hp, hw⟩
      · rw [hq] at hm
        rcases (mem_insertClaim _ _ _).1 hm with rfl | hm
        · exact .inr ⟨List.mem_cons_self, rfl, rfl, rfl⟩
        · exact .inl hm
      · exact .inr ⟨List.mem_cons_of_mem p hp, hw⟩

/-! #### What building leaves -/

theorem Kept.mayBuild (h : Kept s t) (k : FrameKind) : t.mayBuild k = s.mayBuild k := by
  unfold State.mayBuild
  rw [h.listener, h.bus, h.isValid, h.state]

/-- R130: the claims that the station may build are entered, and no other. -/
theorem buildAll_eq (o : Origin) (ps : List Payload) (s : State) :
    ps.foldl (fun s p => s.build p o) s = s.enterAll o (ps.filter fun p => s.mayBuild p.kind) := by
  induction ps generalizing s with
  | nil => rfl
  | cons p ps ih =>
    have hfilter : (ps.filter fun r => (s.build p o).mayBuild r.kind) = ps.filter fun r => s.mayBuild r.kind :=
      List.filter_congr fun r _ => (kept_build s p o).mayBuild r.kind
    rw [List.foldl_cons, ih, hfilter, List.filter_cons]
    unfold State.build
    split
    · rfl
    · rfl

/-- Of the Driver Unit only the launches unapplied have moved. -/
structure LaunchesMove (s t : State) : Prop where
  drv : t.drv = { s.drv with serve := { s.drv.serve with launches := t.drv.serve.launches } }

namespace LaunchesMove

theorem refl (s : State) : LaunchesMove s s := ⟨rfl⟩

theorem trans (h : LaunchesMove s t) (g : LaunchesMove t u) : LaunchesMove s u := by
  refine ⟨?_⟩
  rw [g.drv, h.drv]

theorem ite {p : Prop} [Decidable p] (h : LaunchesMove s t) (g : LaunchesMove s u) : LaunchesMove s (if p then t else u) := by
  split <;> assumption

theorem foldl {α : Type} {f : State → α → State} (hf : ∀ s a, LaunchesMove s (f s a)) (l : List α) (s : State) :
    LaunchesMove s (l.foldl f s) := by
  induction l generalizing s with
  | nil => exact refl s
  | cons a l ih => exact (hf s a).trans (ih (f s a))

end LaunchesMove

theorem moves_setQueue (s : State) (q : List Claim) : LaunchesMove s (s.setQueue q) := ⟨rfl⟩
theorem moves_claimLost (s : State) (p : Payload) (o : Origin) (x : LostCause) : LaunchesMove s (s.claimLost p o x) := ⟨rfl⟩
theorem moves_addClaim (s : State) (p : Payload) (o : Origin) : LaunchesMove s (s.addClaim p o) := ⟨rfl⟩

theorem moves_enterClaim (s : State) (p : Payload) (o : Origin) : LaunchesMove s (s.enterClaim p o) := by
  unfold State.enterClaim
  refine .ite (moves_addClaim s p o) ?_
  split
  · exact ((moves_setQueue s _).trans (moves_claimLost _ _ _ _)).trans (moves_addClaim _ p o)
  · exact moves_claimLost s p o _

theorem moves_enterAll (s : State) (o : Origin) (ps : List Payload) : LaunchesMove s (s.enterAll o ps) :=
  .foldl (fun s p => moves_enterClaim s p o) ps s

theorem moves_build (s : State) (p : Payload) (o : Origin) : LaunchesMove s (s.build p o) :=
  .ite (moves_enterClaim s p o) (.refl s)

theorem kept_enterAll (s : State) (o : Origin) (ps : List Payload) : Kept s (s.enterAll o ps) :=
  .foldl (fun s p => kept_enterClaim s p o) ps s

/-- A queue to which claims have been added has as many LAUNCHED at least. -/
theorem setQueue_launches (h : launchedClaims s.claim.queue ≤ launchedClaims q) :
    (s.setQueue q).drv.serve.launches = s.drv.serve.launches := by
  show s.drv.serve.launches - _ = _
  rw [Nat.sub_eq_zero_of_le h, Nat.sub_zero]

theorem addClaim_launches (s : State) (p : Payload) (o : Origin) :
    (s.addClaim p o).drv.serve.launches = s.drv.serve.launches := by
  refine setQueue_launches ?_
  unfold launchedClaims
  rw [countP_insertClaim, List.countP_cons]
  exact Nat.le_add_right _ _

/-- R129, R170: no LAUNCHED gives way to a claim of the class of balls, or of one behind it. -/
theorem launchedClaims_displaced {p : Payload} (hn : (q.map Claim.created).Nodup) (hp : 1 ≤ p.cls.code)
    (hc : newestDisplaceable p.cls q = some c) : launchedClaims (removeClaim c q) = launchedClaims q := by
  obtain ⟨hm, -, hcode⟩ := newestDisplaceable_spec hc
  unfold launchedClaims removeClaim
  rw [List.countP_filter]
  refine List.countP_congr fun d hd => ?_
  simp only [Bool.and_eq_true, beq_iff_eq, bne_iff_ne, and_iff_left_iff_imp]
  intro hl hdc
  rw [← eq_of_created hn hd hm hdc, Claim.cls, hl] at hcode
  exact absurd hcode (Nat.not_lt.2 hp)

theorem enterClaim_launches {p : Payload} (o : Origin) (hn : (s.claim.queue.map Claim.created).Nodup)
    (hp : 1 ≤ p.cls.code) : (s.enterClaim p o).drv.serve.launches = s.drv.serve.launches := by
  unfold State.enterClaim
  split
  · exact addClaim_launches s p o
  · split
    · next c hc =>
      rw [addClaim_launches]
      exact setQueue_launches (s := s) (launchedClaims_displaced hn hp hc).ge
    · rfl

end ClaimsEntered

end Sys2Proof.Machine

namespace Sys2Proof.Machine

/-! ### SWITCH_EVENT_TAKE (R129 to R132, R169 to R171) -/

section SwitchEvents

variable {s : State} {e : SwitchEvent} {r : SwitchRule} {n : Switch} {level : Level}

/-! #### The claims of a rule -/

theorem matchesEdge_iff : r.matchesEdge level = true ↔ r.edge = level := beq_iff_eq

/-- R131: no rule builds a JOIN. -/
theorem ruleClaims_ne_join : ∀ p ∈ r.claims n level, p.kind ≠ .join := by
  have hmode : ∀ p ∈ r.modeClaim, p.kind ≠ .join := fun p hp => by
    obtain ⟨m, -, rfl⟩ := List.mem_map.1 hp
    nofun
  unfold SwitchRule.claims
  split
  · split
    case h_2 =>
      refine List.forall_mem_cons.2 ⟨nofun, hmode⟩
    case h_8 =>
      exact List.forall_mem_append.2 ⟨by simp [Payload.kind, SwitchRule.hit], hmode⟩
    all_goals simp [Payload.kind]
  · split
    · simp [Payload.kind]
    · nofun

theorem kind_beq_start (p : Payload) : (p.kind == .start) = (p == .start) := by
  cases p with
  | start => rfl
  | _ => rfl

/-- R130: a listener, a muted station and one without a VALID replica build nothing. -/
theorem mayBuild_barred (h : s.ctl.listener = true ∨ s.bus.muted = true ∨ s.isValid = false) (k : FrameKind) :
    s.mayBuild k = false := by
  unfold State.mayBuild
  rcases h with h | h | h
  · simp [h]
  · simp [h]
  · simp [h]

section TakesPart

variable (h : ¬(s.ctl.listener = true ∨ s.bus.muted = true ∨ s.isValid = false)) (k : FrameKind)
include h

theorem mayBuild_member (hst : s.ctl.state = .member) : s.mayBuild k = (k != .join) := by
  simp only [not_or, Bool.not_eq_true, Bool.not_eq_false] at h
  obtain ⟨hl, hm, hv⟩ := h
  unfold State.mayBuild
  rw [hl, hm, hv, hst]
  rfl

theorem mayBuild_ready (hst : s.ctl.state = .ready) : s.mayBuild k = (k == .start || k == .join) := by
  simp only [not_or, Bool.not_eq_true, Bool.not_eq_false] at h
  obtain ⟨hl, hm, hv⟩ := h
  unfold State.mayBuild
  rw [hl, hm, hv, hst]
  rfl

end TakesPart

theorem mayBuild_elsewhere (hm : s.ctl.state ≠ .member) (hr : s.ctl.state ≠ .ready) (k : FrameKind) :
    s.mayBuild k = false := by
  unfold State.mayBuild
  split
  · next h => exact absurd h hm
  · next h => exact absurd h hr
  all_goals exact Bool.and_false _

/-- R130: of claims none of which is a JOIN, those that the station may build. -/
theorem filter_mayBuild {ps : List Payload} (hj : ∀ p ∈ ps, p.kind ≠ .join) :
    ps.filter (fun p => s.mayBuild p.kind) =
      if s.ctl.listener = true ∨ s.bus.muted = true ∨ s.isValid = false then []
      else if s.ctl.state = .member then ps
      else if s.ctl.state = .ready then ps.filter fun p => p == .start
      else [] := by
  have hnone : (∀ k, s.mayBuild k = false) → ps.filter (fun p => s.mayBuild p.kind) = [] := fun h =>
    List.filter_eq_nil_iff.2 fun p _ => by rw [h]; decide
  split
  · next hb => exact hnone (mayBuild_barred hb)
  · next hb =>
    split
    · next hm =>
      refine List.filter_eq_self.2 fun p hp => ?_
      rw [mayBuild_member hb _ hm]
      exact bne_iff_ne.2 (hj p hp)
    · next hm =>
      split
      · next hr =>
        refine List.filter_congr fun p hp => ?_
        rw [mayBuild_ready hb _ hr, kind_beq_start, beq_eq_false_iff_ne.2 (hj p hp), Bool.or_false]
      · next hr => exact hnone (mayBuild_elsewhere hm hr)

/-! #### The hand-on -/

/-- R132: the hand-on of a scoop's edge, and of its other edge. -/
theorem handOn_scoop (entered : Bool) (hk : r.kind = .scoop) (he : r.edge = level) :
    s.handOn r n level entered =
      (s.scoopPut n (some (ScoopDuty.dwelling r.driver (s.now + r.dwell * Config.ms)))).deriveDuties := by
  unfold State.handOn
  rw [hk]
  exact if_pos (matchesEdge_iff.2 he)

theorem handOn_scoop_other (entered : Bool) (hk : r.kind = .scoop) (he : r.edge ≠ level) :
    s.handOn r n level entered = (s.scoopPut n none).deriveDuties := by
  unfold State.handOn
  rw [hk]
  exact if_neg (matchesEdge_iff.not.2 he)

theorem handOn_confirm (entered : Bool) (hk : r.kind = .launchConfirm) (he : r.edge = level) :
    s.handOn r n level entered = s.launchHandOn entered := by
  unfold State.handOn
  rw [hk]
  exact if_pos (matchesEdge_iff.2 he)

theorem tends_confirmServe (s : State) : Tends s s.confirmServe := by
  rw [confirmServe_eq]
  exact .foldl tends_closeAttempt _ _

theorem tends_launchHandOn (s : State) (entered : Bool) : Tends s (s.launchHandOn entered) := by
  have h : Tends s (s.launchCounted entered).confirmServe := (tends_updDrv s _).trans (tends_confirmServe _)
  have h1 : Tends s (s.launchConfirmed entered) := Tends.ite h (.driveOff h)
  exact h1.trans (tends_deriveDuties _)

theorem tends_scoopPut (s : State) (n : Switch) (x : Option ScoopDuty) : Tends s (s.scoopPut n x).deriveDuties :=
  ((tends_endDuty s _).trans (tends_updDrv _ _)).trans (tends_deriveDuties _)

theorem tends_handOn (s : State) (r : SwitchRule) (n : Switch) (level : Level) (entered : Bool) :
    Tends s (s.handOn r n level entered) := by
  unfold State.handOn
  split
  · exact Tends.ite (tends_scoopPut s n _) (tends_scoopPut s n _)
  · exact Tends.ite (tends_launchHandOn s entered) .refl
  all_goals exact .refl

theorem claims_scoopPut (s : State) (n : Switch) (x : Option ScoopDuty) : ClaimsKept s (s.scoopPut n x).deriveDuties :=
  ((claims_endDuty s _).trans (claims_updDrv _ _)).trans (claims_deriveDuties _)

theorem claims_launchHandOn (s : State) (entered : Bool) : ClaimsKept s (s.launchHandOn entered) :=
  (claims_launchConfirmed s entered).trans (claims_deriveDuties _)

/-- R132: a hand-on leaves the claims. -/
theorem claims_handOn (s : State) (r : SwitchRule) (n : Switch) (level : Level) (entered : Bool) :
    ClaimsKept s (s.handOn r n level entered) := by
  unfold State.handOn
  split
  · exact ClaimsKept.ite (claims_scoopPut s n _) (claims_scoopPut s n _)
  · exact ClaimsKept.ite (claims_launchHandOn s entered) (.refl s)
  all_goals exact .refl s

/-! #### The event, whole -/

/-- R129: the claims of an event, with what the losses say of a claim that comes alone. -/
theorem enterAll_settles (s : State) (o : Origin) (ps : List Payload) :
    ∃ lost, EnteredAll o ps s.claim.queue s.claim.serial (s.enterAll o ps).claim.queue lost
      ∧ LostTold s (s.enterAll o ps) lost
      ∧ ∀ p, ps = [p] → (s.hasPlaceFor p = true ↔ ∀ x ∈ lost, x.2 ≠ .discarded) := by
  by_cases h : ∃ p, ps = [p]
  · obtain ⟨p, rfl⟩ := h
    obtain ⟨lost, hent, htold, hplace⟩ := entersOne_enterAll s p o
    exact ⟨lost, hent, htold, fun r hr => by cases hr; exact hplace⟩
  · obtain ⟨lost, hent, htold⟩ := enteredAll_enterAll o ps s
    exact ⟨lost, hent, htold, fun p hp => absurd ⟨p, hp⟩ h⟩

/-- R170: whether a LAUNCHED has been entered for a launch confirm. -/
def State.entersLaunched (s : State) : Bool := s.mayBuild .launched && s.hasPlaceFor .launched

/-- R131, R132: the claims that the station may build are entered, then the event is handed on. -/
theorem dealEvent_eq (s : State) (e : SwitchEvent) :
    s.dealEvent e =
      ((s.enterAll (.switch e.switch)
        ((s.cfg.rules[e.switch].claims e.switch e.level).filter fun p => s.mayBuild p.kind)).handOn
          s.cfg.rules[e.switch] e.switch e.level s.entersLaunched).refreshLamps := by
  rw [← buildAll_eq]
  rfl

theorem exec_switchEventTake_idle (h : s.sw.events = [] ∨ s.unitsRun = false) : exec .switchEventTake s = .next s := by
  show execSwitchEventTake s = _
  unfold execSwitchEventTake
  split
  · next hev =>
    rcases h with h | h
    · rw [h] at hev
      cases hev
    · exact if_neg (by rw [h]; decide)
  · rfl

theorem exec_switchEventTake {rest : List SwitchEvent} (h : s.sw.events = e :: rest) (hr : s.unitsRun = true) :
    exec .switchEventTake s = .next ((s.setSw { s.sw with events := rest }).dealEvent e) := by
  show execSwitchEventTake s = _
  unfold execSwitchEventTake
  rw [h]
  exact if_pos hr

/-- R170: a launch confirm builds its LAUNCHED or nothing, and the launches unapplied stay as they are till it is handed on. -/
theorem enterAll_launched_launches (hn : (s.claim.queue.map Claim.created).Nodup) (o : Origin) {ps : List Payload}
    (h : ps = [] ∨ ps = [.launched]) : (s.enterAll o ps).drv.serve.launches = s.drv.serve.launches := by
  rcases h with rfl | rfl
  · rfl
  · exact enterClaim_launches o hn (le_refl _)

theorem goesOn_congr {t u : State} {o : Output} (hc : u.cfg = s.cfg) (hr : u.drv.requests = s.drv.requests)
    (h : GoesOn u t o) : GoesOn s t o := by
  unfold GoesOn at h ⊢
  rwa [hc, hr] at h

/-- R170: a launch confirm behind the claims of its event. -/
theorem confirms_of_claims {u t : State} {entered : Bool} (hk : Kept s u) (hm : LaunchesMove s u)
    (hl : u.drv.serve.launches = s.drv.serve.launches) (h : Confirms u t entered) : Confirms s t entered := by
  have htrough : TroughMember u ↔ TroughMember s := by
    rw [troughMember_iff, troughMember_iff, hk.isValid, hk.table, hk.station]
  have hout : u.drv.outputs = s.drv.outputs := by rw [hm.drv]
  refine ⟨?_, h.failed, h.retry, ?_, fun o ha hd => ?_⟩
  · rw [h.launches, hl]
    exact if_congr htrough rfl rfl
  · rw [h.drive, htrough, hk.table, hk.cfg]
  · have hatt := h.attempts o
    rw [hout] at hatt
    obtain ⟨hp, hv⟩ := hatt ha hd
    exact ⟨hp, fun h => goesOn_congr hk.cfg (by rw [hm.drv]) (hv h)⟩

/-- R131, R132: the station behind an event of a rule, whose claims are `ps`. -/
def State.eventTaken (s : State) (r : SwitchRule) (e : SwitchEvent) (ps : List Payload) : State :=
  ((s.enterAll (.switch e.switch) ps).handOn r e.switch e.level s.entersLaunched).refreshLamps

variable {ps : List Payload}

theorem eventTaken_kept (s : State) (r : SwitchRule) (e : SwitchEvent) (ps : List Payload) :
    Kept s (s.eventTaken r e ps) :=
  ((kept_enterAll s _ ps).trans (kept_handOn _ r _ _ _)).trans (kept_refreshLamps _)

theorem eventTaken_claim (s : State) (r : SwitchRule) (e : SwitchEvent) (ps : List Payload) :
    (s.eventTaken r e ps).claim = (s.enterAll (.switch e.switch) ps).claim :=
  (refreshLamps_claim _).trans (claims_handOn _ r _ _ _).claim

/-- R129, R182: the losses are in the FIFO, whatever the hand-on reports behind them. -/
theorem eventTaken_told {lost : List (Claim × LostCause)} (h : LostTold s (s.enterAll (.switch e.switch) ps) lost)
    (he : s.rpt.enabled = true) (hl : s.rpt.fifo.length + lost.length ≤ 32) :
    ∀ x ∈ lost, ∃ n ∈ (s.eventTaken r e ps).rpt.fifo, n.body = lostNotice x := by
  intro x hx
  obtain ⟨ms, hms, hbodies⟩ := h.fifo he hl
  obtain ⟨m, hm, hmx⟩ := List.mem_map.1 (hbodies.symm ▸ List.mem_map_of_mem (f := lostNotice) hx)
  have hgrows := ((tends_handOn (s.enterAll (.switch e.switch) ps) r e.switch e.level s.entersLaunched).trans
    (tends_refreshLamps _)).queues
  exact ⟨m, hgrows.subset (by rw [hms]; exact List.mem_append_right _ hm), hmx⟩

/-- R171: a scoop's event. -/
theorem eventTaken_scoop (hk : r.kind = .scoop) :
    (r.edge = e.level → (s.eventTaken r e ps).drv.scoops[e.switch] =
        some (ScoopDuty.dwelling r.driver (s.now + r.dwell * Config.ms)))
      ∧ (r.edge ≠ e.level → (s.eventTaken r e ps).drv.scoops[e.switch] = none)
      ∧ ¬RequestWaits (s.eventTaken r e ps) (.scoop e.switch) ∧ ¬AttemptOpen (s.eventTaken r e ps) (.scoop e.switch) := by
  have hnow : (s.enterAll (.switch e.switch) ps).now = s.now := (kept_enterAll s _ ps).now
  unfold State.eventTaken
  generalize s.enterAll (.switch e.switch) ps = u at hnow
  by_cases he : r.edge = e.level
  · rw [handOn_scoop _ hk he, hnow]
    obtain ⟨hput, hreq, hatt⟩ := scoopPut_derived (s := u) (n := e.switch)
      (x := some (ScoopDuty.dwelling r.driver (s.now + r.dwell * Config.ms))) fun y hy => by cases hy; exact ⟨rfl, rfl⟩
    exact ⟨fun _ => hput, fun hne => absurd he hne, hreq, hatt⟩
  · rw [handOn_scoop_other _ hk he]
    obtain ⟨hput, hreq, hatt⟩ := scoopPut_derived (s := u) (n := e.switch) (x := none) nofun
    exact ⟨fun h => absurd h he, fun _ => hput, hreq, hatt⟩

/-- R170: a launch confirm's event. -/
theorem eventTaken_confirms (hn : (s.claim.queue.map Claim.created).Nodup) (hk : r.kind = .launchConfirm)
    (he : r.edge = e.level) (hps : ps = [] ∨ ps = [.launched]) : Confirms s (s.eventTaken r e ps) s.entersLaunched := by
  have hlaunches := enterAll_launched_launches hn (.switch e.switch) hps
  have hkept := kept_enterAll s (.switch e.switch) ps
  have hmoves := moves_enterAll s (.switch e.switch) ps
  unfold State.eventTaken
  rw [handOn_confirm _ hk he]
  exact confirms_of_claims hkept hmoves hlaunches (launchHandOn_confirms _ _)

/-- R131: the claims of a launch confirm's edge. -/
theorem ruleClaims_confirm (hk : r.kind = .launchConfirm) (he : r.edge = level) : r.claims n level = [.launched] := by
  unfold SwitchRule.claims
  rw [if_pos (matchesEdge_iff.2 he), hk]

/-- R130, R170: a LAUNCHED is entered where it may be built and is not discarded. -/
theorem entersLaunched_iff {lost : List (Claim × LostCause)} (hps : ps = [Payload.launched].filter fun p => s.mayBuild p.kind)
    (h : ∀ p, ps = [p] → (s.hasPlaceFor p = true ↔ ∀ x ∈ lost, x.2 ≠ .discarded)) :
    s.entersLaunched = true ↔ ps ≠ [] ∧ ∀ x ∈ lost, x.2 ≠ .discarded := by
  unfold State.entersLaunched
  rw [Bool.and_eq_true]
  cases hm : s.mayBuild .launched with
  | true =>
    have he : ps = [.launched] := hps.trans (List.filter_cons_of_pos hm)
    rw [h _ he, he]
    exact and_congr_left fun _ => ⟨fun _ => nofun, fun _ => rfl⟩
  | false =>
    have he : ps = [] := hps.trans (List.filter_cons_of_neg (by rw [show Payload.launched.kind = .launched from rfl, hm]; decide))
    exact ⟨fun hf => absurd hf.1 Bool.false_ne_true, fun hne => absurd he hne.1⟩

/-- Settles O42: the claims that the station may build are entered in their turn (`enterAll_settles`, `enterAll_room`), and
the hand-on leaves what `eventTaken_scoop` and `eventTaken_confirms` say. -/
theorem switchEventTaken : Obligations.SwitchEventTaken := by
  unfold Obligations.SwitchEventTaken
  refine ⟨fun s => exec_switchEventTake_idle, fun s e rest hev hrun hord => ?_⟩
  intro r mode hit onEdge claims allowed
  have hclaims : r.claims e.switch e.level = claims := by
    refine if_congr matchesEdge_iff ?_ rfl
    have hmode : r.modeClaim = mode := by
      unfold SwitchRule.modeClaim
      cases hm : r.mode <;> simp [mode, hm]
    rw [hmode]
    rfl
  have hallowed : ((r.claims e.switch e.level).filter fun p => s.mayBuild p.kind) = allowed := by
    rw [filter_mayBuild ruleClaims_ne_join, hclaims]
  have hexec : exec .switchEventTake s =
      .next ((s.setSw { s.sw with events := rest }).eventTaken r e allowed) := by
    rw [exec_switchEventTake hev hrun, dealEvent_eq, ← hallowed]
    rfl
  have hk := eventTaken_kept (s.setSw { s.sw with events := rest }) r e allowed
  have hclaim := eventTaken_claim (s.setSw { s.sw with events := rest }) r e allowed
  obtain ⟨lost, hent, htold, hplace⟩ := enterAll_settles (s.setSw { s.sw with events := rest }) (.switch e.switch) allowed
  have hconfirm : r.kind = .launchConfirm → r.edge = e.level →
      allowed = [Payload.launched].filter fun p => s.mayBuild p.kind := fun hkind hedge => by
    rw [← hallowed, ruleClaims_confirm hkind hedge]
  have hconfirms : r.kind = .launchConfirm → r.edge = e.level →
      Confirms (s.setSw { s.sw with events := rest })
        ((s.setSw { s.sw with events := rest }).eventTaken r e allowed) s.entersLaunched := fun hkind hedge => by
    refine eventTaken_confirms hord.distinct hkind hedge ?_
    rw [hconfirm hkind hedge]
    by_cases hm : s.mayBuild .launched = true
    · exact .inr (List.filter_cons_of_pos hm)
    · exact .inl (List.filter_cons_of_neg hm)
  refine ⟨_, hexec, hk.sw, fun hno => ?_, ⟨lost, ?_, fun he hl => eventTaken_told htold he hl, fun hkind hedge => ?_⟩,
    fun hl hm hv hst hroom => ?_, fun hkind hedge => (eventTaken_scoop hkind).1 hedge,
    fun hkind hedge => (eventTaken_scoop hkind).2.1 hedge, fun hkind => (eventTaken_scoop hkind).2.2,
    fun hkind hedge => ?_, hk.table, hk.eng, hk.bus, hk.sen, hk.cfg, hk.now, hk.pending, hk.ctl⟩
  · rw [hclaim, hno]
    rfl
  · rw [hclaim]
    exact hent
  · rw [(hconfirms hkind hedge).launches]
    exact if_congr Iff.rfl (if_congr (entersLaunched_iff (hconfirm hkind hedge) hplace) rfl rfl) rfl
  · have hall : allowed = claims := by
      have hbar : ¬(s.ctl.listener = true ∨ s.bus.muted = true ∨ s.isValid = false) := by simp [hl, hm, hv]
      exact (if_neg hbar).trans (if_pos hst)
    rw [hclaim, hall]
    exact enterAll_room _ hroom
  · have h := hconfirms hkind hedge
    exact ⟨h.failed, h.retry, h.drive, fun o => h.attempts o⟩

end SwitchEvents

end Sys2Proof.Machine

namespace Sys2Proof.Machine

/-! ### A decision and its delivery (R139, R140, R160, R166 to R168) -/

section Deliveries

variable {s t u w : State} {n : Slot} {o b : Output} {ch : Channel} {rest : List Channel} {edges : Nat}

/-! #### The decision, before its delivery -/

/-- R157 to R159: the state in which a decision is stored and reported, and not yet delivered. -/
def State.decisionStored (s : State) (ch : Channel) (rest : List Channel) (edges : Nat) : State :=
  ((s.windowEnded rest).stored ch (s.sen.channels[ch].measured s.cfg.channels[ch] edges)).sensorReport
    s.sen.channels[ch].state (s.sen.channels[ch].measured s.cfg.channels[ch] edges).state

/-- R157, R159: what the storing and reporting of a decision leave. -/
structure Decided (s w : State) : Prop where
  claim : w.claim = s.claim
  drv   : w.drv = s.drv
  cfg   : w.cfg = s.cfg
  table : w.table = s.table
  eng   : w.eng = s.eng
  ctl   : w.ctl = { s.ctl with faults := w.ctl.faults }
  muted : w.bus.muted = s.bus.muted

theorem sensorReport_driver (s : State) (old new : ChannelState) :
    (s.sensorReport old new).claim = s.claim ∧ (s.sensorReport old new).drv = s.drv := by
  unfold State.sensorReport
  split
  · exact ⟨(claims_setFault s _).claim, putFaults_drv s _⟩
  · split
    · exact ⟨(claims_clearFault s _).claim, putFaults_drv s _⟩
    · exact ⟨rfl, rfl⟩

theorem decided_decisionStored (s : State) (ch : Channel) (rest : List Channel) (edges : Nat) :
    Decided s (s.decisionStored ch rest edges) := by
  have hk := kept_sensorReport ((s.windowEnded rest).stored ch (s.sen.channels[ch].measured s.cfg.channels[ch] edges))
    s.sen.channels[ch].state (s.sen.channels[ch].measured s.cfg.channels[ch] edges).state
  obtain ⟨hc, hd⟩ := sensorReport_driver
    ((s.windowEnded rest).stored ch (s.sen.channels[ch].measured s.cfg.channels[ch] edges))
    s.sen.channels[ch].state (s.sen.channels[ch].measured s.cfg.channels[ch] edges).state
  exact ⟨hc, hd, hk.cfg, hk.table, hk.eng, hk.ctl, (congrArg Bus.muted hk.bus).trans rfl⟩

theorem Decided.isValid (h : Decided s w) : w.isValid = s.isValid := by
  unfold State.isValid
  rw [h.eng]

theorem Decided.freeMember (h : Decided s w) (hf : s.FreeMember) : w.FreeMember :=
  ⟨by rw [h.ctl]; exact hf.member, by rw [h.ctl]; exact hf.listener, h.muted.trans hf.muted, h.isValid.trans hf.valid⟩

/-- R160: the channel's state behind its decision. -/
theorem decisionStored_boundState (hb : s.cfg.boundTo n = some (ch, b)) :
    (s.decisionStored ch rest edges).boundState n
      = some (s.sen.channels[ch].measured s.cfg.channels[ch] edges).state := by
  have hk := kept_sensorReport ((s.windowEnded rest).stored ch (s.sen.channels[ch].measured s.cfg.channels[ch] edges))
    s.sen.channels[ch].state (s.sen.channels[ch].measured s.cfg.channels[ch] edges).state
  refine (hk.boundState n).trans ?_
  show (s.cfg.boundTo n).map _ = _
  rw [hb, Option.map_some, stored_channel, if_pos rfl]

/-- R160: the station behind a delivery. -/
def State.delivered (w : State) (n : Slot) (st : ChannelState) : State :=
  (((w.claimDelivery n st).ejectDelivery n st).deriveDuties).refreshLamps

/-- R160: a decision that has changed the state of a bound channel is delivered to the Claim Unit, then to the Driver
Unit. -/
theorem exec_measurementEnd_delivers (hs : s.sen.sweep = ch :: rest) (hb : s.cfg.channels[ch].binding = some (n, b))
    (hne : (s.sen.channels[ch].measured s.cfg.channels[ch] edges).state ≠ s.sen.channels[ch].state) :
    exec (.measurementEnd edges) s = .next
      ((s.decisionStored ch rest edges).delivered n (s.sen.channels[ch].measured s.cfg.channels[ch] edges).state) := by
  have hcfg := (decided_decisionStored s ch rest edges).cfg
  have hdeliver : ∀ st, (s.decisionStored ch rest edges).deliverDecision ch st =
      ((s.decisionStored ch rest edges).claimDelivery n st).driverDelivery n st := fun st => by
    unfold State.deliverDecision
    rw [hcfg, hb]
  rw [exec_measurementEnd hs, measure_eq]
  refine congrArg Host.Outcome.next ((if_neg hne).trans (congrArg State.refreshLamps ?_))
  exact hdeliver _

/-! #### The Claim Unit's part -/

/-- R130, R139: a claim that is asked for once is there, with room. -/
theorem exists_asked {p : Payload} {f : Payload → Bool} (hf : ∀ q, f q = true → q = p) (org : Origin)
    (hm : s.mayBuild p.kind = true) (hl : s.claim.queue.length < 8) :
    ∃ c ∈ (if s.hasClaim f = false then s.build p org else s).claim.queue, c.payload = p := by
  split
  · rw [build_queue s p org hm hl]
    exact ⟨_, (mem_insertClaim _ _ _).2 (.inl rfl), rfl⟩
  · next h =>
    obtain ⟨c, hc, hp⟩ := hasClaim_iff.1 (Bool.not_eq_false _ ▸ h)
    exact ⟨c, hc, hf _ hp⟩

theorem reconciles_of (hf : s.FreeMember) (ho : s.table.slots[n].owner = some s.ctl.station) : s.reconciles n = true := by
  unfold State.reconciles
  rw [hf.member, hf.valid, ho]
  simp

theorem claimDelivery_present (s : State) (n : Slot) : s.claimDelivery n .present = s.reconcile n := rfl

theorem claimDelivery_absent (s : State) (n : Slot) : s.claimDelivery n .absent = (s.setLatch n false).reconcile n := rfl

/-- R139: a delivery that is neither PRESENT nor ABSENT leaves the Claim Unit to the channel's state. -/
theorem claimDelivery_other {st : ChannelState} (hb : s.boundState n = some st) (hp : st ≠ .present) (ha : st ≠ .absent) :
    s.claimDelivery n st = s := by
  unfold State.claimDelivery
  rw [if_neg ha]
  refine reconcile_other (.inr ?_)
  rw [hb]
  exact ⟨fun h => hp (Option.some.inj h), fun h => ha (Option.some.inj h)⟩

section Owned

variable (hf : s.FreeMember) (ho : s.table.slots[n].owner = some s.ctl.station)
include hf ho

/-- R139: PRESENT over a DARK or OPEN slot. -/
theorem delivers_lock (hb : s.boundState n = some .present) (hl : s.table.slots[n].isLightable = true)
    (hj : s.claim.reject[n] = false) (hroom : s.claim.queue.length < 8) :
    ∃ c ∈ (s.claimDelivery n .present).claim.queue, c.payload = .lock n := by
  have he : s.reconcilePresent n =
      if s.hasClaim (Payload.isLockOf n) = false then s.build (.lock n) (.slot n) else s := by
    unfold State.reconcilePresent
    rw [if_pos hl, hj, if_neg (by decide)]
    cases s.hasClaim (Payload.isLockOf n) with
    | true => rfl
    | false => rfl
  rw [claimDelivery_present, reconcile_present (reconciles_of hf ho) hb, he]
  exact exists_asked (fun _ => isLockOf_iff.1) _ (hf.mayBuild nofun) hroom

/-- R140: PRESENT over such a slot with the latch set. -/
theorem delivers_bounce (hb : s.boundState n = some .present) (hl : s.table.slots[n].isLightable = true)
    (hj : s.claim.reject[n] = true) : s.claimDelivery n .present = s.requestBounce n := by
  rw [claimDelivery_present, reconcile_present (reconciles_of hf ho) hb]
  unfold State.reconcilePresent
  rw [if_pos hl, if_pos hj]

theorem claimDelivery_absent_eq (hb : s.boundState n = some .absent) :
    s.claimDelivery n .absent = ((s.setLatch n false).askAbsent n).setLatch n false := by
  have hf' : (s.setLatch n false).FreeMember := hf.kept (kept_setLatch s n false)
  rw [claimDelivery_absent, reconcile_absent (reconciles_of hf' ho) hb, reconcileAbsent_eq]

/-- R139: ABSENT over a HELD slot. -/
theorem delivers_lost (hb : s.boundState n = some .absent) (hh : s.table.slots[n].isHeld = true)
    (hroom : s.claim.queue.length < 8) : ∃ c ∈ (s.claimDelivery n .absent).claim.queue, c.payload = .lost n := by
  have he : (s.setLatch n false).askAbsent n =
      if (s.setLatch n false).hasClaim (Payload.isLostOf n) = false then (s.setLatch n false).build (.lost n) (.slot n)
      else s.setLatch n false := by
    unfold State.askAbsent
    rw [if_neg (by show ¬s.table.slots[n].isLightable = true; rw [notLightable_of_isHeld hh]; decide)]
    refine if_congr (and_iff_right hh) rfl (if_neg fun h => ?_)
    exact Bool.false_ne_true ((notLeaving_of_isHeld hh).symm.trans h.1)
  rw [claimDelivery_absent_eq hf ho hb, he]
  exact exists_asked (s := s.setLatch n false) (fun _ => isLostOf_iff.1) _
    ((hf.kept (kept_setLatch s n false)).mayBuild nofun) hroom

/-- R139: ABSENT over a RELEASING or JAMMED slot. -/
theorem delivers_released (hb : s.boundState n = some .absent) (hh : s.table.slots[n].isLeaving = true)
    (hroom : s.claim.queue.length < 8) : ∃ c ∈ (s.claimDelivery n .absent).claim.queue, c.payload = .released n := by
  obtain ⟨hl, hheld⟩ := notLightable_of_isLeaving hh
  have he : (s.setLatch n false).askAbsent n =
      if (s.setLatch n false).hasClaim (Payload.isReleasedOf n) = false then
        (s.setLatch n false).build (.released n) (.slot n)
      else s.setLatch n false := by
    unfold State.askAbsent
    rw [if_neg (by show ¬s.table.slots[n].isLightable = true; rw [hl]; decide),
      if_neg fun h => Bool.false_ne_true (hheld.symm.trans h.1)]
    exact if_congr (and_iff_right hh) rfl rfl
  rw [claimDelivery_absent_eq hf ho hb, he]
  exact exists_asked (s := s.setLatch n false) (fun _ => isReleasedOf_iff.1) _
    ((hf.kept (kept_setLatch s n false)).mayBuild nofun) hroom

/-- R140: ABSENT clears the latch. -/
theorem delivers_unlatched (hb : s.boundState n = some .absent) : (s.claimDelivery n .absent).claim.reject[n] = false := by
  rw [claimDelivery_absent_eq hf ho hb, setLatch_reject, if_pos rfl]

end Owned

/-- Of the Driver Unit only the requests for a BOUNCE and the launches unapplied have moved. -/
structure BounceMoves (s t : State) : Prop where
  drv : t.drv = { s.drv with bounce := t.drv.bounce, serve := { s.drv.serve with launches := t.drv.serve.launches } }

theorem LaunchesMove.bounceMoves (h : LaunchesMove s t) : BounceMoves s t := by
  refine ⟨?_⟩
  rw [h.drv]

theorem bounces_reconcile (s : State) (n : Slot) : BounceMoves s (s.reconcile n) := by
  have hsame : BounceMoves s s := ⟨rfl⟩
  rcases reconcile_cases s n with ⟨-, he⟩ | ⟨-, he⟩ | he
  · rw [he]
    unfold State.reconcilePresent
    repeat' split
    · exact ⟨rfl⟩
    · exact hsame
    · exact (moves_build s _ _).bounceMoves
    · exact hsame
  · have hask : LaunchesMove s (s.askAbsent n) :=
      .ite (moves_setQueue s _) (.ite (moves_build s _ _) (.ite (moves_build s _ _) (.refl s)))
    rw [he, reconcileAbsent_eq]
    exact ⟨hask.bounceMoves.drv⟩
  · rw [he]
    exact hsame

theorem bounces_claimDelivery (s : State) (n : Slot) (st : ChannelState) : BounceMoves s (s.claimDelivery n st) := by
  unfold State.claimDelivery
  split
  · exact ⟨(bounces_reconcile (s.setLatch n false) n).drv⟩
  · exact bounces_reconcile s n

end Deliveries

end Sys2Proof.Machine

namespace Sys2Proof.Machine

/-! ### The verified attempts that a delivery closes (R160, R163, R167, R168) -/

section VerifiedAttempts

variable {s t u w : State} {n : Slot} {o : Output} {x y : EjectDuty} {k : Nat}

/-- R162, R167: the output has an open attempt of the slot's eject duty, and it is verified. -/
def State.verifiesFor (s : State) (n : Slot) (o : Output) : Bool :=
  s.drv.outputs[o].attemptOpen && s.drv.outputs[o].duty == some (.eject n) && s.cfg.outputs[o].role == .eject

/-- The outputs whose attempts a delivery for the slot closes. -/
def State.verifiedFor (s : State) (n : Slot) : List Output := (indices 8).filter (s.verifiesFor n)

theorem nodup_verifiedFor (s : State) (n : Slot) : (s.verifiedFor n).Nodup := (nodup_indices 8).filter _

theorem mem_verifiedFor : o ∈ s.verifiedFor n ↔ s.verifiesFor n o = true := by
  simp [State.verifiedFor]

theorem verifiedFor_congr (ho : t.drv.outputs = s.drv.outputs) (hc : t.cfg = s.cfg) :
    t.verifiedFor n = s.verifiedFor n := by
  unfold State.verifiedFor State.verifiesFor
  rw [ho, hc]

theorem verifiesFor_iff : s.verifiesFor n o = true ↔
    s.drv.outputs[o].attemptOpen = true ∧ s.drv.outputs[o].duty = some (.eject n)
      ∧ s.cfg.verifies o (.eject n) = true := by
  unfold State.verifiesFor StationConfig.verifies
  rw [Bool.and_eq_true, Bool.and_eq_true, beq_iff_eq, and_assoc]

/-- R167: one verified attempt closes with success. -/
def State.ejectSucceeds (s : State) (n : Slot) (o : Output) : State := (s.succeedEject n).closeAttempt o

/-- R167, R168: one verified attempt closes with failure. -/
def State.ejectFails (s : State) (n : Slot) (o : Output) : State := (s.failEject n).closeAttempt o

/-- What the result of an attempt leaves of the Driver Unit's outputs and requests. -/
structure OutputsStand (s t : State) : Prop where
  kept     : Kept s t
  outputs  : t.drv.outputs = s.drv.outputs
  requests : t.drv.requests = s.drv.requests

theorem outputs_succeedEject (s : State) (n : Slot) : OutputsStand s (s.succeedEject n) :=
  ⟨kept_succeedEject s n, rfl, rfl⟩

theorem outputs_failEject (s : State) (n : Slot) : OutputsStand s (s.failEject n) := by
  have hj := jamsOnly_jammedAfter (s.updDrv fun d => d.updEject n fun x => x.failed s.now .afterFailure none) n
  refine ⟨kept_failEject s n, ?_, ?_⟩
  · unfold State.failEject
    rw [hj.drv]
    rfl
  · unfold State.failEject
    rw [hj.drv]
    rfl

/-- R163: behind its result an attempt closes as it does of itself. -/
theorem OutputsStand.shut (h : OutputsStand s u) (o : Output) :
    AttemptsShut s.cfg s.now [o] s.drv (u.closeAttempt o).drv := by
  have hs := attemptsShut_closeAttempt u o
  rw [h.kept.cfg, h.kept.now] at hs
  refine ⟨hs.requests.trans h.requests, fun k hk => (hs.others k hk).trans (by rw [h.outputs]), fun k hk => ?_⟩
  exact (hs.shut k hk).before h.requests (by rw [h.outputs])

/-- The verified attempts of others stand through one that closes. -/
theorem verified_stands {c : StationConfig} {now : Nat} (hk : Kept s t) (hs : AttemptsShut c now [o] s.drv t.drv)
    {p : Output} (hp : p ≠ o) :
    (t.drv.outputs[p].attemptOpen = true ∧ t.drv.outputs[p].duty = some (.eject n) ∧ t.cfg.verifies p (.eject n) = true)
      ↔ s.drv.outputs[p].attemptOpen = true ∧ s.drv.outputs[p].duty = some (.eject n)
        ∧ s.cfg.verifies p (.eject n) = true := by
  rw [hs.others p (by simpa using hp), hk.cfg]

/-- R167: the turns of a delivery are those of the verified attempts. -/
theorem foldl_verified {g : State → Output → State} (hk : ∀ s o, Kept s (g s o))
    (hg : ∀ s o, AttemptsShut s.cfg s.now [o] s.drv (g s o).drv) {l : List Output} (hl : l.Nodup) (s : State) :
    l.foldl (fun s o => if s.drv.outputs[o].attemptOpen ∧ s.drv.outputs[o].duty = some (.eject n)
        ∧ s.cfg.verifies o (.eject n) then g s o else s) s
      = (l.filter (s.verifiesFor n)).foldl g s := by
  have hfilter : (l.filter fun o => decide (s.drv.outputs[o].attemptOpen = true
      ∧ s.drv.outputs[o].duty = some (.eject n) ∧ s.cfg.verifies o (.eject n) = true)) = l.filter (s.verifiesFor n) :=
    List.filter_congr fun o _ => Bool.eq_iff_iff.2 (by rw [decide_eq_true_iff, verifiesFor_iff])
  rw [← hfilter]
  exact foldl_guarded (g := g) (c := fun (s : State) o => s.drv.outputs[o].attemptOpen = true
    ∧ s.drv.outputs[o].duty = some (.eject n) ∧ s.cfg.verifies o (.eject n) = true)
    (fun s a b hb => verified_stands (hk s a) (hg s a) hb) hl s

theorem kept_ejectSucceeds (s : State) (n : Slot) (o : Output) : Kept s (s.ejectSucceeds n o) :=
  (kept_succeedEject s n).trans (kept_closeAttempt _ o)

theorem kept_ejectFails (s : State) (n : Slot) (o : Output) : Kept s (s.ejectFails n o) :=
  (kept_failEject s n).trans (kept_closeAttempt _ o)

theorem ejectDelivery_absent (s : State) (n : Slot) :
    s.ejectDelivery n .absent = (s.verifiedFor n).foldl (fun s o => s.ejectSucceeds n o) s :=
  foldl_verified (g := fun s o => s.ejectSucceeds n o) (fun s o => kept_ejectSucceeds s n o)
    (fun s o => (outputs_succeedEject s n).shut o) (nodup_indices 8) s

theorem ejectDelivery_fault (s : State) (n : Slot) :
    s.ejectDelivery n .fault = (s.verifiedFor n).foldl (fun s o => s.ejectFails n o) s :=
  foldl_verified (g := fun s o => s.ejectFails n o) (fun s o => kept_ejectFails s n o)
    (fun s o => (outputs_failEject s n).shut o) (nodup_indices 8) s

/-- R167: a delivery of PRESENT or UNKNOWN closes nothing. -/
theorem ejectDelivery_other {st : ChannelState} (h : st = .present ∨ st = .unknown) : s.ejectDelivery n st = s := by
  unfold State.ejectDelivery
  refine List.foldl_fixed' (fun o => ?_) (indices 8)
  rcases h with rfl | rfl
  · exact ite_self s
  · exact ite_self s

/-- R163, R167: every verified attempt closes. -/
theorem ejectDelivery_shut {st : ChannelState} (h : st = .absent ∨ st = .fault) :
    AttemptsShut s.cfg s.now (s.verifiedFor n) s.drv (s.ejectDelivery n st).drv := by
  rcases h with rfl | rfl
  · rw [ejectDelivery_absent]
    exact .foldl (fun s o => kept_ejectSucceeds s n o) (fun s o => (outputs_succeedEject s n).shut o)
      (nodup_verifiedFor s n) s
  · rw [ejectDelivery_fault]
    exact .foldl (fun s o => kept_ejectFails s n o) (fun s o => (outputs_failEject s n).shut o)
      (nodup_verifiedFor s n) s

theorem claims_ejectSucceeds (s : State) (n : Slot) (o : Output) : ClaimsKept s (s.ejectSucceeds n o) := by
  have h : ClaimsKept s (s.succeedEject n) := claims_updDrv s _
  exact h.trans (claims_closeAttempt _ o)

/-- R160: of the deliveries that of FAULT alone may ask for a claim. -/
theorem claims_ejectDelivery {st : ChannelState} (h : st ≠ .fault) : ClaimsKept s (s.ejectDelivery n st) := by
  have hother : ∀ st', st' = .present ∨ st' = .unknown → ClaimsKept s (s.ejectDelivery n st') := fun st' h' => by
    rw [ejectDelivery_other h']
    exact .refl s
  cases st with
  | fault => exact absurd rfl h
  | present => exact hother _ (.inl rfl)
  | unknown => exact hother _ (.inr rfl)
  | absent =>
    rw [ejectDelivery_absent]
    exact .foldl (fun t o => claims_ejectSucceeds t n o) _ s

/-! #### What becomes of the eject duty -/

/-- R163: the end of an attempt leaves the kind, the count, the phase and the retry timer of a duty. -/
theorem closeAttempt_eject (o : Output) (hx : s.drv.ejects[n] = some x) :
    ∃ y, (s.closeAttempt o).drv.ejects[n] = some y ∧ y.kind = x.kind ∧ y.count = x.count ∧ y.phase = x.phase
      ∧ y.retryDue = x.retryDue := by
  rcases (recycling_closeAttempt s o).ejects n with he | he
  · exact ⟨x, he.trans hx, rfl, rfl, rfl, rfl⟩
  · exact ⟨ejectAfterRecycle x, he.trans (by rw [hx]; rfl), rfl, rfl, rfl, rfl⟩

/-- R167: the duty behind a success. -/
theorem ejectSucceeds_eject (o : Output) (hx : s.drv.ejects[n] = some x) :
    ∃ y, (s.ejectSucceeds n o).drv.ejects[n] = some y ∧ y.kind = x.kind ∧ y.count = 0 ∧ y.phase = .attempting := by
  obtain ⟨y, hy, hk, hc, hp, -⟩ := closeAttempt_eject o (updEject_eject hx fun x =>
    { x with count := 0, phase := .attempting, retryDue := none, want := false, await := .no })
  exact ⟨y, hy, hk, hc, hp⟩

/-- R167, R168: the duty behind successes. -/
theorem ejectSucceeds_all {l : List Output} (hx : s.drv.ejects[n] = some x) :
    ∃ y, (l.foldl (fun s o => s.ejectSucceeds n o) s).drv.ejects[n] = some y ∧ y.kind = x.kind
      ∧ (l ≠ [] ∨ x.count = 0 ∧ x.phase = .attempting → y.count = 0 ∧ y.phase = .attempting) := by
  induction l generalizing s x with
  | nil => exact ⟨x, hx, rfl, fun h => h.resolve_left (absurd rfl)⟩
  | cons o l ih =>
    obtain ⟨y, hy, hk, hc, hp⟩ := ejectSucceeds_eject o hx
    obtain ⟨z, hz, hkz, hres⟩ := ih hy
    exact ⟨z, hz, hkz.trans hk, fun _ => hres (.inr ⟨hc, hp⟩)⟩

/-- R168: the request for a JAMMED looks at Station Control, the validity, the table and the claims alone. -/
theorem jammedAsked_congr (hst : u.ctl.state = s.ctl.state) (hl : u.ctl.listener = s.ctl.listener)
    (hm : u.bus.muted = s.bus.muted) (hv : u.isValid = s.isValid) (ht : u.table = s.table) (hc : u.claim = s.claim)
    (h : JammedAsked u t n) : JammedAsked s t n := by
  unfold JammedAsked at h ⊢
  rwa [hst, hl, hm, hv, ht, hc] at h

theorem jammedAsked_of_kept (hk : Kept s u) (hc : u.claim = s.claim) (h : JammedAsked u t n) : JammedAsked s t n :=
  jammedAsked_congr hk.state hk.listener (by rw [hk.bus]) hk.isValid hk.table hc h

theorem jammedAsked_congr_claim (hc : u.claim = t.claim) (h : JammedAsked s t n) : JammedAsked s u n := by
  unfold JammedAsked
  rw [hc]
  exact h

/-- R130: a JAMMED that has been asked for is not asked for again. -/
theorem JammedAsked.again (h : JammedAsked s t n) : JammedAsked s (t.jammedAfter n) n := by
  have hreq : JammedAsked s (t.requestJammed n) n := fun hm hl hmu hv hrel hroom => by
    obtain ⟨c, hc, hp, horg⟩ := h hm hl hmu hv hrel hroom
    have he : t.requestJammed n = t := if_pos (hasClaim_iff.2 ⟨c, hc, isJammedOf_iff.2 hp⟩)
    rw [he]
    exact ⟨c, hc, hp, horg⟩
  unfold State.jammedAfter
  split
  · split
    · exact hreq
    · exact h
  · exact h

/-- R168: a RELEASE has reached its third failure, with `k` failures behind a count of `x`. -/
abbrev ThirdFailure (x : EjectDuty) (k : Nat) : Prop := 0 < k ∧ 3 ≤ x.count + k

/-- R167, R168: `k` verified attempts of the slot's RELEASE `x` have failed between `s` and `u`. -/
structure Failures (s u : State) (n : Slot) (x y : EjectDuty) (k : Nat) : Prop where
  kept   : Kept s u
  eject  : u.drv.ejects[n] = some y
  kind   : y.kind = x.kind
  count  : y.count = if k = 0 then x.count else min 3 (x.count + k)
  phase  : x.count + k < 3 → y.phase = x.phase
  third  : ThirdFailure x k → y.phase = .retrying ∧ y.retryDue = some (s.now + Config.retryTime)
  claim  : ¬ThirdFailure x k → u.claim = s.claim
  jammed : ThirdFailure x k → JammedAsked s u n

theorem failures_none (hx : s.drv.ejects[n] = some x) : Failures s s n x x 0 :=
  ⟨.refl s, hx, rfl, rfl, fun _ => rfl, fun h => absurd h.1 (Nat.lt_irrefl 0), fun _ => rfl,
    fun h => absurd h.1 (Nat.lt_irrefl 0)⟩

/-- R167, R168: one failure more. -/
theorem Failures.next (h : Failures s u n x y k) (hr : x.kind = .release) (o : Output) :
    ∃ z, Failures s (u.ejectFails n o) n x z (k + 1) := by
  have hj := ejectJudged_jammedAfter h.eject (f := fun x => x.failed u.now .afterFailure none)
    (failed_kind u.now .afterFailure none y)
  obtain ⟨z, hz, hkind, hcount, hphase, hretry⟩ := closeAttempt_eject o hj.eject
  have hfail := failed_count u.now .afterFailure none y
  have hclaim : (u.ejectFails n o).claim = (u.failEject n).claim := (claims_closeAttempt (u.failEject n) o).claim
  have hykind : (y.failed u.now .afterFailure none).kind = .release := (failed_kind _ _ _ y).trans (h.kind.trans hr)
  have hc3 : (y.failed u.now .afterFailure none).count = min 3 (x.count + (k + 1)) := by
    rw [hfail, h.count]
    split <;> omega
  refine ⟨z, h.kept.trans (kept_ejectFails u n o), hz, hkind.trans ((failed_kind _ _ _ y).trans h.kind), ?_, fun hlt => ?_,
    fun h3 => ?_, fun hno => ?_, fun h3 => ?_⟩
  · rw [hcount, hc3, if_neg (Nat.succ_ne_zero k)]
  · rw [hphase, failed_phase, if_pos (by rw [h.count]; split <;> omega)]
    exact h.phase (by omega)
  · obtain ⟨-, hp, hd⟩ := failed_third (x := y) u.now .afterFailure none (by
      have := h3.2
      rw [h.count]
      split <;> omega)
    exact ⟨hphase.trans hp, (hretry.trans hd).trans (by rw [h.kept.now])⟩
  · have hlt : x.count + (k + 1) < 3 := Nat.lt_of_not_le fun hle => hno ⟨Nat.succ_pos k, hle⟩
    exact (hclaim.trans (hj.same (.inr (by rw [hc3]; omega)))).trans (h.claim fun h3 => by have := h3.2; omega)
  · refine jammedAsked_congr_claim hclaim ?_
    by_cases hk : ThirdFailure x k
    · refine JammedAsked.again (t := u.updDrv fun d => d.updEject n fun x => x.failed u.now .afterFailure none) ?_
      exact h.jammed hk
    · have h3c : (y.failed u.now .afterFailure none).count = 3 := by
        rw [hc3]
        have := h3.2
        omega
      refine jammedAsked_of_kept (u := u.updDrv fun d => d.updEject n fun x => x.failed u.now .afterFailure none)
        (h.kept.trans (kept_updDrv u _)) (h.claim hk) ?_
      exact jammedAsked_jammedAfter (updEject_eject h.eject fun x => x.failed u.now .afterFailure none) hykind h3c

/-- R167, R168: failures one after another. -/
theorem Failures.all (h : Failures s u n x y k) (hr : x.kind = .release) (l : List Output) :
    ∃ z, Failures s (l.foldl (fun s o => s.ejectFails n o) u) n x z (k + l.length) := by
  induction l generalizing u y k with
  | nil => exact ⟨y, h⟩
  | cons o l ih =>
    obtain ⟨z, hz⟩ := h.next hr o
    obtain ⟨z', hz'⟩ := ih hz
    rw [Nat.add_assoc, Nat.add_comm 1] at hz'
    exact ⟨z', hz'⟩

end VerifiedAttempts

end Sys2Proof.Machine

namespace Sys2Proof.Machine

/-! ### A changed channel state, delivered (R139, R140, R160, R166 to R168) -/

section SlotDelivered

variable {s w : State} {n : Slot} {o b : Output} {x : EjectDuty} {st : ChannelState}

theorem kept_delivered (w : State) (n : Slot) (st : ChannelState) : Kept w (w.delivered n st) :=
  kept_derived w ((kept_claimDelivery w n st).trans (kept_ejectDelivery _ n st))

theorem delivered_claim (h : st ≠ .fault) : (w.delivered n st).claim = (w.claimDelivery n st).claim :=
  (derived_claim _).trans (claims_ejectDelivery h).claim

/-- R139, R140, R166: PRESENT over a DARK or OPEN slot with the latch set. -/
theorem delivered_bounce (hf : w.FreeMember) (ho : w.table.slots[n].owner = some w.ctl.station)
    (hb : w.boundState n = some .present) (hl : w.table.slots[n].isLightable = true) (hj : w.claim.reject[n] = true) :
    (w.delivered n .present).claim.queue = w.claim.queue
      ∧ ∃ y, (w.delivered n .present).drv.ejects[n] = some y ∧ y.kind = .bounce := by
  have hclaim : (w.delivered n .present).claim = w.claim := by
    rw [delivered_claim (st := .present) nofun, delivers_bounce hf ho hb hl hj]
    rfl
  have hbounce : (w.requestBounce n).drv.bounce[n] = true := (vmap_get_fin _ w.drv.bounce n).trans (if_pos rfl)
  have hkind : (w.delivered n .present).drv.ejectKind n = some .bounce := by
    unfold State.delivered
    rw [ejectDelivery_other (.inl rfl), delivers_bounce hf ho hb hl hj]
    exact derived_bounce (ejectHolds_bounce (s := w.requestBounce n) hf.valid hb hl hbounce hj)
  exact ⟨by rw [hclaim], Option.map_eq_some_iff.1 hkind⟩

/-- R139, R140: a delivery for a slot that this MEMBER owns. -/
theorem delivered_member (hf : w.FreeMember) (ho : w.table.slots[n].owner = some w.ctl.station)
    (hb : w.boundState n = some st) (hroom : w.claim.queue.length < 8) :
    (st = .present → w.table.slots[n].isLightable = true → w.claim.reject[n] = false →
        ∃ c ∈ (w.delivered n st).claim.queue, c.payload = .lock n)
      ∧ (st = .present → w.table.slots[n].isLightable = true → w.claim.reject[n] = true →
        (w.delivered n st).claim.queue = w.claim.queue
          ∧ ∃ y, (w.delivered n st).drv.ejects[n] = some y ∧ y.kind = .bounce)
      ∧ (st = .absent → (w.delivered n st).claim.reject[n] = false)
      ∧ (st = .absent → w.table.slots[n].isHeld = true → ∃ c ∈ (w.delivered n st).claim.queue, c.payload = .lost n)
      ∧ (st = .absent → w.table.slots[n].isLeaving = true →
        ∃ c ∈ (w.delivered n st).claim.queue, c.payload = .released n)
      ∧ (st = .unknown → (w.delivered n st).claim = w.claim) := by
  cases st with
  | present =>
    refine ⟨fun _ hl hj => ?_, fun _ => delivered_bounce hf ho hb, nofun, nofun, nofun, nofun⟩
    rw [delivered_claim (st := .present) nofun]
    exact delivers_lock hf ho hb hl hj hroom
  | absent =>
    rw [delivered_claim (st := .absent) nofun]
    exact ⟨nofun, nofun, fun _ => delivers_unlatched hf ho hb, fun _ hh => delivers_lost hf ho hb hh hroom,
      fun _ hh => delivers_released hf ho hb hh hroom, nofun⟩
  | unknown =>
    refine ⟨nofun, nofun, nofun, nofun, nofun, fun _ => ?_⟩
    rw [delivered_claim (st := .unknown) nofun, claimDelivery_other hb nofun nofun]
  | fault => exact ⟨nofun, nofun, nofun, nofun, nofun, nofun⟩

/-! #### The Driver Unit's part -/

/-- R163, R167: a verified attempt closes at the delivery of ABSENT or FAULT. -/
theorem delivered_attempts (h : st = .absent ∨ st = .fault) (hv : w.verifiesFor n o = true) :
    (w.drv.outputs[o].state = .pulse →
        (w.delivered n st).drv.outputs[o] = { w.drv.outputs[o] with attemptOpen := false })
      ∧ (w.drv.outputs[o].state = .verify → GoesOn w (w.delivered n st) o) := by
  have hk := kept_claimDelivery w n st
  have hdrv := (bounces_claimDelivery w n st).drv
  unfold State.delivered
  generalize w.claimDelivery n st = u at hk hdrv
  have hout : u.drv.outputs = w.drv.outputs := by rw [hdrv]
  have hreq : u.drv.requests = w.drv.requests := by rw [hdrv]
  have hmem : o ∈ u.verifiedFor n := by
    rw [verifiedFor_congr hout hk.cfg]
    exact mem_verifiedFor.2 hv
  have hkd := kept_ejectDelivery u n st
  have hshut := ((ejectDelivery_shut h).shut o hmem).derived hkd.cfg hkd.now
  rw [hout] at hshut
  exact hshut.imp_right fun hgo hverify => goesOn_congr hk.cfg hreq (hgo hverify)

/-- R166: a slot of this station that is RELEASING or JAMMED has its RELEASE. -/
theorem ejectHolds_release (hv : w.isValid = true) (hb : w.boundState n = some st)
    (hs : ∃ c, w.table.slots[n] = .releasing w.ctl.station c ∨ w.table.slots[n] = .jammed w.ctl.station c) :
    w.ejectHolds n = some .release := by
  have hslot : w.table.slots[n].owner = some w.ctl.station ∧ w.table.slots[n].isLeaving = true := by
    obtain ⟨c, hs | hs⟩ := hs
    · rw [hs]
      exact ⟨rfl, rfl⟩
    · rw [hs]
      exact ⟨rfl, rfl⟩
  unfold State.ejectHolds
  rw [hb]
  exact if_pos ⟨hv, hslot⟩

/-- R166: and the delivery leaves its condition. -/
theorem delivery_holds {u : State} (hk : Kept w u) (hv : w.isValid = true) (hb : w.boundState n = some st)
    (hs : ∃ c, w.table.slots[n] = .releasing w.ctl.station c ∨ w.table.slots[n] = .jammed w.ctl.station c) :
    u.ejectHolds n = some .release :=
  ejectHolds_release (hk.isValid.trans hv) ((hk.boundState n).trans hb) (by rw [hk.table, hk.station]; exact hs)

section Release

variable (hx : w.drv.ejects[n] = some x) (hr : x.kind = .release) (hv : w.isValid = true)
  (hs : ∃ c, w.table.slots[n] = .releasing w.ctl.station c ∨ w.table.slots[n] = .jammed w.ctl.station c)
  (hclosed : w.verifiedFor n ≠ [])
include hx hr hv hs hclosed

/-- R167: a RELEASE behind the delivery of ABSENT. -/
theorem delivered_absent (hb : w.boundState n = some .absent) :
    ∃ y, (w.delivered n .absent).drv.ejects[n] = some y ∧ y.kind = .release ∧ y.count = 0 ∧ y.phase = .attempting := by
  have hk := kept_claimDelivery w n .absent
  have hdrv := (bounces_claimDelivery w n .absent).drv
  unfold State.delivered
  generalize w.claimDelivery n .absent = u at hk hdrv
  have hux : u.drv.ejects[n] = some x := by rw [hdrv, hx]
  have huc : u.verifiedFor n ≠ [] := by rwa [verifiedFor_congr (by rw [hdrv]) hk.cfg]
  have hholds := delivery_holds (hk.trans (kept_ejectDelivery u n .absent)) hv hb hs
  rw [ejectDelivery_absent] at hholds ⊢
  obtain ⟨y, hy, hkind, hres⟩ := ejectSucceeds_all (l := u.verifiedFor n) hux
  obtain ⟨hc, hp⟩ := hres (.inl huc)
  obtain ⟨z, hz, hstands⟩ := derived_eject (not_ended_eject hy (by rw [hholds, hkind, hr])) hy
  exact ⟨z, hz, hstands.kind.trans (hkind.trans hr), hstands.count.trans hc, hstands.phase.trans hp⟩

/-- R167, R168: a RELEASE behind the delivery of FAULT. -/
theorem delivered_fault (hb : w.boundState n = some .fault) :
    ∃ y, (w.delivered n .fault).drv.ejects[n] = some y ∧ y.kind = .release
      ∧ y.count = min 3 (x.count + (w.verifiedFor n).length)
      ∧ (x.count + (w.verifiedFor n).length < 3 → y.phase = x.phase)
      ∧ (3 ≤ x.count + (w.verifiedFor n).length →
          y.phase = .retrying ∧ y.retryDue = some ((w.delivered n .fault).now + Config.retryTime)
            ∧ JammedAsked w (w.delivered n .fault) n) := by
  have hpos : 0 < (w.verifiedFor n).length := List.length_pos_of_ne_nil hclosed
  have hkd := kept_delivered w n .fault
  have hholds := delivery_holds (kept_ejectDelivery w n .fault) hv hb hs
  have hclaim : (w.delivered n .fault).claim = (w.ejectDelivery n .fault).claim := by
    unfold State.delivered
    rw [derived_claim, claimDelivery_other hb nofun nofun]
  unfold State.delivered at hclaim hkd ⊢
  rw [claimDelivery_other hb nofun nofun, ejectDelivery_fault] at hclaim hkd ⊢
  rw [ejectDelivery_fault] at hholds
  obtain ⟨y, hy⟩ := (failures_none hx).all hr (w.verifiedFor n)
  rw [Nat.zero_add] at hy
  obtain ⟨z, hz, hstands⟩ := derived_eject (not_ended_eject hy.eject (by rw [hholds, hy.kind, hr])) hy.eject
  refine ⟨z, hz, hstands.kind.trans (hy.kind.trans hr), ?_, fun hlt => hstands.phase.trans (hy.phase hlt), fun h3 => ?_⟩
  · rw [hstands.count, hy.count, if_neg hpos.ne']
  · obtain ⟨hp, hdue⟩ := hy.third ⟨hpos, h3⟩
    refine ⟨hstands.phase.trans hp, ?_, jammedAsked_congr_claim hclaim (hy.jammed ⟨hpos, h3⟩)⟩
    rw [hkd.now]
    rcases hstands.retry hp with hd | ⟨-, hd⟩
    · exact hd.trans hdue
    · rw [hd, hy.kept.now]

/-- R167, R168: a RELEASE behind a delivery that closes its attempts. -/
theorem delivered_release (hb : w.boundState n = some st) (hst : st = .absent ∨ st = .fault) :
    ∃ y, (w.delivered n st).drv.ejects[n] = some y ∧ y.kind = .release
      ∧ (st = .absent → y.count = 0 ∧ y.phase = .attempting)
      ∧ (st = .fault → y.count = min 3 (x.count + (w.verifiedFor n).length)
        ∧ (x.count + (w.verifiedFor n).length < 3 → y.phase = x.phase)
        ∧ (3 ≤ x.count + (w.verifiedFor n).length →
            y.phase = .retrying ∧ y.retryDue = some ((w.delivered n st).now + Config.retryTime)
              ∧ JammedAsked w (w.delivered n st) n)) := by
  rcases hst with rfl | rfl
  · obtain ⟨y, hy, hk, hc⟩ := delivered_absent hx hr hv hs hclosed hb
    exact ⟨y, hy, hk, fun _ => hc, nofun⟩
  · obtain ⟨y, hy, hk, hc⟩ := delivered_fault hx hr hv hs hclosed hb
    exact ⟨y, hy, hk, nofun, fun _ => hc⟩

end Release

/-- R168: a JAMMED asked for behind a decision that is stored and reported. -/
theorem Decided.jammedAsked {t : State} (h : Decided s w) (hj : JammedAsked w t n) : JammedAsked s t n :=
  jammedAsked_congr (by rw [h.ctl]) (by rw [h.ctl]) h.muted h.isValid h.table h.claim hj

theorem Decided.station (h : Decided s w) : w.ctl.station = s.ctl.station := by rw [h.ctl]

/-- Settles O43: the decision is stored and reported (`Decided`), then delivered to the Claim Unit (`delivered_member`) and
to the Driver Unit (`delivered_attempts`, `delivered_release`). -/
theorem slotReconciled : Obligations.SlotReconciled := by
  unfold Obligations.SlotReconciled
  refine ⟨fun s ch rest edges n o hsweep hbind hbound hm hl hmu hv howner hroom => ?_,
    fun s ch rest edges n b hsweep hbind => ?_⟩
  · intro new hne
    have hd := decided_decisionStored s ch rest edges
    have hb := decisionStored_boundState (rest := rest) (edges := edges) hbound
    have hmember := delivered_member (hd.freeMember ⟨hm, hl, hmu, hv⟩) (by rw [hd.table, hd.station, howner]) hb
      (by rw [hd.claim]; exact hroom)
    rw [hd.table, hd.claim] at hmember
    exact ⟨_, exec_measurementEnd_delivers hsweep hbind hne, (kept_delivered _ n new).table.trans hd.table, hmember⟩
  · intro new hne hnew verified closed
    have hd := decided_decisionStored s ch rest edges
    have hverified : (s.decisionStored ch rest edges).verifiedFor n = (indices 8).filter verified :=
      verifiedFor_congr (by rw [hd.drv]) hd.cfg
    refine ⟨(s.decisionStored ch rest edges).delivered n new, exec_measurementEnd_delivers hsweep hbind hne,
      fun p hp => ?_, fun x hx hr hbound hv hpos hslot => ?_⟩
    · have hvp : (s.decisionStored ch rest edges).verifiesFor n p = true := by
        unfold State.verifiesFor
        rw [hd.drv, hd.cfg]
        exact hp
      obtain ⟨hpulse, hverify⟩ := delivered_attempts hnew hvp
      rw [hd.drv] at hpulse hverify
      exact ⟨hpulse, fun h => goesOn_congr hd.cfg (by rw [hd.drv]) (hverify h)⟩
    · have hwx : (s.decisionStored ch rest edges).drv.ejects[n] = some x := by rw [hd.drv, hx]
      have hws : ∃ c, (s.decisionStored ch rest edges).table.slots[n]
            = .releasing (s.decisionStored ch rest edges).ctl.station c
          ∨ (s.decisionStored ch rest edges).table.slots[n] = .jammed (s.decisionStored ch rest edges).ctl.station c := by
        rw [hd.table, hd.station]
        exact hslot
      have hwc : (s.decisionStored ch rest edges).verifiedFor n ≠ [] := by
        rw [hverified]
        exact List.ne_nil_of_length_pos hpos
      obtain ⟨y, hy, hkind, habsent, hfault⟩ := delivered_release (st := new) hwx hr (hd.isValid.trans hv) hws hwc
        (decisionStored_boundState hbound) hnew
      rw [hverified] at hfault
      refine ⟨y, hy, hkind, habsent, fun hf => ?_⟩
      obtain ⟨hcount, hphase, hthird⟩ := hfault hf
      refine ⟨hcount, hphase, fun h3 => ?_⟩
      obtain ⟨hp, hdue, hj⟩ := hthird h3
      exact ⟨hp, hdue, hd.jammedAsked hj⟩

end SlotDelivered

end Sys2Proof.Machine
